-- ==== Sys2Proof/Word.lean ====
section
/-!
DEFINITION. The plainest types of the model: the octet of a wire or of a mailbox area, and the table, a sparse
indexed collection of records held as plain data.
-/

namespace Sys2Proof

/-- One octet of a port, a line frame or a sheet message (R194, R204, R205). -/
abbrev Octet := BitVec 8

/-- Records by index (seats by seat number, sittings by sitting index, and so on), held as a list of
index and record in strictly rising index order; an index not listed holds the table's default record. -/
abbrev Table (α : Type) := List (Nat × α)

end Sys2Proof
end

