-- ==== Sys2Proof/Config.lean ====
section
/-!
DEFINITION. What the part fixes: its capacities, ranges and factory values, each with the rule that states it, and
the free values of the model, the octet layouts that the spec does not give.
-/

namespace Sys2Proof.Config

/-- Roster slots (R1) and seats (R20, R21): 960 of each. -/
abbrev slots : Nat := 960
abbrev seats : Nat := 960
/-- Sitting records and answer keys (R62, R160). -/
abbrev sittings : Nat := 16
/-- Zones and desk lines (R20). -/
abbrev zones : Nat := 4
/-- Seats of one zone: 16 rows of 15 columns (R20). -/
abbrev zoneSeats : Nat := 240
abbrev columns : Nat := 15
abbrev rows : Nat := 16
/-- Unit addresses of a line: 0–239 desks, 240–247 trays; 255 addresses all units (R125). -/
abbrev units : Nat := 248
abbrev allUnits : Nat := 255
/-- Collection trays, and the tags one holds (R107). -/
abbrev trays : Nat := 32
abbrev trayTags : Nat := 40
/-- Offer table (R39), reseat queue (R40), outbound queue (R136). -/
abbrev offers : Nat := 16
abbrev reseats : Nat := 16
abbrev queued : Nat := 32
/-- Highest candidate number and script tag (R3, R17). -/
abbrev lastNumber : Nat := 99999999
abbrev lastTag : Nat := 999999
/-- Hall time and writing elapsed hold at this value once they reach it (R62, R74). -/
abbrev lastSecond : Nat := 4294967295
/-- Highest budget (R85), and the bounds of one adjustment and of the adjustment sum (R99). -/
abbrev lastBudget : Nat := 57600
abbrev lastAdjust : Int := 3600
abbrev lastAdjustSum : Int := 14400
/-- Length of the ENTER_LEVEL lockout in hall seconds (R200), of a BELL pulse (R80), of an offer's wait (R49). -/
abbrev lockoutSeconds : Nat := 60
abbrev bellSeconds : Nat := 3
abbrev offerSeconds : Nat := 5
/-- Size of the PARAM and RESULT areas (R194). -/
abbrev areaOctets : Nat := 128
/-- Places of the sheet verdict queue (R148) and rows of a sheet buffer (R145). -/
abbrev sheetReplies : Nat := 4
abbrev sheetRows : Nat := 120
/-- Last key revision (R160), and the question count's upper end. -/
abbrev lastRevision : Nat := 31
abbrev lastQuestion : Nat := 120

/-- FREE VALUE. The octet at offset `i` of a block, frame or payload whose contents the spec gives but whose layout it
does not (a task's result block beyond its first two octets, the line payloads other than CLOCK, and the bits of a
sent octet to which it gives no contents: notes, assumption 56). It has no body: nothing can be proved about its
value. Notes, assumption 3. -/
opaque layoutOctet {α : Type} (content : α) (i : Nat) : Octet

/-- FREE VALUE. What a code octet of an answer stands for, for the answer's kind; the spec gives these octets no
codes. It has no body: nothing can be proved about its value. Notes, assumption 3. -/
opaque layoutValue (α : Type) [Inhabited α] (kind : Nat) (o : Octet) : α

/-- FREE VALUE. The operands that the 128 octets of the PARAM area spell for the task of a code; the spec gives a
task's parameters and no layout for them. It has no body: nothing can be proved about its value. Notes, assumption 3.
-/
opaque operands (α : Type) [Inhabited α] (code : Nat) (param : List Octet) : α

end Sys2Proof.Config
end

