-- ==== Sys2Proof/Syntax.lean ====
section
/-!
DEFINITION. The commands of the part: one constructor of `Instr` per row of spec/opcode_table.json, with the operands
its rule names. A code parameter that may name no value of its kind is an `Option`: `none` is any other code.
-/

namespace Sys2Proof

/-- The access levels (R199). -/
inductive Level where
  | none
  | invigilator
  | examiner
  deriving DecidableEq, Repr

/-- The two levels that have a passcode (R200, R201). -/
inductive PassLevel where
  | invigilator
  | examiner
  deriving DecidableEq, Repr, Inhabited

/-- The four areas of the task port (R194). -/
inductive Area where
  | task
  | param
  | result
  | status
  deriving DecidableEq, Repr

/-- A set of the six capability kinds; needs are sets of the same kinds (R3, R21). -/
structure CapSet where
  stepFree : Bool := false
  power : Bool := false
  largeDisplay : Bool := false
  leftDesk : Bool := false
  edge : Bool := false
  supervised : Bool := false
  deriving DecidableEq, Repr, Inhabited

/-- A set of zones (R62). -/
structure ZoneSet where
  zone0 : Bool := false
  zone1 : Bool := false
  zone2 : Bool := false
  zone3 : Bool := false
  deriving DecidableEq, Repr, Inhabited

/-- The option letters of a question (R156). -/
inductive Choice where
  | a
  | b
  | c
  | d
  | e
  deriving DecidableEq, Repr, Inhabited

/-- A set of option letters (R160). -/
structure ChoiceSet where
  a : Bool := false
  b : Bool := false
  c : Bool := false
  d : Bool := false
  e : Bool := false
  deriving DecidableEq, Repr, Inhabited

/-- The outcome of one question (R156). -/
inductive Mark where
  | blank
  | option (o : Choice)
  | multiple
  | doubtful
  deriving DecidableEq, Repr

/-- The spacing rules (R42). -/
inductive Spacing where
  | open
  | side
  | cross
  deriving DecidableEq, Repr

/-- The side of a reservation extent (R33). -/
inductive Side where
  | front
  | back
  deriving DecidableEq, Repr, Inhabited

/-- The owner of a reservation extent: a sitting or SPECIAL (R33). -/
inductive Owner where
  | sitting (k : Nat)
  | special
  deriving DecidableEq, Repr, Inhabited

/-- The presence states (R4). -/
inductive Presence where
  | expected
  | present
  | displaced
  | finished
  | absent
  deriving DecidableEq, Repr, Inhabited

/-- LIST's presence filter (R16). -/
inductive PresenceFilter where
  | any
  | only (p : Presence)
  | other
  deriving DecidableEq, Repr, Inhabited

/-- A roster entry named by candidate number or by script tag (R15, R191). -/
inductive EntryName where
  | number (n : Nat)
  | tag (t : Nat)
  deriving DecidableEq, Repr, Inhabited

/-- What SEAT_INFO names (R32); `other` is a selector of neither. -/
inductive SeatOrZone where
  | seat (d : Nat)
  | zone (z : Nat)
  | other
  deriving DecidableEq, Repr, Inhabited

/-- What MOVE names (R59). -/
inductive MoveTarget where
  | seat (d : Nat)
  | anySeat
  deriving DecidableEq, Repr, Inhabited

/-- What HOLD and RESUME name (R76, R78). -/
inductive SittingOrAll where
  | one (k : Nat)
  | all
  deriving DecidableEq, Repr, Inhabited

/-- The conditions of a hall signal output (R80). -/
inductive SignalCond where
  | none
  | steady
  | reading (k : Nat)
  | writing (k : Nat)
  | held (k : Nat)
  | anyHeld
  | bell (k : Nat)
  | alarmEcho
  deriving DecidableEq, Repr, Inhabited

/-- The policies of a key (R160). -/
inductive Penalty where
  | none
  | quarter
  | third
  | half
  | whole
  deriving DecidableEq, Repr

inductive MultiplePolicy where
  | zero
  | wrong
  deriving DecidableEq, Repr

inductive FloorPolicy where
  | none
  | zero
  deriving DecidableEq, Repr

inductive ReadPolicy where
  | single
  | double
  deriving DecidableEq, Repr

/-- One entry of ENROL's block (R6, R7). -/
structure EnrolEntry where
  number : Nat
  needs : CapSet
  allowance : Nat
  restAllowance : Nat
  deriving DecidableEq, Repr

/-- The definition DEFINE_SITTING gives (R63); the paper code is its character codes. -/
structure DefineParams where
  paper : List Nat
  zones : ZoneSet
  spacing : Option Spacing
  confined : Bool
  openTime : Option Nat
  startTime : Option Nat
  reading : Nat
  writing : Nat
  lateLimit : Nat
  earlyBar : Nat
  lastBar : Nat
  warning1 : Nat
  warning2 : Nat
  deriving DecidableEq, Repr, Inhabited

/-- One question entry of a question chunk (R163). -/
structure QuestionParams where
  options : Nat
  accepted : ChoiceSet
  weight : Nat
  void : Bool
  deriving DecidableEq, Repr

/-- A chunk of LOAD_KEY (R162, R163). -/
inductive KeyChunk where
  | header (q : Nat) (penalty : Option Penalty) (multiple : Option MultiplePolicy)
      (floor : Option FloorPolicy) (read : Option ReadPolicy)
  | questions (start : Nat) (entries : List QuestionParams)
  | clear
  deriving DecidableEq, Repr, Inhabited

/-- The kind of an amendment (R171). -/
inductive AmendKind where
  | void
  | addAlternative (o : Choice)
  deriving DecidableEq, Repr, Inhabited

/-- The parts of READ_KEY (R165). -/
inductive KeyPart where
  | headerAndQuestions
  | amendments
  deriving DecidableEq, Repr, Inhabited

/-- The parts of READ_MARK (R191). -/
inductive MarkPart where
  | summary
  | first
  | second
  | working
  deriving DecidableEq, Repr, Inhabited

/-- The kind of a unit as its JOIN states it (R129, R140). -/
inductive UnitKind where
  | desk
  | tray
  deriving DecidableEq, Repr, Inhabited

/-- One item that takes the hall second: the lockout (R200), the offer deadlines (R50), one candidate clock (R86), one
BELL pulse (R80), or one sitting's counters and schedule (R65, R69). -/
inductive HallItem where
  | lockout
  | offers
  | clock (number : Nat)
  | bell (output : Nat)
  | sitting (k : Nat)
  deriving DecidableEq, Repr

/-- The commands: the rows of spec/opcode_table.json, in its order. A line event names its line `z`, the address `u` of
the answering unit and, where it is an event of R134, its event number bit `n`. -/
inductive Instr where
  -- the task port
  | areaWrite (area : Area) (offset : Nat) (data : List Octet)
  | enterLevel (level : Option PassLevel) (passcode : BitVec 32)
  | leaveLevel
  | setPasscode (level : Option PassLevel) (value : Option (BitVec 32))
  | setGrants (groups : Octet)
  | readNotices
  | saveSettings
  | settingsWriteEnd (correct : Bool)
  | reboot
  | setLineLimits (loss regain : Nat)
  | setSignal (output : Nat) (cond : Option SignalCond)
  -- the roster
  | enrol (k : Nat) (entries : List EnrolEntry)
  | withdraw (number : Nat)
  | amend (number : Nat) (needs : Option CapSet) (allowance restAllowance : Option Nat)
  | lookup (name : EntryName)
  | list (filter : Nat) (presence : PresenceFilter) (start : Nat)
  -- the seat map
  | seatInfo (name : SeatOrZone)
  | disableSeat (d : Nat)
  | enableSeat (d : Nat)
  | reserve (zone : Nat) (side : Option Side) (code : Nat) (owner : Owner)
  | unreserve (zone : Nat) (side : Option Side)
  -- placement
  | allocate (k : Nat)
  | abortAllocation (k : Nat)
  | move (number : Nat) (target : MoveTarget)
  | restartLine (z : Nat)
  -- sittings
  | defineSitting (k : Nat) (params : DefineParams)
  | openNow (k : Nat)
  | hold (target : SittingOrAll)
  | resume (target : SittingOrAll)
  | closeCollection (k : Nat)
  | retireSitting (k : Nat)
  | setHallTime (value : BitVec 32)
  | sittingInfo (k : Nat)
  | adjustTime (number : Nat) (adjustment : Int)
  | endCandidate (number : Nat)
  -- scripts and trays
  | voidScript (number : Nat)
  | trayInfo (tray start : Nat)
  | clearTray (tray : Nat)
  -- keys, decoding settings, batches, review
  | loadKey (k : Nat) (chunk : Option KeyChunk)
  | lockKey (k : Nat)
  | amendKey (k question : Nat) (kind : Option AmendKind)
  | readKey (k : Nat) (part : Option KeyPart) (start : Nat)
  | setCalibration (selector : Nat) (gain : BitVec 16) (shift : Nat) (offset : Int)
  | setThresholds (high low margin : Nat)
  | beginBatch (tray : Nat)
  | endBatch
  | batchClose
  | readMark (name : EntryName) (part : Option MarkPart)
  | resolveQuery (number : Nat) (pairs : List (Nat × Mark))
  | resolveDispute (number choice : Nat)
  | manualMark (number : Nat) (total : Int)
  | releaseResults (k : Nat)
  -- the hall second and what it reaches
  | hallSecond (later : List HallItem)
  | openTime (k : Nat)
  | startTime (k : Nat)
  | readingEnd (k : Nat)
  | lateLimit (k : Nat)
  | writingEnd (k : Nat)
  | clockExpiry (number : Nat)
  | restExhausted (number : Nat)
  | warningFire (number : Nat)
  | offerDeadline
  | lockoutEnd
  | bellPulseEnd (output : Nat)
  | alarmAssert
  | alarmRelease
  -- the part's own steps
  | placementStep
  | walkVisit
  -- the desk lines
  | slotStart (z : Nat)
  | frameSent (z : Nat)
  | answerWindowClose (z : Nat)
  | quiet (z u : Nat)
  | join (z u : Nat) (kind : UnitKind) (caps : CapSet)
  | checkin (z u : Nat) (n : Bool) (number tag : Nat)
  | handin (z u : Nat) (n : Bool) (number : Nat)
  | restBegin (z u : Nat) (n : Bool) (number : Nat)
  | restEnd (z u : Nat) (n : Bool) (number : Nat)
  | help (z u : Nat) (n : Bool)
  | offerReplyAccept (z u : Nat) (n : Bool) (number : Nat)
  | offerReplyRefuse (z u : Nat) (n : Bool) (number : Nat) (caps : CapSet)
  | tagRead (z u : Nat) (n : Bool) (tag : Nat)
  | linkLoss (z : Nat)
  | linkRegain (z u : Nat)
  -- the sheet port; a sheet begins at the octet A5h, and a message is the octets after it
  | sheetBegin
  | sheetMessage (octets : List Octet)
  | sheetGap (octets : List Octet)
  | decoderTake
  | sheetHandover
  | sheetVerdictSend
  -- starts and supplies
  | coldStart
  | resetn
  | mainSupplyLoss
  | mainSupplyReturn
  | startupComplete
  | standbySupplyLoss
  | sheetInputGapSeen
  deriving DecidableEq, Repr

end Sys2Proof
end

