-- ==== Sys2Proof/Machine/State.lean ====
section
/-!
DEFINITION. Everything the spec gives the part to hold, as plain data, one structure per functional block, and the
part right after reset. Every type is closed data; tables are sparse (Word.lean), each with its default record.
-/

namespace Sys2Proof.Machine

/-! ### The task port (R194–R200) -/

/-- The result codes (R196). -/
inductive ResultCode where
  | ok | started | denied | badParam | notFound | wrongPhase | wrongState | busy | full | duplicate | conflict
  | locked | alarmActive | storeFault | pending | unknownTask
  deriving DecidableEq, Repr

/-- The twenty notice kinds, in their code order (R206). -/
inductive NoticeKind where
  | coldStart | warmStart | settingsLost | alarm | hold | phase | allocDone | deskLost | deskRegained | displaced
  | reseatFailed | help | queueDrop | strayTag | premature | sheetRejected | query | dispute | rescoreDone | batchDone
  deriving DecidableEq, Repr

/-- The cause of the last start (R197). -/
inductive StartCause where
  | cold | resetn | reboot | supply
  deriving DecidableEq, Repr

/-- The subject of a notice, by its sort (R198, R206). -/
inductive Subject where
  | none
  | seat (d : Nat)
  | tray (u : Nat)
  | candidate (n : Nat)
  | sitting (k : Nat)
  | cause (c : StartCause)
  deriving DecidableEq, Repr

/-- One record of the notice set (R198). -/
structure Notice where
  count : Nat := 0
  subject : Subject := .none
  deriving DecidableEq, Repr

/-! ### The settings store (R202) -/

/-- Gain, shift and offset of one channel (R151). -/
structure Channel where
  gain : Nat := 16384
  shift : Nat := 0
  offset : Int := 0
  deriving DecidableEq, Repr

/-- The calibration set, one channel per option column (R151). -/
structure CalSet where
  a : Channel := {}
  b : Channel := {}
  c : Channel := {}
  d : Channel := {}
  e : Channel := {}
  deriving DecidableEq, Repr

/-- The thresholds and the erasure margin (R153). -/
structure Thresholds where
  high : Nat := 600
  low : Nat := 350
  margin : Nat := 200
  deriving DecidableEq, Repr

/-- The invigilator grant set (R199). -/
structure Grants where
  roster : Bool := false
  seats : Bool := false
  placement : Bool := false
  sittingControl : Bool := false
  time : Bool := false
  review : Bool := false
  deriving DecidableEq, Repr

/-- The conditions assigned to the four hall signal outputs (R80). -/
structure Signals where
  out0 : SignalCond := .none
  out1 : SignalCond := .none
  out2 : SignalCond := .none
  out3 : SignalCond := .none
  deriving DecidableEq, Repr

/-- The settings, with their factory values (R202); an unset passcode is `none`. -/
structure Settings where
  invigilatorPasscode : Option (BitVec 32) := none
  examinerPasscode : Option (BitVec 32) := none
  grants : Grants := { seats := true, sittingControl := true, time := true }
  calibration : CalSet := {}
  thresholds : Thresholds := {}
  lossLimit : Nat := 4
  regainLimit : Nat := 8
  signals : Signals := {}
  deriving DecidableEq, Repr

/-- The settings, held twice (R202): the working settings, the nonvolatile image with whether its check value is good,
and the copy SAVE_SETTINGS is writing while the store is written. -/
structure SettingsStore where
  working : Settings := {}
  image : Settings := {}
  imageGood : Bool := true
  writing : Option Settings := none
  deriving DecidableEq, Repr

/-! ### The roster store (R1–R19) -/

/-- The clock phases (R84). -/
inductive ClockPhase where
  | waiting | running | ended
  deriving DecidableEq, Repr

/-- The custody states (R105). -/
inductive Custody where
  | none | issued | handedIn | collected | readOnce | provisional | disputed | manual | marked | missing | void
  | released
  deriving DecidableEq, Repr

/-- The totals scoring writes together (R166, R170). -/
structure Totals where
  revision : Nat
  maximum : Nat
  total : Int
  mark : Int
  percent : Int
  deriving DecidableEq, Repr

/-- What RESOLVE_QUERY reports of the totals: all but the maximum (R188). -/
structure Score where
  revision : Nat
  total : Int
  mark : Int
  percent : Int
  deriving DecidableEq, Repr

def Totals.score (t : Totals) : Score :=
  { revision := t.revision, total := t.total, mark := t.mark, percent := t.percent }

/-- The mark record (R166); `totals` is `none` for a record whose custody is MANUAL. -/
structure MarkRecord where
  first : List Mark
  second : Option (List Mark) := none
  working : List Mark
  queries : List Nat := []
  disputes : List Nat := []
  many : Bool := false
  totals : Option Totals := none
  floored : Bool := false
  noMaximum : Bool := false
  manual : Bool := false
  outOfSequence : Bool := false
  extraRows : Bool := false
  strayFill : Bool := false
  erasures : Nat := 0
  deriving DecidableEq, Repr

/-- One roster entry with its six facets (R3–R5, R84, R105). The pause causes are the two flags `resting` and
`displacedCause`. -/
structure Entry where
  slot : Nat
  number : Nat
  sitting : Nat
  needs : CapSet
  allowance : Nat
  restAllowance : Nat
  seat : Option Nat := none
  offer : Option Nat := none
  presence : Presence := .expected
  clock : ClockPhase := .waiting
  resting : Bool := false
  displacedCause : Bool := false
  budget : Nat := 0
  used : Nat := 0
  adjustSum : Int := 0
  restUsed : Nat := 0
  warned1 : Bool := false
  warned2 : Bool := false
  tag : Option Nat := none
  custody : Custody := .none
  tray : Option Nat := none
  mark : Option MarkRecord := none
  deriving DecidableEq, Repr

/-- The entries in roster order (ascending candidate number), each with its slot (R1), and the tag index, a map from
script tag to slot (R17). A slot no entry holds is free. -/
structure RosterStore where
  entries : List Entry := []
  tags : List (Nat × Nat) := []
  deriving DecidableEq, Repr

/-! ### The seat map (R20–R37) -/

/-- Link states (R21, R130). -/
inductive Link where
  | unknown | up | down
  deriving DecidableEq, Repr

/-- Seat tenure with what each state carries: the offeree's slot, the occupant's slot, the awaiting tag (R21). -/
inductive Tenure where
  | empty
  | offered (slot : Nat)
  | held (slot : Nat)
  | occupied (slot : Nat)
  | vacated (slot tag : Nat)
  deriving DecidableEq, Repr

/-- The five tenures as tasks report them: the occupant, the offeree and the awaiting tag are internal, and a report
gives the candidate number and the tag beside the tenure (R21). -/
inductive TenureKind where
  | empty | offered | held | occupied | vacated
  deriving DecidableEq, Repr

def Tenure.kind : Tenure → TenureKind
  | .empty => .empty
  | .offered _ => .offered
  | .held _ => .held
  | .occupied _ => .occupied
  | .vacated _ _ => .vacated

/-- One seat record (R21). -/
structure Seat where
  link : Link := .unknown
  caps : CapSet := {}
  disabled : Bool := false
  tenure : Tenure := .empty
  deriving DecidableEq, Repr

/-- A reservation extent: its code and its owner (R33). -/
structure Extent where
  code : Nat
  owner : Owner
  deriving DecidableEq, Repr

/-- The two extents of a zone (R33). -/
structure ZoneExtents where
  front : Option Extent := none
  back : Option Extent := none
  deriving DecidableEq, Repr

structure SeatMap where
  seats : Table Seat := []
  extents : Table ZoneExtents := []
  deriving DecidableEq, Repr

/-! ### The placement unit (R38–R61) -/

inductive Purpose where
  | run | reseat | move
  deriving DecidableEq, Repr

/-- WAITING_TO_SEND, or SENT with the hall seconds still to run (R39). -/
inductive Stage where
  | waiting
  | sent (deadline : Nat)
  deriving DecidableEq, Repr

/-- One offer table entry (R39). -/
structure Offer where
  seat : Nat
  slot : Nat
  purpose : Purpose
  origin : Option Nat
  stage : Stage
  deriving DecidableEq, Repr

/-- One reseat queue entry (R40). -/
structure Reseat where
  slot : Nat
  former : Option Nat
  excluded : Option Nat
  deriving DecidableEq, Repr

/-- The run record (R38): `position` counts the list entries already served. -/
structure Run where
  sitting : Nat
  list : List Nat
  position : Nat
  retry : List Nat
  skip : List Nat
  placed : Nat
  unplaced : Nat
  passed : Nat
  deriving DecidableEq, Repr

/-- The run, the offer table in the order the offers were made (R139 hands the oldest first), the reseat queue. -/
structure PlacementUnit where
  run : Option Run := none
  offers : List Offer := []
  reseats : List Reseat := []
  deriving DecidableEq, Repr

/-! ### Sitting control (R62–R83) -/

inductive Phase where
  | empty | defined | opened | reading | writing | overtime | collecting | closed | released
  deriving DecidableEq, Repr

/-- Hold reasons (R62, R76–R78). -/
structure Holds where
  host : Bool := false
  alarm : Bool := false
  restart : Bool := false
  deriving DecidableEq, Repr

inductive AllocState where
  | idle | running | done | partialRun | aborted
  deriving DecidableEq, Repr

/-- The definition of a sitting (R62); its default is the cleared definition of an EMPTY sitting. -/
structure Definition where
  paper : List Nat := []
  zones : ZoneSet := {}
  spacing : Spacing := .open
  confined : Bool := false
  openTime : Option Nat := none
  startTime : Option Nat := none
  reading : Nat := 0
  writing : Nat := 0
  lateLimit : Nat := 0
  earlyBar : Nat := 0
  lastBar : Nat := 0
  warning1 : Nat := 0
  warning2 : Nat := 0
  deriving DecidableEq, Repr

/-- One sitting record (R62), with its allocation state and run counts (R38) and its six counts (R81). In an EMPTY
sitting reading remaining and writing elapsed are 0 (DESIGN CHOICE: R62, R72 and R83 give them no value there; notes,
assumption 55). -/
structure Sitting where
  phase : Phase := .empty
  defn : Definition := {}
  readingLeft : Nat := 0
  elapsed : Nat := 0
  holds : Holds := {}
  alloc : AllocState := .idle
  runPlaced : Nat := 0
  runUnplaced : Nat := 0
  runPassed : Nat := 0
  enrolled : Nat := 0
  placed : Nat := 0
  present : Nat := 0
  awaiting : Nat := 0
  collected : Nat := 0
  final : Nat := 0
  deriving DecidableEq, Repr

/-- The sixteen sittings, and for each signal output the seconds its BELL pulse has still to run (R80). -/
structure SittingControl where
  sittings : Table Sitting := []
  bells : Table Nat := []
  deriving DecidableEq, Repr

/-! ### Trays (R107) -/

inductive TrayState where
  | empty | filling | full | reading | done
  deriving DecidableEq, Repr

structure Tray where
  state : TrayState := .empty
  sitting : Option Nat := none
  tags : List Nat := []
  deriving DecidableEq, Repr

/-! ### Desk lines (R123–R143) -/

/-- The verdicts on CHECKIN, HANDIN and REST (R103). -/
inductive DeskVerdict where
  | accepted | tooEarly | tooLate | notYourSeat | tagInUse | tagMismatch | held | reading | earlyBar | lastBar
  | alreadyEnded | noRestLeft
  deriving DecidableEq, Repr

/-- The event kinds a VERDICT answers (R103). -/
inductive EventKind where
  | checkin | handin | rest
  deriving DecidableEq, Repr

/-- The verdicts on TAG_READ (R112). -/
inductive TrayVerdict where
  | accept | ack | stray | premature | void | duplicate | trayBusy | trayFull | mixedSitting
  deriving DecidableEq, Repr

/-- What a desk's STATE shows (R140). -/
inductive Shown where
  | empty
  | disabled
  | held (number sitting : Nat)
  | occupied (number sitting : Nat)
  | vacated (tag : Nat)
  deriving DecidableEq, Repr

/-- The contents of a PHASE (R79). -/
structure PhaseMsg where
  sitting : Nat
  phase : Phase
  holds : Holds
  writing : Nat
  readingLeft : Nat
  elapsed : Nat
  deriving DecidableEq, Repr

/-- The contents of a CLOCK (R102). -/
structure ClockMsg where
  number : Nat
  sitting : Nat
  clock : ClockPhase
  resting : Bool
  displaced : Bool
  held : Bool
  budget : Nat
  used : Nat
  restLeft : Nat
  deriving DecidableEq, Repr

/-- The messages of the outbound queues with their contents (R136, R140). -/
inductive Msg where
  | offer (number sitting : Nat) (needs : CapSet)
  | withdraw (number : Nat)
  | state (shown : Shown)
  | trayState (state : TrayState) (sitting : Option Nat) (count : Nat)
  | phase (m : PhaseMsg)
  | clock (m : ClockMsg)
  | warn (number mark remaining : Nat)
  | verdict (event : EventKind) (number : Nat) (v : DeskVerdict)
  | trayVerdict (tag : Nat) (v : TrayVerdict) (state : TrayState) (count : Nat)
  | resync
  deriving DecidableEq, Repr

/-- One outbound queue entry (R136). `transmitted`: its first transmission has been reported (R128); `inSlot`: its
frame is the one of the slot under way; `replaced`: its CLOCK was replaced since that frame began (R137). -/
structure QEntry where
  unit : Nat
  urgent : Bool
  msg : Msg
  transmitted : Bool := false
  inSlot : Bool := false
  replaced : Bool := false
  deriving DecidableEq, Repr

/-- What a frame from the part carries: a POLL with its probe marker, or a message (R140). -/
inductive Body where
  | poll (probe : Bool)
  | msg (m : Msg)
  deriving DecidableEq, Repr

/-- A frame from the part (R123, R134): its address, its contents, and the taken bit, `none` being the taken-none
marker. `fromQueue` tells a frame of the queue head from one the ring sends. -/
structure Frame where
  unit : Nat
  body : Body
  taken : Option Bool
  fromQueue : Bool
  deriving DecidableEq, Repr

/-- The slot of a line (R126, R127): none under way, a frame being sent, or an answer window open. -/
inductive Slot where
  | idle
  | sending (f : Frame)
  | window (f : Frame)
  deriving DecidableEq, Repr

/-- One link record (R130). -/
structure LinkRecord where
  state : Link := .unknown
  misses : Nat := 0
  goods : Nat := 0
  lastTaken : Option Bool := none
  joinAwaited : Bool := false
  deriving DecidableEq, Repr

/-- One desk line controller (R126, R130, R136). `abandoned`: the last frame the line began was given up partway, so
the abandon pattern stands before the next one (R123). -/
structure Line where
  links : Table LinkRecord := []
  queue : List QEntry := []
  slotCount : Nat := 0
  ringPointer : Nat := 247
  probePointer : Nat := 0
  slot : Slot := .idle
  abandoned : Bool := false
  deriving DecidableEq, Repr

/-! ### The sheet port and the mark decoder (R144–R159) -/

inductive SheetVerdict where
  | accepted | overrun | badCheck | wrongForm | tagUnreadable | noBatch | foreign | voided | repeated
  deriving DecidableEq, Repr

/-- One verdict message (R148). -/
structure SheetReply where
  sheet : Nat
  tag : Nat
  verdict : SheetVerdict
  deriving DecidableEq, Repr

inductive BufferState where
  | free | receiving | waiting | decoding
  deriving DecidableEq, Repr

/-- One sheet buffer (R145). -/
structure Buffer where
  state : BufferState := .free
  sheet : Nat := 0
  tag : Nat := 0
  rowCount : Nat := 0
  rows : List (List Nat) := []
  deriving DecidableEq, Repr

/-- What the decoder copied at the taking of a sheet (R149): its buffer, the calibration set, the thresholds and
margin, and the shape of the read (the option count of each question). -/
structure DecodeJob where
  buffer : Nat
  calibration : CalSet
  thresholds : Thresholds
  shape : List Nat
  deriving DecidableEq, Repr

/-- Where the sheet message under way goes: a buffer, or nowhere (an overrun sheet, R146). -/
inductive Receiving where
  | buffer (i : Nat)
  | overrun
  deriving DecidableEq, Repr

/-- The sheet port and the decoder. `freed`: the FREE buffers, in the order in which they were freed (R146), at a
start buffer 0 before buffer 1 (DESIGN CHOICE: notes, assumption 13); `filled`: the buffers in WAITING or DECODING, in
the order they were filled (R145); `ignoring`: the input is ignored until a gap is seen (R159); `sent`: the message
last sent on the verdict output. -/
structure SheetPort where
  buffers : Table Buffer := []
  freed : List Nat := [0, 1]
  filled : List Nat := []
  receiving : Option Receiving := none
  ignoring : Bool := true
  replies : List SheetReply := []
  sent : Option SheetReply := none
  job : Option DecodeJob := none
  deriving DecidableEq, Repr

/-! ### The scoring unit (R160–R193) -/

inductive KeyState where
  | empty | loading | locked
  deriving DecidableEq, Repr

/-- One question entry (R160). One not yet loaded holds option count 0, no accepted option, weight 0 and a clear void
flag (DESIGN CHOICE: R160 gives it no contents, and READ_KEY of a LOADING key shows them; notes, assumption 66). -/
structure Question where
  loaded : Bool := false
  options : Nat := 0
  accepted : ChoiceSet := {}
  weight : Nat := 0
  void : Bool := false
  deriving DecidableEq, Repr

/-- One amendment (R160). -/
structure Amendment where
  revision : Nat
  question : Nat
  kind : AmendKind
  deriving DecidableEq, Repr

/-- One key record (R160, R161): `base` holds the question entries as locked, `questions` the current view. An EMPTY
key holds Q 0 and the policies NONE, ZERO, NONE and SINGLE (DESIGN CHOICE: R160 gives it no header, and READ_KEY shows
these; notes, assumption 65). -/
structure Key where
  state : KeyState := .empty
  q : Nat := 0
  penalty : Penalty := .none
  multiple : MultiplePolicy := .zero
  floor : FloorPolicy := .none
  read : ReadPolicy := .single
  questions : Table Question := []
  base : Table Question := []
  revision : Nat := 0
  amendments : List Amendment := []
  deriving DecidableEq, Repr

/-- The walk record (R173). -/
structure Walk where
  sitting : Nat
  position : Option Nat
  deriving DecidableEq, Repr

inductive BatchState where
  | none | open | closing
  deriving DecidableEq, Repr

/-- The batch record (R178); the expected next position is computed from `reads`. -/
structure Batch where
  state : BatchState := .none
  tray : Nat := 0
  reads : List Nat := []
  accepted : Nat := 0
  rejected : Nat := 0
  outOfSequence : Nat := 0
  owed : List Nat := []
  deriving DecidableEq, Repr

structure ScoringUnit where
  keys : Table Key := []
  walkQueue : List Nat := []
  walk : Option Walk := none
  batch : Batch := {}
  deriving DecidableEq, Repr

/-! ### Result blocks -/

structure LookupReport where
  number : Nat
  sitting : Nat
  needs : CapSet
  allowance : Nat
  restAllowance : Nat
  seat : Option Nat
  offer : Option Nat
  offerDeadline : Option Nat
  presence : Presence
  clock : ClockPhase
  resting : Bool
  displaced : Bool
  budget : Nat
  used : Nat
  remaining : Nat
  adjustSum : Int
  restUsed : Nat
  warned1 : Bool
  warned2 : Bool
  tag : Option Nat
  custody : Custody
  tray : Option Nat
  hasMark : Bool
  deriving DecidableEq, Repr

structure ListLine where
  number : Nat
  sitting : Nat
  seat : Option Nat
  presence : Presence
  clock : ClockPhase
  custody : Custody
  remaining : Nat
  deriving DecidableEq, Repr

structure SeatReport where
  seat : Nat
  zone : Nat
  row : Nat
  column : Nat
  link : Link
  caps : CapSet
  disabled : Bool
  tenure : TenureKind
  occupant : Option Nat
  offeree : Option Nat
  awaiting : Option Nat
  usable : Bool
  extent : Option (Side × Owner)
  deriving DecidableEq, Repr

structure ExtentReport where
  code : Nat
  firstRow : Nat
  lastRow : Nat
  owner : Owner
  locked : Bool
  deriving DecidableEq, Repr

structure ZoneReport where
  empty : Nat
  offered : Nat
  held : Nat
  occupied : Nat
  vacated : Nat
  unknown : Nat
  up : Nat
  down : Nat
  disabled : Nat
  usable : Nat
  front : Option ExtentReport
  back : Option ExtentReport
  deriving DecidableEq, Repr

structure SittingReport where
  record : Sitting
  keyState : KeyState
  keyRevision : Nat
  hallTime : Nat
  hallTimeSet : Bool
  deriving DecidableEq, Repr

structure TrayLine where
  position : Nat
  tag : Nat
  number : Nat
  custody : Custody
  deriving DecidableEq, Repr

structure TrayReport where
  tray : Nat
  line : Nat
  unit : Nat
  link : Link
  state : TrayState
  sitting : Option Nat
  count : Nat
  entries : List TrayLine
  more : Bool
  deriving DecidableEq, Repr

structure QuestionLine where
  question : Nat
  loaded : Bool
  options : Nat
  accepted : ChoiceSet
  weight : Nat
  void : Bool
  amended : Bool
  deriving DecidableEq, Repr

structure KeyReport where
  state : KeyState
  q : Nat
  penalty : Penalty
  multiple : MultiplePolicy
  floor : FloorPolicy
  read : ReadPolicy
  revision : Nat
  questions : List QuestionLine
  more : Bool
  deriving DecidableEq, Repr

structure MarkReport where
  number : Nat
  tag : Option Nat
  custody : Custody
  tray : Option Nat
  position : Option Nat
  keyRevision : Nat
  totals : Option Totals
  queries : List Nat
  disputes : List Nat
  many : Bool
  hasSecond : Bool
  floored : Bool
  noMaximum : Bool
  manual : Bool
  outOfSequence : Bool
  extraRows : Bool
  strayFill : Bool
  erasures : Nat
  deriving DecidableEq, Repr

/-- What a result block carries from its third octet onward, as each task's rule lists it. -/
inductive Report where
  | nothing
  | passcode (level : PassLevel) (isSet : Bool)                                  -- R201
  | grants (g : Grants)                                                          -- R201
  | notices (entries : List (NoticeKind × Notice))                               -- R198
  | limits (loss regain : Nat)                                                   -- R141
  | signal (output : Nat) (cond : SignalCond) (level : Bool)                     -- R80
  | enrolled (taken : Nat) (outcomes : List ResultCode)                          -- R7
  | withdrawn (number : Nat) (seat : Option Nat)                                 -- R9
  | amended (needs : CapSet) (allowance rest budget used remaining : Nat)        -- R12
  | lookup (r : LookupReport)                                                    -- R15
  | list (lines : List ListLine) (more : Bool)                                   -- R16
  | seat (r : SeatReport)                                                        -- R32
  | zone (r : ZoneReport)                                                        -- R32
  | flagged (seat : Nat) (tenure : TenureKind) (disabled : Bool)                 -- R31
  | reserved (zone : Nat) (side : Side) (firstRow lastRow : Nat) (owner : Owner) -- R34
  | offending (seat : Nat)                                                       -- R34
  | runStarted (k count : Nat)                                                   -- R44
  | runAborted (k placed unplaced unserved cancelled : Nat)                      -- R48
  | moved (number : Nat) (target : MoveTarget) (released : Option Nat)           -- R60
  | lineRestarted (z removed failed : Nat)                                       -- R142
  | defined (d : Definition)                                                     -- R63
  | redefinition (extentCheck : Bool)                                            -- R64
  | phase (p : Phase)                                                            -- R68
  | held (changed : Nat) (sittings : List (Nat × Phase × Holds))                 -- R76
  | resumed (changed : Nat)                                                      -- R78
  | closed (missing : Nat)                                                       -- R71
  | retired (entries : Nat) (offers : Option Nat)                                -- R72, R73
  | hallTime (former : Nat) (formerSet : Bool)                                   -- R75
  | sitting (r : SittingReport)                                                  -- R82
  | sittings (lines : List (Phase × Holds × List Nat)) (hallTime : Nat) (timeSet alarm : Bool)  -- R82
  | adjusted (taken sum : Int) (budget used remaining : Nat)                     -- R99
  | ended (presence : Presence) (custody : Custody) (seat : Option Nat) (tenure : Option TenureKind)
      (used budget : Nat)                                                        -- R94
  | voided (number : Nat) (former : Custody) (seat : Option Nat) (place : Option (Nat × Nat))
      (markDeleted : Bool)                                                       -- R115
  | tray (r : TrayReport)                                                        -- R120
  | trays (lines : List (TrayState × Option Nat × Nat))                          -- R120
  | unmarked (count first : Nat)                                                 -- R119
  | cleared (count : Nat) (sitting : Option Nat)                                 -- R119
  | keyHeader (state : KeyState) (q loaded : Nat)                                -- R162
  | keyState (state : KeyState)                                                  -- R162
  | keyQuestions (taken : Nat) (outcomes : List ResultCode) (loaded : Nat)       -- R163
  | keyLocked (q : Nat) (penalty : Penalty) (multiple : MultiplePolicy) (floor : FloorPolicy)
      (read : ReadPolicy) (void maximum : Nat)                                   -- R164
  | notLoaded (question : Nat)                                                   -- R164
  | key (r : KeyReport)                                                          -- R165
  | amendments (state : Option KeyState) (entries : List Amendment) (more : Bool)                          -- R165
  | keyAmended (revision question : Nat) (accepted : ChoiceSet) (void : Bool) (maximum : Nat)  -- R172
  | calibration (c : CalSet)                                                     -- R152
  | thresholds (t : Thresholds)                                                  -- R154
  | batchOpen (tray : Nat) (sitting : Option Nat) (count q revision : Nat)       -- R179
  | batchClosed (tray accepted rejected outOfSequence unread : Nat) (positions : List (Nat × Nat))  -- R187
  | mark (r : MarkReport)                                                        -- R191
  | vector (v : Option (List Mark))                                              -- R191
  | badQuestion (question : Nat)                                                 -- R188
  | queriesResolved (custody : Custody) (queries : List Nat) (score : Option Score)  -- R188
  | reviewed (custody : Custody) (queries : List Nat) (totals : Option Totals)   -- R189
  | manualMark (totals : Totals)                                                 -- R190
  | pendingResults (count lowest : Nat)                                          -- R192
  | released (released missing void neverIssued : Nat)                           -- R192
  deriving DecidableEq, Repr

/-- The result block (R196): the code, the clamped flag and what the task's rule lists. The zeroed block is its
default, since OK is code 00h. -/
structure ResultBlock where
  code : ResultCode := .ok
  clamped : Bool := false
  report : Report := .nothing
  deriving DecidableEq, Repr

/-- The mailbox (R195), the access level (R199), the lockout (R200) and the notice set (R198). -/
structure TaskPort where
  running : Option Nat := none
  param : List Octet := List.replicate Config.areaOctets 0
  result : ResultBlock := {}
  ignoredWrite : Bool := false
  level : Level := .none
  wrongEntries : Nat := 0
  lockout : Nat := 0
  notices : Table Notice := []
  deriving DecidableEq, Repr

/-! ### Supplies, start-up and hall time -/

/-- Whether the main supply is present, the standby supply alone or neither, and whether start-up has completed
(R203). -/
inductive Power where
  | off
  | standby
  | starting
  | on
  deriving DecidableEq, Repr

/-- Power, whether the standby supply is present (R203), the start cause (R197), and what start-up has found for its
notices (R203): whether the image failed its check, and, where the alarm input was found asserted, the subject of its
ALARM notice. -/
structure PowerUnit where
  power : Power := .on
  standby : Bool := true
  cause : StartCause := .cold
  settingsLost : Bool := false
  alarmFound : Option Subject := none
  deriving DecidableEq, Repr

/-- Hall time and its set flag (R74), the hall alarm input (R77), and, the model's own, the items that have not yet
taken the present hall second. -/
structure HallClock where
  time : Nat := 0
  timeSet : Bool := false
  alarm : Bool := false
  owed : List HallItem := []
  deriving DecidableEq, Repr

/-! ### The part -/

/-- The state of the part, block by block, and the queue of waiting commands. -/
structure State where
  power : PowerUnit := {}
  hall : HallClock := {}
  port : TaskPort := {}
  settings : SettingsStore := {}
  roster : RosterStore := {}
  seatMap : SeatMap := {}
  placement : PlacementUnit := {}
  control : SittingControl := {}
  trays : Table Tray := []
  lines : Table Line := []
  sheet : SheetPort := {}
  scoring : ScoringUnit := {}
  pending : List Instr := []
  deriving DecidableEq, Repr

/-- No command of this part stops it with a fault: every stop the spec names is a result code, a verdict or an event
not taken. -/
inductive Fault where
  deriving DecidableEq, Repr

/-- The refusals: no command of the model is refused. -/
inductive Refusal where
  /-- Raised by exec for a row whose meaning is not written (safe: no claim about it can be proved). -/
  | notModelled (mnemonic : String)
  deriving DecidableEq, Repr

/-- The part right after reset: a cold start whose start-up has completed (R203), with the factory image in the
settings store, the alarm input not asserted, and the COLD_START notice pending. -/
def State.reset : State :=
  { port := { notices := [(0, { count := 1 })] } }

end Sys2Proof.Machine
end

