-- ==== Sys2Proof/Machine/Table.lean ====
section
/-!
DEFINITION. Reading and writing a sparse table, list helpers the spec's ordered lists need, and the arithmetic of
clamped values (00_scope.md, "Limits and adjusted values").
-/

namespace Sys2Proof

/-- The record at index `k`; `d` where the table lists none. -/
def Table.read {α : Type} (d : α) : Table α → Nat → α
  | [], _ => d
  | (i, v) :: rest, k => if i = k then v else Table.read d rest k

/-- Writes the record at index `k`, keeping the indices rising and listing no default record. -/
def Table.write {α : Type} [DecidableEq α] (d : α) (t : Table α) (k : Nat) (v : α) : Table α :=
  t.filter (fun p => decide (p.1 < k)) ++ (if v = d then [] else [(k, v)]) ++ t.filter (fun p => decide (k < p.1))

/-- Every listed record changed; one that becomes the default record is listed no longer. -/
def Table.mapRecords {α : Type} [DecidableEq α] (d : α) (f : α → α) (t : Table α) : Table α :=
  (t.map fun p => (p.1, f p.2)).filter fun p => decide (p.2 ≠ d)

/-- The canonical form: indices strictly rising, no default record listed. -/
def Table.wf {α : Type} [DecidableEq α] (d : α) : Table α → Bool
  | [] => true
  | (i, v) :: rest => decide (v ≠ d) && rest.all (fun p => decide (i < p.1)) && Table.wf d rest

/-- Clamping to a range: below it the lowest value, above it the highest. -/
def clampNat (lo hi v : Nat) : Nat := max lo (min hi v)

def clampInt (lo hi v : Int) : Int := max lo (min hi v)

/-- The quotient rounded up; for a divisor above 0. -/
def ceilDiv (a b : Nat) : Nat := (a + b - 1) / b

/-- Removes the first member that meets `p`. -/
def eraseFirst {α : Type} (p : α → Bool) : List α → List α
  | [] => []
  | x :: xs => if p x then xs else x :: eraseFirst p xs

/-- The member at position `i`, counted from 1. -/
def nth1 {α : Type} (l : List α) (i : Nat) : Option α :=
  match i with
  | 0 => none
  | j + 1 => l[j]?

/-- The position, counted from 1, of `x` in `l`. -/
def position? (l : List Nat) (x : Nat) : Option Nat :=
  match l with
  | [] => none
  | y :: ys => if y = x then some 1 else (position? ys x).map (· + 1)

/-- Removes the member at position `i`, counted from 1. -/
def removeAt {α : Type} (l : List α) (i : Nat) : List α :=
  match i with
  | 0 => l
  | j + 1 => l.eraseIdx j

/-- Inserts `x` into an ascending list without repeating it. -/
def insertAscending (x : Nat) : List Nat → List Nat
  | [] => [x]
  | y :: ys => if x < y then x :: y :: ys else if x = y then y :: ys else y :: insertAscending x ys

end Sys2Proof
end

