-- ==== Sys2Proof/Machine/Ops.lean ====
section
/-!
DEFINITION. The named operations over the records: reading and writing a seat, a sitting, an entry, a tray, a line, a
key, a buffer; the notice set (R198); the counts of a sitting (R81). Everything else is written over these.
-/

namespace Sys2Proof.Machine

/-! ### Sets -/

def capsIn (a b : CapSet) : Bool :=
  (!a.stepFree || b.stepFree) && (!a.power || b.power) && (!a.largeDisplay || b.largeDisplay)
    && (!a.leftDesk || b.leftDesk) && (!a.edge || b.edge) && (!a.supervised || b.supervised)

/-- A candidate whose needs set is empty has no needs (R3). -/
def hasNeeds (c : CapSet) : Bool := decide (c ≠ {})

def hasZone (m : ZoneSet) : Nat → Bool
  | 0 => m.zone0
  | 1 => m.zone1
  | 2 => m.zone2
  | 3 => m.zone3
  | _ => false

def isHeld (h : Holds) : Bool := h.host || h.alarm || h.restart

/-- The place of an option letter: A is the first column (R156). -/
def choiceIndex : Choice → Nat
  | .a => 0
  | .b => 1
  | .c => 2
  | .d => 3
  | .e => 4

def choiceOf : Nat → Choice
  | 0 => .a
  | 1 => .b
  | 2 => .c
  | 3 => .d
  | _ => .e

def hasChoice (s : ChoiceSet) : Choice → Bool
  | .a => s.a
  | .b => s.b
  | .c => s.c
  | .d => s.d
  | .e => s.e

def addChoice (s : ChoiceSet) : Choice → ChoiceSet
  | .a => { s with a := true }
  | .b => { s with b := true }
  | .c => { s with c := true }
  | .d => { s with d := true }
  | .e => { s with e := true }

/-- Whether a set names an option beyond the first `n` (R163). -/
def choicesBeyond (s : ChoiceSet) (n : Nat) : Bool :=
  [Choice.a, .b, .c, .d, .e].any fun o => hasChoice s o && decide (n ≤ choiceIndex o)

/-! ### Records by index -/

def State.seat (s : State) (d : Nat) : Seat := Table.read {} s.seatMap.seats d

def State.setSeat (s : State) (d : Nat) (v : Seat) : State :=
  { s with seatMap := { s.seatMap with seats := Table.write {} s.seatMap.seats d v } }

def State.zoneExtents (s : State) (z : Nat) : ZoneExtents := Table.read {} s.seatMap.extents z

def State.setZoneExtents (s : State) (z : Nat) (v : ZoneExtents) : State :=
  { s with seatMap := { s.seatMap with extents := Table.write {} s.seatMap.extents z v } }

def State.sitting (s : State) (k : Nat) : Sitting := Table.read {} s.control.sittings k

def State.setSitting (s : State) (k : Nat) (v : Sitting) : State :=
  { s with control := { s.control with sittings := Table.write {} s.control.sittings k v } }

def State.bell (s : State) (o : Nat) : Nat := Table.read 0 s.control.bells o

def State.setBell (s : State) (o : Nat) (v : Nat) : State :=
  { s with control := { s.control with bells := Table.write 0 s.control.bells o v } }

def State.tray (s : State) (u : Nat) : Tray := Table.read {} s.trays u

def State.setTray (s : State) (u : Nat) (v : Tray) : State := { s with trays := Table.write {} s.trays u v }

def State.line (s : State) (z : Nat) : Line := Table.read {} s.lines z

def State.setLine (s : State) (z : Nat) (v : Line) : State := { s with lines := Table.write {} s.lines z v }

def State.linkRecord (s : State) (z u : Nat) : LinkRecord := Table.read {} (s.line z).links u

def State.setLinkRecord (s : State) (z u : Nat) (v : LinkRecord) : State :=
  s.setLine z { s.line z with links := Table.write {} (s.line z).links u v }

def State.setSlot (s : State) (z : Nat) (v : Slot) : State := s.setLine z { s.line z with slot := v }

def State.setQueue (s : State) (z : Nat) (q : List QEntry) : State := s.setLine z { s.line z with queue := q }

def State.key (s : State) (k : Nat) : Key := Table.read {} s.scoring.keys k

def State.setKey (s : State) (k : Nat) (v : Key) : State :=
  { s with scoring := { s.scoring with keys := Table.write {} s.scoring.keys k v } }

def State.buffer (s : State) (i : Nat) : Buffer := Table.read {} s.sheet.buffers i

def State.setBuffer (s : State) (i : Nat) (v : Buffer) : State :=
  { s with sheet := { s.sheet with buffers := Table.write {} s.sheet.buffers i v } }

def State.setBatch (s : State) (b : Batch) : State := { s with scoring := { s.scoring with batch := b } }

def State.setOffers (s : State) (l : List Offer) : State :=
  { s with placement := { s.placement with offers := l } }

def State.setReseats (s : State) (l : List Reseat) : State :=
  { s with placement := { s.placement with reseats := l } }

def State.setRun (s : State) (r : Option Run) : State := { s with placement := { s.placement with run := r } }

def State.setSettings (s : State) (w : Settings) : State :=
  { s with settings := { s.settings with working := w } }

def State.setOwed (s : State) (l : List HallItem) : State := { s with hall := { s.hall with owed := l } }

/-! ### Roster entries (R1, R2) -/

/-- The entry in slot `slot`. -/
def State.entry? (s : State) (slot : Nat) : Option Entry :=
  s.roster.entries.find? (fun e => e.slot == slot)

/-- The entry with candidate number `n`, found in the roster order (R1). -/
def State.byNumber? (s : State) (n : Nat) : Option Entry :=
  s.roster.entries.find? (fun e => e.number == n)

/-- The slot the tag index maps tag `t` to (R17, R18). -/
def State.slotOfTag? (s : State) (t : Nat) : Option Nat :=
  (s.roster.tags.find? (fun p => p.1 == t)).map Prod.snd

/-- The entry the tag index maps tag `t` to. -/
def State.byTag? (s : State) (t : Nat) : Option Entry := (s.slotOfTag? t).bind s.entry?

def State.setEntries (s : State) (l : List Entry) : State :=
  { s with roster := { s.roster with entries := l } }

/-- Changes the facets of the entry in slot `slot`; every other entry, and the roster order, stay. -/
def State.modEntry (s : State) (slot : Nat) (f : Entry → Entry) : State :=
  s.setEntries (s.roster.entries.map fun e => if e.slot = slot then f e else e)

/-- The entries of sitting `k`, in roster order (a snapshot, R2). -/
def State.entriesOf (s : State) (k : Nat) : List Entry := s.roster.entries.filter (fun e => e.sitting == k)

/-- The slots of the entries of sitting `k` that meet `p`, in ascending candidate number. -/
def State.slotsOf (s : State) (k : Nat) (p : Entry → Bool) : List Nat :=
  ((s.entriesOf k).filter p).map Entry.slot

/-- The candidate number of the entry in `slot`. -/
def State.numberOf (s : State) (slot : Nat) : Option Nat := (s.entry? slot).map Entry.number

/-- Budget minus used (R84). -/
def Entry.remaining (e : Entry) : Nat := e.budget - e.used

/-- DISPLACED, without seat, offer or place in the reseat queue (R40). -/
def State.stranded (s : State) (e : Entry) : Bool :=
  decide (e.presence = .displaced) && e.seat.isNone && e.offer.isNone
    && !(s.placement.reseats.any fun r => r.slot == e.slot)

/-! ### Sittings -/

def State.modSitting (s : State) (k : Nat) (f : Sitting → Sitting) : State := s.setSitting k (f (s.sitting k))

/-- The phases in which holds act, OPEN through OVERTIME (R76). -/
def holdPhase : Phase → Bool
  | .opened | .reading | .writing | .overtime => true
  | _ => false

def addPlaced (r : Sitting) : Sitting := { r with placed := r.placed + 1 }
def dropPlaced (r : Sitting) : Sitting := { r with placed := r.placed - 1 }
def addPresent (r : Sitting) : Sitting := { r with present := r.present + 1 }
def dropPresent (r : Sitting) : Sitting := { r with present := r.present - 1 }
def addAwaiting (r : Sitting) : Sitting := { r with awaiting := r.awaiting + 1 }
def dropAwaiting (r : Sitting) : Sitting := { r with awaiting := r.awaiting - 1 }
def addCollected (r : Sitting) : Sitting := { r with collected := r.collected + 1 }
def dropCollected (r : Sitting) : Sitting := { r with collected := r.collected - 1 }
def addFinal (r : Sitting) : Sitting := { r with final := r.final + 1 }
def dropFinal (r : Sitting) : Sitting := { r with final := r.final - 1 }

/-- The custody states the collected count counts (R81). -/
def isCollected : Custody → Bool
  | .collected | .readOnce | .provisional | .disputed | .manual | .marked | .released => true
  | _ => false

/-- The custody states the final count counts (R81). -/
def isFinal : Custody → Bool
  | .marked | .released => true
  | _ => false

/-! ### The notice set (R198) -/

/-- The kind codes of R206. -/
def noticeCode : NoticeKind → Nat
  | .coldStart => 0
  | .warmStart => 1
  | .settingsLost => 2
  | .alarm => 3
  | .hold => 4
  | .phase => 5
  | .allocDone => 6
  | .deskLost => 7
  | .deskRegained => 8
  | .displaced => 9
  | .reseatFailed => 10
  | .help => 11
  | .queueDrop => 12
  | .strayTag => 13
  | .premature => 14
  | .sheetRejected => 15
  | .query => 16
  | .dispute => 17
  | .rescoreDone => 18
  | .batchDone => 19

def noticeKinds : List NoticeKind :=
  [.coldStart, .warmStart, .settingsLost, .alarm, .hold, .phase, .allocDone, .deskLost, .deskRegained, .displaced,
    .reseatFailed, .help, .queueDrop, .strayTag, .premature, .sheetRejected, .query, .dispute, .rescoreDone,
    .batchDone]

def State.notice (s : State) (k : NoticeKind) : Notice := Table.read {} s.port.notices (noticeCode k)

/-- The count rises, saturating at 255; the first subject is kept (R198). -/
def raised (old : Notice) (subject : Subject) : Notice :=
  if old.count = 0 then { count := 1, subject := subject } else { old with count := min 255 (old.count + 1) }

def State.raise (s : State) (k : NoticeKind) (subject : Subject) : State :=
  { s with port := { s.port with
      notices := Table.write {} s.port.notices (noticeCode k) (raised (s.notice k) subject) } }

/-- The pending kinds in ascending kind code, each with its record. -/
def State.pendingNotices (s : State) : List (NoticeKind × Notice) :=
  (noticeKinds.map fun k => (k, s.notice k)).filter fun p => decide (0 < p.2.count)

/-! ### Geometry (R20, R125) -/

def zoneOf (d : Nat) : Nat := d / Config.zoneSeats
def deskOf (d : Nat) : Nat := d % Config.zoneSeats
def rowOf (d : Nat) : Nat := deskOf d / Config.columns
def columnOf (d : Nat) : Nat := deskOf d % Config.columns
/-- The seat of desk address `u` on line `z`, and the tray of tray address `u`. -/
def seatOf (z u : Nat) : Nat := z * Config.zoneSeats + u
def trayOf (z u : Nat) : Nat := z * 8 + (u - Config.zoneSeats)
def trayLine (u : Nat) : Nat := u / 8
def trayUnit (u : Nat) : Nat := Config.zoneSeats + u % 8
def isDesk (u : Nat) : Bool := decide (u < Config.zoneSeats)

/-- The neighbours in the row. -/
def rowNeighbours (d : Nat) : List Nat :=
  (if columnOf d = 0 then [] else [d - 1]) ++ (if columnOf d = Config.columns - 1 then [] else [d + 1])

/-- The neighbours in the column. -/
def columnNeighbours (d : Nat) : List Nat :=
  (if rowOf d = 0 then [] else [d - Config.columns])
    ++ (if rowOf d = Config.rows - 1 then [] else [d + Config.columns])

/-! ### The end of a task -/

/-- The mailbox returns to IDLE with a result block (R195). -/
def State.finishTask (s : State) (code : ResultCode) (clamped : Bool) (report : Report) : State :=
  { s with port := { s.port with
      running := none, result := { code := code, clamped := clamped, report := report } } }

/-! ### Outcome -/

abbrev Result := Host.Outcome State Fault Refusal

end Sys2Proof.Machine
end

