-- ==== Sys2Proof/Machine/Queue.lean ====
section
/-!
DEFINITION. The outbound queue of a desk line (R136–R139): handing a message, replacing a CLOCK, eviction and drops,
removal of entries, and handing the waiting OFFERs again when a place frees.
-/

namespace Sys2Proof.Machine

def isClock : Msg → Bool
  | .clock _ => true
  | _ => false

def isOffer : Msg → Bool
  | .offer _ _ _ => true
  | _ => false

def isResync : Msg → Bool
  | .resync => true
  | _ => false

/-- The queued CLOCK of unit `u` (R137). -/
def clockTo (u : Nat) (x : QEntry) : Bool := decide (x.unit = u) && isClock x.msg

/-- The queued OFFER of unit `u`. -/
def offerTo (u : Nat) (x : QEntry) : Bool := decide (x.unit = u) && isOffer x.msg

/-- The queued RESYNC of unit `u` (R133). -/
def resyncTo (u : Nat) (x : QEntry) : Bool := decide (x.unit = u) && isResync x.msg

/-- An URGENT entry goes directly behind the last URGENT one, or at the head where there is none (R136), ahead of an
ORDINARY head whose frame is in its slot or has been missed (DESIGN CHOICE: R128 keeps a missed message at the head
for the next slot; notes, assumption 47). -/
def insertUrgent (e : QEntry) : List QEntry → List QEntry
  | [] => [e]
  | x :: xs => if x.urgent || xs.any QEntry.urgent then x :: insertUrgent e xs else e :: x :: xs

/-- Insertion by class (R136). -/
def insertByClass (e : QEntry) (q : List QEntry) : List QEntry := if e.urgent then insertUrgent e q else q ++ [e]

/-- A CLOCK takes the place of the one queued to the same desk; the place is URGENT when either is (R137). -/
def replaceClock (e : QEntry) (q : List QEntry) : List QEntry :=
  q.map fun x =>
    if clockTo e.unit x then { x with msg := e.msg, urgent := x.urgent || e.urgent, replaced := x.inSlot } else x

/-- A frame is being sent on the line (its closing mark has not been sent yet). -/
def Line.sendingNow (l : Line) : Bool :=
  match l.slot with
  | .sending _ => true
  | _ => false

/-- The slot of the line ends at once; a frame being sent is given up partway, with the abandon pattern (R123, R139,
R142). -/
def Line.giveUp (l : Line) : Line := { l with slot := .idle, abandoned := l.abandoned || l.sendingNow }

/-- An ORDINARY entry other than one whose frame is being sent (R138). -/
def evictable (l : Line) (x : QEntry) : Bool := !x.urgent && !(x.inSlot && l.sendingNow)

/-- The subject of a QUEUE_DROP notice (R138). -/
def dropSubject (z u : Nat) (m : Msg) : Subject :=
  if u = Config.allUnits then
    match m with
    | .phase p => .sitting p.sitting
    | _ => .none
  else if isDesk u then .seat (seatOf z u)
  else .tray (trayOf z u)

/-- Hands a message to the outbound queue of line `z` (R136, R137, R138). An URGENT message to a full queue whose only
ORDINARY entry is the one being sent is dropped with its notice (DESIGN CHOICE: no row of R138 covers it; notes,
assumption 46). -/
def State.hand (s : State) (z u : Nat) (urgent : Bool) (m : Msg) : State :=
  let l := s.line z
  let e : QEntry := { unit := u, urgent := urgent, msg := m }
  if isClock m && l.queue.any (clockTo u) then s.setQueue z (replaceClock e l.queue)
  else if l.queue.length < Config.queued then s.setQueue z (insertByClass e l.queue)
  else if urgent then
    match l.queue.find? (evictable l) with
    | some x =>
      (s.setQueue z (insertByClass e (eraseFirst (evictable l) l.queue))).raise .queueDrop
        (dropSubject z x.unit x.msg)
    | none => s.raise .queueDrop (dropSubject z u m)
  else if isOffer m then s
  else s.raise .queueDrop (dropSubject z u m)

/-- Hands the OFFER message of an offer to the line of its seat (R49). -/
def State.handOffer (s : State) (o : Offer) : State :=
  match s.entry? o.slot with
  | some e => s.hand (zoneOf o.seat) (deskOf o.seat) false (.offer e.number e.sitting e.needs)
  | none => s

/-- Whether an OFFER to the seat's desk stands in its line's queue. -/
def State.offerQueued (s : State) (d : Nat) : Bool := (s.line (zoneOf d)).queue.any (offerTo (deskOf d))

/-- The Placement Unit hands again the OFFERs of its WAITING_TO_SEND offers on the line that have no queued entry,
oldest offer first; one that finds no place is not queued (R139). -/
def State.rehand (s : State) (z : Nat) : State :=
  (s.placement.offers.filter fun o => decide (o.stage = .waiting) && decide (zoneOf o.seat = z)).foldl
    (fun s o => if s.offerQueued o.seat then s else s.handOffer o) s

/-- Writes a queue from which entries have left; a queue that had no free place has the OFFERs handed again at once,
before any message that the same event queues later (R139; DESIGN CHOICE as to the order; notes, assumption 53). -/
def State.leaveQueue (s : State) (z : Nat) (q : List QEntry) : State :=
  let old := (s.line z).queue
  if Config.queued ≤ old.length && decide (q.length < old.length) then (s.setQueue z q).rehand z
  else s.setQueue z q

def State.giveUp (s : State) (z : Nat) : State := s.setLine z (s.line z).giveUp

/-- Removes the entries that meet `p` (R139). -/
def State.removeQueued (s : State) (z : Nat) (p : QEntry → Bool) : State :=
  s.leaveQueue z ((s.line z).queue.filter fun x => !p x)

/-- The end of an offer removes its OFFER entry; when that entry's frame is being sent, the frame is abandoned and the
slot ends at once, with no outcome counted (R139). -/
def State.removeOffer (s : State) (d : Nat) : State :=
  let z := zoneOf d
  let l := s.line z
  let s1 := if l.sendingNow && l.queue.any (fun x => offerTo (deskOf d) x && x.inSlot) then s.giveUp z else s
  s1.removeQueued z (offerTo (deskOf d))

end Sys2Proof.Machine
end

