-- ==== Sys2Proof/Machine/Telling.lean ====
section
/-!
DEFINITION. Telling the hall: the PHASE broadcast and the notices of a change (R79), the BELL pulses a phase change
starts (R80), the CLOCK of a candidate (R102), and the changes of a sitting's phase and hold reasons that are told
(R70, R98).
-/

namespace Sys2Proof.Machine

/-- The condition assigned to an output (R80). -/
def signalOf (g : Signals) : Nat → SignalCond
  | 0 => g.out0
  | 1 => g.out1
  | 2 => g.out2
  | _ => g.out3

/-- The contents of sitting `k`'s PHASE (R79). -/
def State.phaseMsg (s : State) (k : Nat) : PhaseMsg :=
  let r := s.sitting k
  { sitting := k, phase := r.phase, holds := r.holds, writing := r.defn.writing, readingLeft := r.readingLeft,
    elapsed := r.elapsed }

/-- One URGENT PHASE to all units of each line of the zone mask (R79). -/
def State.broadcast (s : State) (k : Nat) (zones : ZoneSet) : State :=
  (List.range Config.zones).foldl
    (fun s z => if hasZone zones z then s.hand z Config.allUnits true (.phase (s.phaseMsg k)) else s) s

/-- A phase change of sitting `k` starts, or starts again, the pulse of every output assigned BELL(k) (R80). -/
def State.ringBells (s : State) (k : Nat) : State :=
  (List.range 4).foldl
    (fun s o => if signalOf s.settings.working.signals o = .bell k then s.setBell o Config.bellSeconds else s) s

/-- The contents of an entry's CLOCK (R102). -/
def State.clockMsg (s : State) (e : Entry) : ClockMsg :=
  { number := e.number, sitting := e.sitting, clock := e.clock, resting := e.resting, displaced := e.displacedCause,
    held := isHeld (s.sitting e.sitting).holds, budget := e.budget, used := e.used,
    restLeft := e.restAllowance - e.restUsed }

/-- Whether a CLOCK is queued to a seat of this tenure for this clock: OCCUPIED, or VACATED for the end (R102). -/
def takesClock (t : Tenure) (c : ClockPhase) : Bool :=
  match t with
  | .occupied _ => true
  | .vacated _ _ => decide (c = .ended)
  | _ => false

/-- Queues the candidate's CLOCK to the desk of its seat (R102). -/
def State.queueClock (s : State) (slot : Nat) (urgent : Bool) : State :=
  match s.entry? slot with
  | none => s
  | some e =>
    match e.seat with
    | none => s
    | some d =>
      if takesClock (s.seat d).tenure e.clock then s.hand (zoneOf d) (deskOf d) urgent (.clock (s.clockMsg e))
      else s

/-- Whether the candidate sits at an OCCUPIED seat. -/
def State.atOccupied (s : State) (e : Entry) : Bool :=
  match e.seat with
  | none => false
  | some d =>
    match (s.seat d).tenure with
    | .occupied _ => true
    | _ => false

/-- The seats of the sitting's candidates whose seat is OCCUPIED and whose clock is not ENDED, ascending. -/
def State.occupiedSeats (s : State) (k : Nat) : List Nat :=
  ((s.entriesOf k).filter fun e => s.atOccupied e && decide (e.clock ≠ .ended)).foldl
    (fun l e => match e.seat with
      | some d => insertAscending d l
      | none => l) []

/-- The sitting's passing between held and not held: an URGENT CLOCK to each of those seats (R98), in ascending seat
number (DESIGN CHOICE, notes, assumption 9: R136's worked sequence follows this order). -/
def State.clockHoldUpdate (s : State) (k : Nat) : State :=
  (s.occupiedSeats k).foldl
    (fun s d => match (s.seat d).tenure with
      | .occupied slot => s.queueClock slot true
      | _ => s) s

/-- Changes a sitting record and tells what of its phase and hold reasons changed: the broadcast and notices of R79,
the bells of R80, the CLOCKs of R98. -/
def State.changeSitting (s : State) (k : Nat) (f : Sitting → Sitting) : State :=
  let old := s.sitting k
  let new := f old
  let s1 := s.setSitting k new
  let phaseChanged := decide (old.phase ≠ new.phase)
  let holdsChanged := decide (old.holds ≠ new.holds)
  let s2 := if phaseChanged || holdsChanged then
      s1.broadcast k (if new.phase = .empty then old.defn.zones else new.defn.zones) else s1
  let s3 := if phaseChanged then (s2.raise .phase (.sitting k)).ringBells k else s2
  let s4 := if holdsChanged then s3.raise .hold (.sitting k) else s3
  if isHeld old.holds != isHeld new.holds then s4.clockHoldUpdate k else s4

/-- Whether any clock of the sitting is not ENDED (R70). -/
def State.openClocks (s : State) (k : Nat) : Bool := (s.entriesOf k).any fun e => decide (e.clock ≠ .ended)

/-- Entry to COLLECTING clears the hold reasons in the same event, told by one broadcast (R70). -/
def State.enterCollecting (s : State) (k : Nat) : State :=
  s.changeSitting k fun r => { r with phase := .collecting, holds := {} }

/-- Sitting Control is told that a clock of the sitting has ended: in OVERTIME the end of the last one is the entry to
COLLECTING (R70). -/
def State.clockEnded (s : State) (k : Nat) : State :=
  if (s.sitting k).phase = .overtime && !s.openClocks k then s.enterCollecting k else s

end Sys2Proof.Machine
end

