-- ==== Sys2Proof/Machine/Seats.lean ====
section
/-!
DEFINITION. The seat map: the six tenure requests (R23–R26), usability and reservations (R22, R33, R36), the reseat
queue's tail and the stranded candidates a seat that becomes usable brings back (R56, R58).
-/

namespace Sys2Proof.Machine

/-- The occupant's slot: present in HELD, OCCUPIED and VACATED (R21). -/
def occupant : Tenure → Option Nat
  | .held p => some p
  | .occupied p => some p
  | .vacated p _ => some p
  | _ => none

/-- The offeree's slot: present in OFFERED (R21). -/
def offeree : Tenure → Option Nat
  | .offered p => some p
  | _ => none

/-- The awaiting tag: present in VACATED (R21). -/
def awaitingTag : Tenure → Option Nat
  | .vacated _ t => some t
  | _ => none

/-- Link UP, tenure EMPTY, not DISABLED (R22). -/
def usable (x : Seat) : Bool := decide (x.link = .up) && decide (x.tenure = .empty) && !x.disabled

/-- Queues a STATE to the desk of seat `d`, URGENT (R136). -/
def State.showSeat (s : State) (d : Nat) (shown : Shown) : State := s.hand (zoneOf d) (deskOf d) true (.state shown)

/-! ### Tenure requests; one that finds another state is ignored (R23) -/

/-- OFFER (R24). -/
def State.requestOffer (s : State) (d slot : Nat) : State :=
  match (s.seat d).tenure with
  | .empty =>
    (s.setSeat d { s.seat d with tenure := .offered slot }).modEntry slot fun e => { e with offer := some d }
  | _ => s

/-- CANCEL (R24). -/
def State.requestCancel (s : State) (d : Nat) : State :=
  match (s.seat d).tenure with
  | .offered slot =>
    (s.setSeat d { s.seat d with tenure := .empty }).modEntry slot fun e => { e with offer := none }
  | _ => s

/-- Applies a change of the six counts to the sitting of the entry in `slot` (R81). -/
def State.count (s : State) (slot : Nat) (f : Sitting → Sitting) : State :=
  match s.entry? slot with
  | some e => s.modSitting e.sitting f
  | none => s

/-- PLACE (R25). -/
def State.requestPlace (s : State) (d : Nat) : State :=
  match (s.seat d).tenure with
  | .offered slot =>
    ((s.setSeat d { s.seat d with tenure := .held slot }).modEntry slot
      fun e => { e with offer := none, seat := some d }).count slot addPlaced
  | _ => s

/-- OCCUPY (R25). -/
def State.requestOccupy (s : State) (d : Nat) : State :=
  match (s.seat d).tenure with
  | .held slot => s.setSeat d { s.seat d with tenure := .occupied slot }
  | _ => s

/-- The script tag of the entry in `slot`; 0, the value meaning none, where it has no tag. -/
def State.tagOf (s : State) (slot : Nat) : Nat := ((s.entry? slot).bind Entry.tag).getD 0

/-- VACATE (R26). -/
def State.requestVacate (s : State) (d : Nat) : State :=
  match (s.seat d).tenure with
  | .occupied slot => s.setSeat d { s.seat d with tenure := .vacated slot (s.tagOf slot) }
  | _ => s

/-- RELEASE (R26): the seat is EMPTY, the placed count falls, and a desk whose link is UP is shown EMPTY. -/
def State.requestRelease (s : State) (d : Nat) : State :=
  match occupant (s.seat d).tenure with
  | none => s
  | some slot =>
    let s1 := ((s.setSeat d { s.seat d with tenure := .empty }).modEntry slot
      fun e => { e with seat := none }).count slot dropPlaced
    if (s.seat d).link = .up then s1.showSeat d .empty else s1

/-! ### Reservations -/

/-- The rows an extent code sets (R33). -/
def extentRows : Nat → Nat
  | 1 => 1
  | 2 => 2
  | 3 => 4
  | 4 => 8
  | 5 => 16
  | _ => 0

/-- The first and last row an extent of this side and code covers (R33). -/
def extentSpan (side : Side) (code : Nat) : Nat × Nat :=
  match side with
  | .front => (0, extentRows code - 1)
  | .back => (Config.rows - extentRows code, Config.rows - 1)

def coversRow (side : Side) (code row : Nat) : Bool :=
  decide ((extentSpan side code).1 ≤ row) && decide (row ≤ (extentSpan side code).2)

def extentOf (x : ZoneExtents) : Side → Option Extent
  | .front => x.front
  | .back => x.back

def withExtent (x : ZoneExtents) (v : Option Extent) : Side → ZoneExtents
  | .front => { x with front := v }
  | .back => { x with back := v }

/-- The extent that covers a seat, with its side, as the extents stand (R22; in a run DESIGN CHOICE: notes, assumption
62). -/
def State.covering (s : State) (d : Nat) : Option (Side × Extent) :=
  let x := s.zoneExtents (zoneOf d)
  match x.front with
  | some f => if coversRow .front f.code (rowOf d) then some (.front, f) else
      match x.back with
      | some b => if coversRow .back b.code (rowOf d) then some (.back, b) else none
      | none => none
  | none =>
    match x.back with
    | some b => if coversRow .back b.code (rowOf d) then some (.back, b) else none
    | none => none

/-- An extent of a sitting is locked from OPEN through CLOSED; a SPECIAL extent never is (R33). -/
def State.locked (s : State) : Owner → Bool
  | .special => false
  | .sitting k =>
    match (s.sitting k).phase with
    | .empty | .defined | .released => false
    | _ => true

def ownedBy (k : Nat) : Option Extent → Bool
  | some x => decide (x.owner = .sitting k)
  | none => false

/-- Every extent the sitting owns is dropped (R36), for the later searches of an active run too (DESIGN CHOICE: notes,
assumption 62). -/
def State.dropExtents (s : State) (k : Nat) : State :=
  (List.range Config.zones).foldl
    (fun s z =>
      let x := s.zoneExtents z
      s.setZoneExtents z
        { front := if ownedBy k x.front then none else x.front, back := if ownedBy k x.back then none else x.back })
    s

/-- Whether a zone mask lacks a zone in which the sitting owns an extent (R36, R64). -/
def State.maskLosesExtent (s : State) (k : Nat) (m : ZoneSet) : Bool :=
  (List.range Config.zones).any fun z =>
    !hasZone m z && (ownedBy k (s.zoneExtents z).front || ownedBy k (s.zoneExtents z).back)

/-! ### The reseat queue's tail, and the stranded candidates -/

/-- The subject naming the candidate in a slot. -/
def State.candidateSubject (s : State) (slot : Nat) : Subject :=
  match s.numberOf slot with
  | some n => .candidate n
  | none => .none

/-- Appends to the reseat queue; a full queue takes no entry and RESEAT_FAILED is raised (R56). -/
def State.appendReseat (s : State) (r : Reseat) : State :=
  if s.placement.reseats.length < Config.reseats then s.setReseats (s.placement.reseats ++ [r])
  else s.raise .reseatFailed (s.candidateSubject r.slot)

/-- A seat that has become usable: the stranded candidates whose sitting has the seat's zone in its zone mask join the
reseat queue in ascending candidate number until it holds 16 (R58). -/
def State.retryStranded (s : State) (d : Nat) : State :=
  if usable (s.seat d) then
    let found := s.roster.entries.filter fun e =>
      s.stranded e && hasZone (s.sitting e.sitting).defn.zones (zoneOf d)
    s.setReseats (s.placement.reseats ++
      (found.take (Config.reseats - s.placement.reseats.length)).map
        fun e => { slot := e.slot, former := none, excluded := none })
  else s

/-- RELEASE, and the retry its usable seat brings (R26, R58). -/
def State.releaseSeat (s : State) (d : Nat) : State := (s.requestRelease d).retryStranded d

end Sys2Proof.Machine
end

