-- ==== Sys2Proof/Machine/Placement.lean ====
section
/-!
DEFINITION. The placement unit's shared operations: the seat search (R41–R43), the offer and its ends (R49–R55), the
end of a run (R47), the end of a candidate's need for a seat (R55), and one step of the unit (R45, R46, R57).
-/

namespace Sys2Proof.Machine

/-! ### The seat search -/

/-- The group of R41 in which a seat lies for a candidate with these needs of sitting `k`, or none when the seat is
not admissible for it. The extents are read as they stand at the search (DESIGN CHOICE: R41 has a run read them as
they stood at its start, and R36 drops the extents of another sitting during a run; notes, assumption 62). -/
def State.group (s : State) (k : Nat) (needs : CapSet) (d : Nat) : Option Nat :=
  let f := (s.sitting k).defn
  if !hasZone f.zones (zoneOf d) then none
  else match s.covering d with
    | some (_, x) =>
      match x.owner with
      | .sitting j => if j = k then some 1 else none
      | .special => if hasNeeds needs then some 2 else none
    | none => if f.confined then none else some 3

/-- Whether a seat is HELD or OCCUPIED by, or OFFERED to, a candidate of sitting `k` other than slot `c` (R42). -/
def State.takenBy (s : State) (k c d : Nat) : Bool :=
  match (s.seat d).tenure with
  | .offered p | .held p | .occupied p =>
    decide (p ≠ c) && (match s.entry? p with
      | some e => decide (e.sitting = k)
      | none => false)
  | _ => false

/-- The spacing rule of the sitting holds at seat `d` for slot `c` (R42). -/
def State.spaced (s : State) (k c d : Nat) : Bool :=
  match (s.sitting k).defn.spacing with
  | .open => true
  | .side => !(rowNeighbours d).any (s.takenBy k c)
  | .cross => !(rowNeighbours d ++ columnNeighbours d).any (s.takenBy k c)

/-- An admissible seat fits: usable, with the capabilities needed, obeying the spacing rule (R42). -/
def State.fits (s : State) (e : Entry) (d : Nat) : Bool :=
  usable (s.seat d) && capsIn e.needs (s.seat d).caps && s.spaced e.sitting e.slot d

/-- A seat that is admissible and fits. -/
def State.suits (s : State) (e : Entry) (d : Nat) : Bool := (s.group e.sitting e.needs d).isSome && s.fits e d

/-- The first seat in ascending order that fits, lies in group `g` and meets `p`. -/
def State.firstIn (s : State) (e : Entry) (p : Nat → Bool) (g : Nat) : Option Nat :=
  (List.range Config.seats).find? fun d => s.fits e d && s.group e.sitting e.needs d == some g && p d

/-- One pass over the groups in their order (R41). -/
def State.pass (s : State) (e : Entry) (p : Nat → Bool) : Option Nat :=
  match s.firstIn e p 1 with
  | some d => some d
  | none =>
    match s.firstIn e p 2 with
    | some d => some d
    | none => s.firstIn e p 3

/-- The passes of R43: one for a candidate with needs; for one without, first leaving out step-free seats. -/
def State.search (s : State) (e : Entry) (p : Nat → Bool) : Option Nat :=
  if hasNeeds e.needs then s.pass e p
  else match s.pass e fun d => p d && !(s.seat d).caps.stepFree with
    | some d => some d
    | none => s.pass e p

/-! ### Offers -/

/-- An offer is made: the entry, the OFFER request, the OFFER message (R49). -/
def State.makeOffer (s : State) (slot d : Nat) (purpose : Purpose) (origin : Option Nat) : State :=
  let o : Offer := { seat := d, slot := slot, purpose := purpose, origin := origin, stage := .waiting }
  ((s.setOffers (s.placement.offers ++ [o])).requestOffer d slot).handOffer o

/-- The offer outstanding on seat `d`. -/
def State.offerOn? (s : State) (d : Nat) : Option Offer := s.placement.offers.find? fun o => o.seat == d

def State.dropOffer (s : State) (d : Nat) : State := s.setOffers (s.placement.offers.filter fun o => o.seat != d)

/-- Queues a WITHDRAW carrying a candidate number to the desk of seat `d` (R51, R53, R55). -/
def State.withdrawOffer (s : State) (d number : Nat) : State :=
  s.hand (zoneOf d) (deskOf d) true (.withdraw number)

def isSent : Stage → Bool
  | .sent _ => true
  | .waiting => false

/-- Puts a candidate at the head of the reseat queue; with a full queue RESEAT_FAILED is raised instead (R53). -/
def State.putHead (s : State) (r : Reseat) : State :=
  if s.placement.reseats.length < Config.reseats then s.setReseats (r :: s.placement.reseats)
  else s.raise .reseatFailed (s.candidateSubject r.slot)

/-- A failed offer returns its candidate for another search, by its purpose (R53). -/
def State.returnCandidate (s : State) (o : Offer) : State :=
  match o.purpose with
  | .run =>
    match s.placement.run with
    | some r => s.setRun (some { r with skip := insertAscending o.seat r.skip, retry := r.retry ++ [o.slot] })
    | none => s
  | _ => s.putHead { slot := o.slot, former := o.origin, excluded := some o.seat }

/-- An offer fails: the entry and its queued OFFER go, CANCEL returns the seat, a WITHDRAW is queued where `tell` asks
for it and the offer was SENT, and the candidate returns (R53). A RESEAT or MOVE candidate is back at the head of the
reseat queue before the seat that CANCEL made usable brings back the stranded (DESIGN CHOICE: R53 and R58 give no
order of the two; notes, assumption 38). Where the OFFER leaves a full queue, the waiting OFFERs are handed again
before the WITHDRAW is queued (DESIGN CHOICE: R53 and R139 give no order; notes, assumption 53). -/
def State.failOffer (s : State) (o : Offer) (tell : Bool) : State :=
  let s1 := ((s.dropOffer o.seat).requestCancel o.seat).removeOffer o.seat
  let s2 := if tell && isSent o.stage then
      (match s.numberOf o.slot with
        | some n => s1.withdrawOffer o.seat n
        | none => s1) else s1
  (s2.returnCandidate o).retryStranded o.seat

/-- The candidate of an active run is passed over (R46, R55). -/
def State.passOver (s : State) : State :=
  match s.placement.run with
  | some r => s.setRun (some { r with passed := r.passed + 1 })
  | none => s

/-- An offer is cancelled (R55): the entry and its queued OFFER go, CANCEL returns the seat, a SENT offer's desk
receives WITHDRAW, and the candidate of a RUN offer of an active run is passed over. Where the OFFER leaves a full
queue, the waiting OFFERs are handed again before the WITHDRAW is queued (DESIGN CHOICE; notes, assumption 53). -/
def State.cancelOffer (s : State) (o : Offer) : State :=
  let s1 := ((s.dropOffer o.seat).requestCancel o.seat).removeOffer o.seat
  let s2 := if isSent o.stage then
      (match s.numberOf o.slot with
        | some n => s1.withdrawOffer o.seat n
        | none => s1) else s1
  let s3 := if o.purpose = .run then s2.passOver else s2
  s3.retryStranded o.seat

/-- The candidate leaves the reseat queue from wherever it stands (R40, R55). -/
def State.leaveReseat (s : State) (slot : Nat) : State :=
  s.setReseats (s.placement.reseats.filter fun r => r.slot != slot)

/-- The candidate leaves an active run's retry list and is passed over (R55). -/
def State.leaveRetry (s : State) (slot : Nat) : State :=
  match s.placement.run with
  | some r =>
    if r.retry.contains slot then
      s.setRun (some { r with retry := r.retry.filter (· != slot), passed := r.passed + 1 })
    else s
  | none => s

/-- The offer outstanding for the candidate in `slot`. -/
def State.offerFor? (s : State) (slot : Nat) : Option Offer := s.placement.offers.find? fun o => o.slot == slot

/-- The end of the candidate's need for a seat: its offer is cancelled, and it leaves the reseat queue and an active
run's retry list (R55). -/
def State.endNeed (s : State) (slot : Nat) : State :=
  let s1 := match s.offerFor? slot with
    | some o => s.cancelOffer o
    | none => s
  (s1.leaveReseat slot).leaveRetry slot

/-- A HELD seat of the candidate is released (R90, R93, R94, R116). -/
def State.releaseHeld (s : State) (slot : Nat) : State :=
  match (s.entry? slot).bind Entry.seat with
  | some d =>
    match (s.seat d).tenure with
    | .held _ => s.releaseSeat d
    | _ => s
  | none => s

/-! ### Runs -/

/-- The run's counts are kept with its sitting, and no run is active (R38, R47, R48). -/
def State.closeRun (s : State) (r : Run) (a : AllocState) : State :=
  (s.modSitting r.sitting fun k =>
    { k with alloc := a, runPlaced := r.placed, runUnplaced := r.unplaced, runPassed := r.passed }).setRun none

/-- Whether the three conditions of R47 hold. -/
def State.runOver (s : State) (r : Run) : Bool :=
  decide (r.list.length ≤ r.position) && r.retry.isEmpty && !s.placement.offers.any fun o => decide (o.purpose = .run)

/-- The run ends at the event after which the conditions hold: DONE or PARTIAL, and ALLOC_DONE (R47). -/
def State.checkRun (s : State) : State :=
  match s.placement.run with
  | some r =>
    if s.runOver r then
      (s.closeRun r (if r.unplaced = 0 then .done else .partialRun)).raise .allocDone (.sitting r.sitting)
    else s
  | none => s

/-! ### One step of the unit -/

/-- The check of R46: of the run's sitting, EXPECTED, with neither seat nor offer. -/
def awaitsPlacement (k : Nat) (e : Entry) : Bool :=
  decide (e.sitting = k) && decide (e.presence = .expected) && e.seat.isNone && e.offer.isNone

/-- A run step for the candidate in `slot`, the run record `r` already advanced past it (R46). -/
def State.serveRun (s : State) (r : Run) (slot : Nat) : State :=
  match s.entry? slot with
  | some e =>
    if awaitsPlacement r.sitting e then
      match s.search e fun d => !r.skip.contains d with
      | some d => (s.setRun (some r)).makeOffer slot d .run none
      | none => s.setRun (some { r with unplaced := r.unplaced + 1 })
    else s.setRun (some { r with passed := r.passed + 1 })
  | none => s.setRun (some { r with passed := r.passed + 1 })

/-- The check of R57: EXPECTED or DISPLACED, with neither seat nor offer. -/
def awaitsReseat (e : Entry) : Bool :=
  (decide (e.presence = .expected) || decide (e.presence = .displaced)) && e.seat.isNone && e.offer.isNone

/-- The search from the reseat queue: the former seat on its own first, the excluded seat left out (R43). -/
def State.searchReseat (s : State) (e : Entry) (r : Reseat) : Option Nat :=
  let rest := s.search e fun d => r.excluded != some d
  match r.former with
  | some f => if s.suits e f && r.excluded != some f then some f else rest
  | none => rest

/-- The head of the reseat queue is served, having left the queue (R57). -/
def State.serveReseat (s : State) (r : Reseat) : State :=
  match s.entry? r.slot with
  | some e =>
    if awaitsReseat e then
      match s.searchReseat e r with
      | some d => s.makeOffer r.slot d .reseat r.former
      | none => s.raise .reseatFailed (.candidate e.number)
    else s
  | none => s

/-- One step: the reseat queue's head, else the retry list's head, else the list entry at the position (R45). -/
def State.placementStep (s : State) : State :=
  if s.placement.offers.length < Config.offers then
    match s.placement.reseats with
    | r :: rest => ((s.setReseats rest).serveReseat r).checkRun
    | [] =>
      match s.placement.run with
      | some r =>
        match r.retry with
        | c :: rest => (s.serveRun { r with retry := rest } c).checkRun
        | [] =>
          match r.list[r.position]? with
          | some c => (s.serveRun { r with position := r.position + 1 } c).checkRun
          | none => s
      | none => s
  else s

end Sys2Proof.Machine
end

