-- ==== Sys2Proof/Machine/Clocks.lean ====
section
/-!
DEFINITION. The candidate timer's shared operations: the budget (R85), the ends of a clock (R92, R93), warnings
(R101), the count of one hall second (R86), entry to RUNNING (R87), absence (R90), displacement (R97), and the
follow-ups of a recomputed budget (R100).
-/

namespace Sys2Proof.Machine

/-! ### The budget -/

/-- W + ceil(W × a / 100) + the adjustment sum (R85). -/
def budgetFormula (w a : Nat) (sum : Int) : Int := (w : Int) + (ceilDiv (w * a) 100 : Nat) + sum

/-- The formula clamped to the range from used to 57,600 (R85). -/
def budgetOf (w a : Nat) (sum : Int) (used : Nat) : Nat :=
  (clampInt used Config.lastBudget (budgetFormula w a sum)).toNat

/-- The entry with its budget recomputed for a writing duration (R85). -/
def rebudget (w : Nat) (e : Entry) : Entry := { e with budget := budgetOf w e.allowance e.adjustSum e.used }

/-- ENDED, with the pause causes emptied (R84). -/
def endClock (e : Entry) : Entry := { e with clock := .ended, resting := false, displacedCause := false }

/-! ### Ends of a clock -/

/-- Custody becomes HANDED_IN, and the awaiting-collection count rises (R106). -/
def State.handIn (s : State) (slot : Nat) : State :=
  (s.modEntry slot fun e => { e with custody := .handedIn }).count slot addAwaiting

/-- The entry's clock ends and its presence becomes FINISHED, lowering the present count (R92, R93, R116). -/
def State.finishPresent (s : State) (slot : Nat) : State :=
  (s.modEntry slot fun e => { endClock e with presence := .finished }).count slot dropPresent

/-- Sitting Control is told that a clock of the candidate's sitting has ended (R92 step 5). -/
def State.tellEnd (s : State) (slot : Nat) : State :=
  match s.entry? slot with
  | some e => s.clockEnded e.sitting
  | none => s

/-- The end of a PRESENT candidate's clock, steps 1 to 5 of R92: the seat is VACATED. -/
def State.endPresent (s : State) (slot : Nat) : State :=
  let s1 := (s.finishPresent slot).handIn slot
  let s2 := match (s1.entry? slot).bind Entry.seat with
    | some d => s1.requestVacate d
    | none => s1
  s2.tellEnd slot

/-- The end of a DISPLACED candidate's clock by expiry or END_CANDIDATE (R93). -/
def State.endDisplaced (s : State) (slot : Nat) : State :=
  (((((s.finishPresent slot).handIn slot).endNeed slot).releaseHeld slot).tellEnd slot).checkRun

/-- The expiry of a clock, by presence (R93). An EXPECTED candidate stays in the reseat queue (DESIGN CHOICE: R40 has
an entry leave when its candidate's clock ends, and R55 and R93 take a candidate out with the end of its need for a
seat, which for this one comes at the late limit; notes, assumption 61). -/
def State.expire (s : State) (slot : Nat) : State :=
  match s.entry? slot with
  | some e =>
    match e.presence with
    | .present => (s.endPresent slot).queueClock slot true
    | .displaced => s.endDisplaced slot
    | _ => (s.modEntry slot endClock).tellEnd slot
  | none => s

/-! ### Warnings -/

/-- Whether a mark fires: in use, reached, its flag clear (R101). -/
def markFires (mark remaining : Nat) (fired : Bool) : Bool := decide (mark ≠ 0) && decide (remaining ≤ mark) && !fired

/-- Whether any warning fires for a RUNNING clock as it stands. -/
def State.warns (s : State) (e : Entry) : Bool :=
  let f := (s.sitting e.sitting).defn
  decide (e.clock = .running)
    && (markFires f.warning1 e.remaining e.warned1 || markFires f.warning2 e.remaining e.warned2)

/-- Queues the WARN of a mark to an OCCUPIED seat (R101). -/
def State.queueWarn (s : State) (e : Entry) (mark : Nat) : State :=
  match e.seat with
  | some d =>
    if s.atOccupied e then s.hand (zoneOf d) (deskOf d) false (.warn e.number mark e.remaining) else s
  | none => s

/-- The warnings that have been reached fire, mark 1 first (R101). -/
def State.fireWarnings (s : State) (slot : Nat) : State :=
  match s.entry? slot with
  | some e =>
    if e.clock = .running then
      let f := (s.sitting e.sitting).defn
      let s1 := if markFires f.warning1 e.remaining e.warned1 then
          (s.modEntry slot fun e => { e with warned1 := true }).queueWarn e 1 else s
      if markFires f.warning2 e.remaining e.warned2 then
        (s1.modEntry slot fun e => { e with warned2 := true }).queueWarn e 2
      else s1
    else s
  | none => s

/-! ### The count of a hall second -/

/-- Whether the sitting's clocks count: WRITING or OVERTIME with no hold reason (R86). -/
def State.counting (s : State) (k : Nat) : Bool :=
  let r := s.sitting k
  (decide (r.phase = .writing) || decide (r.phase = .overtime)) && !isHeld r.holds

/-- What one hall second does to a clock (R86). -/
inductive Count where
  | nothing
  | used
  | rest
  deriving DecidableEq, Repr

def State.countOf (s : State) (e : Entry) : Count :=
  if e.clock = .running && s.counting e.sitting then
    if e.displacedCause then .nothing else if e.resting then .rest else .used
  else .nothing

/-- REST is removed from the pause causes, and an URGENT CLOCK follows (R96, R14). -/
def State.endRest (s : State) (slot : Nat) : State :=
  (s.modEntry slot fun e => { e with resting := false }).queueClock slot true

/-- The Timer counts one hall second for one clock and acts on what the count reached (R86). -/
def State.takeClock (s : State) (number : Nat) : State :=
  match s.byNumber? number with
  | none => s
  | some e =>
    match s.countOf e with
    | .nothing => s
    | .rest =>
      let s1 := s.modEntry e.slot fun e => { e with restUsed := e.restUsed + 1 }
      if e.restAllowance ≤ e.restUsed + 1 then s1.endRest e.slot else s1
    | .used =>
      let e' := { e with used := e.used + 1 }
      let s1 := s.modEntry e.slot fun e => { e with used := e.used + 1 }
      if e'.remaining = 0 then s1.expire e.slot
      else if s1.warns e' then s1.fireWarnings e.slot
      else if e'.used % 60 = 0 then s1.queueClock e.slot false
      else s1

/-! ### Entry to RUNNING, absence, displacement -/

/-- A WAITING clock becomes RUNNING, and the Timer acts on it (R87). -/
def State.startClock (s : State) (slot : Nat) : State :=
  let s1 := s.modEntry slot fun e => { e with clock := .running }
  match s1.entry? slot with
  | some e =>
    if e.remaining = 0 then s1.expire slot
    else
      let s2 := s1.fireWarnings slot
      if s2.atOccupied e then s2.queueClock slot true else s2
  | none => s1

/-- Every WAITING clock of the sitting becomes RUNNING (R87), and their WARNs and CLOCKs are handed, in ascending
candidate number (DESIGN CHOICE: R87 gives no order; notes, assumption 44). -/
def State.startClocks (s : State) (k : Nat) : State :=
  (s.slotsOf k fun e => decide (e.clock = .waiting)).foldl State.startClock s

/-- An EXPECTED candidate becomes ABSENT (R90). -/
def State.makeAbsent (s : State) (slot : Nat) : State :=
  ((s.modEntry slot fun e => { endClock e with presence := .absent }).releaseHeld slot).endNeed slot

/-- The late limit: every EXPECTED candidate of the sitting becomes ABSENT, in one event (R90), in ascending candidate
number (DESIGN CHOICE: R90 gives no order; notes, assumption 45). -/
def State.absences (s : State) (k : Nat) : State :=
  ((s.slotsOf k fun e => decide (e.presence = .expected)).foldl State.makeAbsent s).checkRun

/-- A PRESENT candidate becomes DISPLACED (R97). -/
def State.displace (s : State) (slot : Nat) : State :=
  s.modEntry slot fun e => { e with presence := .displaced, resting := false, displacedCause := true }

/-- The effects of a budget recomputed by AMEND or ADJUST_TIME (R100); none while the clock is not RUNNING. -/
def State.afterRebudget (s : State) (slot : Nat) : State :=
  match s.entry? slot with
  | some e =>
    if e.clock = .running then
      if e.remaining = 0 then s.expire slot
      else
        let s1 := s.fireWarnings slot
        if s1.atOccupied e then s1.queueClock slot false else s1
    else s
  | none => s

end Sys2Proof.Machine
end

