-- ==== Sys2Proof/Machine/Custody.lean ====
section
/-!
DEFINITION. The custody tracker's shared operations: showing a tray (R112), the tests and acceptance of a tag read
(R109–R111), removal of a tag from a tray and from the open batch (R117, R182), the void (R116), and deletion of a
roster entry (R10).
-/

namespace Sys2Proof.Machine

/-- Queues a STATE to a tray whose link is UP (R112). -/
def State.showTray (s : State) (u : Nat) : State :=
  if (s.linkRecord (trayLine u) (trayUnit u)).state = .up then
    s.hand (trayLine u) (trayUnit u) true
      (.trayState (s.tray u).state (s.tray u).sitting (s.tray u).tags.length)
  else s

/-! ### Tag reads -/

/-- The tray in whose list a tag stands is the tray number of its entry (R105). -/
def inTray (u t : Nat) (s : State) : Bool := (s.tray u).tags.contains t

/-- Whether a tag stands in the list of a tray other than `u`. -/
def State.inOtherTray (s : State) (u t : Nat) : Bool :=
  (List.range Config.trays).any fun v => decide (v ≠ u) && inTray v t s

/-- The verdict on a read of tag `t` at tray `u`: the first case of R109 that holds. -/
def State.judgeTag (s : State) (u t : Nat) : TrayVerdict :=
  if t = 0 || decide (Config.lastTag < t) then .stray
  else match s.byTag? t with
    | none => .stray
    | some e =>
      if e.custody = .issued then .premature
      else if e.custody = .void then .void
      else if inTray u t s then .ack
      else if s.inOtherTray u t then .duplicate
      else if (s.tray u).state = .reading || (s.tray u).state = .done then .trayBusy
      else if (s.tray u).state = .full then .trayFull
      else if (s.tray u).sitting.isSome && decide ((s.tray u).sitting ≠ some e.sitting) then .mixedSitting
      else if e.custody = .handedIn then .accept
      else if e.custody = .missing && decide ((s.sitting e.sitting).phase = .closed) then .accept
      else .duplicate

/-- The tray with a tag appended (R107, R108, R110). -/
def withTag (r : Tray) (t k : Nat) : Tray :=
  { state := if r.tags.length + 1 = Config.trayTags then .full else .filling,
    sitting := if r.tags = [] then some k else r.sitting, tags := r.tags ++ [t] }

/-- Releases the candidate's seat where it is VACATED. -/
def State.releaseVacated (s : State) (slot : Nat) : State :=
  match (s.entry? slot).bind Entry.seat with
  | some d =>
    match (s.seat d).tenure with
    | .vacated _ _ => s.releaseSeat d
    | _ => s
  | none => s

/-- The script of entry `e` is taken into tray `u` (R110), or as a late find (R111). -/
def State.acceptTag (s : State) (u t : Nat) (e : Entry) : State :=
  let s1 := s.setTray u (withTag (s.tray u) t e.sitting)
  let s2 := (s1.modEntry e.slot fun x => { x with custody := .collected, tray := some u }).count e.slot
    fun r => if e.custody = .handedIn then addCollected (dropAwaiting r) else addCollected r
  s2.releaseVacated e.slot

/-- The read of a tag at a tray, with its notice and its TRAY_VERDICT (R109, R112). -/
def State.readTag (s : State) (u t : Nat) : State :=
  let v := s.judgeTag u t
  let s1 := match v with
    | .accept => (match s.byTag? t with
      | some e => s.acceptTag u t e
      | none => s)
    | .stray => s.raise .strayTag (.tray u)
    | .premature => (match s.byTag? t with
      | some e => s.raise .premature (.candidate e.number)
      | none => s)
    | _ => s
  s1.hand (trayLine u) (trayUnit u) true (.trayVerdict t v (s1.tray u).state (s1.tray u).tags.length)

/-! ### Removal -/

/-- The tray after a tag has left its list (R117). -/
def withoutTag (r : Tray) (t : Nat) : Tray :=
  let tags := r.tags.filter (· != t)
  { tags := tags, sitting := if tags = [] then none else r.sitting,
    state := match r.state with
      | .full => .filling
      | .filling => if tags = [] then .empty else .filling
      | .done => if tags = [] then .empty else .done
      | x => x }

/-- The open batch drops the read count of a removed position (R182). -/
def State.dropPosition (s : State) (p : Nat) : State :=
  s.setBatch { s.scoring.batch with reads := removeAt s.scoring.batch.reads p }

/-- A void removes a tag from the list of tray `u` (R117). -/
def State.removeTag (s : State) (u t : Nat) : State :=
  match position? (s.tray u).tags t with
  | some p =>
    let s1 := s.setTray u (withoutTag (s.tray u) t)
    (if (s.tray u).state = .reading then s1.dropPosition p else s1).showTray u
  | none => s

/-- The tray list in which the entry's tag stands, and its position. -/
def State.placeOf (s : State) (e : Entry) : Option (Nat × Nat) :=
  match e.tray, e.tag with
  | some u, some t => (position? (s.tray u).tags t).map fun p => (u, p)
  | _, _ => none

/-- The entry's clock ends with its presence FINISHED at the void of an issued script (R116). -/
def State.voidIssued (s : State) (e : Entry) : State :=
  let s1 := s.finishPresent e.slot
  match e.presence with
  | .displaced => (((s1.endNeed e.slot).releaseHeld e.slot).tellEnd e.slot).checkRun
  | _ =>
    match e.seat with
    | some d => (s1.releaseSeat d).tellEnd e.slot
    | none => s1.tellEnd e.slot

/-- The script in a tray is taken out of it, and its mark record is deleted (R116). -/
def State.voidCollected (s : State) (e : Entry) : State :=
  let s1 := match e.tray, e.tag with
    | some u, some t => s.removeTag u t
    | _, _ => s
  (s1.modEntry e.slot fun x => { x with tray := none, mark := none }).count e.slot
    fun r => if e.custody = .marked then dropFinal (dropCollected r) else dropCollected r

/-- An accepted VOID_SCRIPT of the entry `e` (R116). -/
def State.voidScript (s : State) (e : Entry) : State :=
  let s1 := s.modEntry e.slot fun x => { x with custody := .void }
  match e.custody with
  | .issued => s1.voidIssued e
  | .handedIn => (s1.count e.slot dropAwaiting).releaseVacated e.slot
  | _ => s1.voidCollected e

/-! ### Deletion -/

/-- The sitting's counts without an entry (R10, R11). -/
def withoutEntry (e : Entry) (r : Sitting) : Sitting :=
  { r with
    enrolled := r.enrolled - 1
    placed := if e.seat.isSome then r.placed - 1 else r.placed
    present := if e.presence = .present || e.presence = .displaced then r.present - 1 else r.present
    awaiting := if e.custody = .handedIn then r.awaiting - 1 else r.awaiting
    collected := if isCollected e.custody then r.collected - 1 else r.collected
    final := if isFinal e.custody then r.final - 1 else r.final }

/-- Deletion of the roster entry in `slot`: its tag leaves the index, the counts it met fall, its mark record goes
with it, and its slot is free (R10). -/
def State.deleteEntry (s : State) (slot : Nat) : State :=
  match s.entry? slot with
  | some e =>
    let s1 := s.modSitting e.sitting (withoutEntry e)
    { s1 with roster := { tags := s1.roster.tags.filter (fun p => p.2 != slot),
                          entries := s1.roster.entries.filter (fun x => x.slot != slot) } }
  | none => s

end Sys2Proof.Machine
end

