-- ==== Sys2Proof/Machine/Scoring.lean ====
section
/-!
DEFINITION. The scoring unit's shared operations: the arithmetic (R167–R169), scoring and settling a record (R170,
R184), loading and amending a key (R161–R163, R172), and the rescore walk (R173–R175).
-/

namespace Sys2Proof.Machine

/-! ### Keys -/

/-- Question `i` of the current view (R160, R161). -/
def Key.question (k : Key) (i : Nat) : Question := Table.read {} k.questions i

/-- The question numbers of a key, 1 to Q. -/
def Key.numbers (k : Key) : List Nat := (List.range k.q).map (· + 1)

/-- The count of questions of the key that are loaded (R162). -/
def Key.loadedCount (k : Key) : Nat := (k.numbers.filter fun i => (k.question i).loaded).length

/-- The lowest question number not loaded (R164). -/
def Key.firstUnloaded (k : Key) : Option Nat := k.numbers.find? fun i => !(k.question i).loaded

/-- The shape of the read: the option count of each question (R149, R161). -/
def Key.shape (k : Key) : List Nat := k.numbers.map fun i => (k.question i).options

/-- One amendment applied to question entries (R161). -/
def amendQuestion (t : Table Question) (question : Nat) (kind : AmendKind) : Table Question :=
  let x : Question := Table.read {} t question
  Table.write {} t question
    (match kind with
      | .void => { x with void := true }
      | .addAlternative o => { x with accepted := addChoice x.accepted o })

/-- The questions as locked with a list of amendments applied in order (R161). -/
def withAmendments (base : Table Question) (l : List Amendment) : Table Question :=
  l.foldl (fun t a => amendQuestion t a.question a.kind) base

/-! ### Arithmetic -/

/-- The penalty of a question of weight `w` (R167). -/
def penaltyOf (p : Penalty) (w : Nat) : Nat :=
  match p with
  | .none => 0
  | .quarter => 3 * w
  | .third => 4 * w
  | .half => 6 * w
  | .whole => 12 * w

/-- The score of one question for one outcome, in score units (R167). -/
def scoreOf (k : Key) (x : Question) (m : Mark) : Int :=
  if x.void then 0
  else match m with
    | .option o => if hasChoice x.accepted o then (12 * x.weight : Nat) else -(penaltyOf k.penalty x.weight : Nat)
    | .multiple => (match k.multiple with
      | .wrong => -(penaltyOf k.penalty x.weight : Nat)
      | .zero => 0)
    | .blank | .doubtful => 0

/-- The sum of a list of whole numbers. -/
def sumInt (l : List Int) : Int := l.foldr (· + ·) 0

/-- The maximum M (R168). -/
def Key.maximum (k : Key) : Nat :=
  (k.numbers.map fun i => if (k.question i).void then 0 else 12 * (k.question i).weight).foldr (· + ·) 0

/-- The outcome for question `i` in a vector; BLANK beyond it. -/
def markAt (v : List Mark) (i : Nat) : Mark := (nth1 v i).getD .blank

/-- The sum over questions 1 to Q, before the floor (R168). -/
def Key.sum (k : Key) (v : List Mark) : Int := sumInt (k.numbers.map fun i => scoreOf k (k.question i) (markAt v i))

/-- Whether the floor policy replaces a sum (R168). -/
def Key.floors (k : Key) (v : List Mark) : Bool := decide (k.floor = .zero) && decide (k.sum v < 0)

/-- The total T (R168). -/
def Key.total (k : Key) (v : List Mark) : Int := if k.floors v then 0 else k.sum v

/-- The rounded mark in quarter marks (R169). -/
def roundedMark (t : Int) : Int := (t + 6) / 12

/-- The percent in tenths (R169). -/
def percentOf (t : Int) (m : Nat) : Int := if m = 0 then 0 else (2000 * t + m) / (2 * m)

/-- The totals written together for a total `t` under the key's current revision (R169, R170). -/
def Key.totalsFor (k : Key) (t : Int) : Totals :=
  { revision := k.revision, maximum := k.maximum, total := t, mark := roundedMark t,
    percent := percentOf t k.maximum }

/-- The record scored from its working vector (R170). -/
def scored (k : Key) (r : MarkRecord) : MarkRecord :=
  { r with totals := some (k.totalsFor (k.total r.working)), floored := k.floors r.working,
           noMaximum := decide (k.maximum = 0) }

/-! ### Records -/

/-- Changes the mark record of the entry in `slot`, where it has one. -/
def State.modRecord (s : State) (slot : Nat) (f : MarkRecord → MarkRecord) : State :=
  s.modEntry slot fun e => { e with mark := e.mark.map f }

/-- Changes the custody of the entry in `slot`. -/
def State.setCustody (s : State) (slot : Nat) (c : Custody) : State :=
  s.modEntry slot fun e => { e with custody := c }

/-- Changes a count of the sitting of the entry in `slot` that becomes final (R81). -/
def State.countFinal (s : State) (k : Nat) : State := s.modSitting k addFinal

/-- The question numbers at which a vector is DOUBTFUL, ascending (R184). -/
def doubtfuls (v : List Mark) : List Nat :=
  ((List.range v.length).map (· + 1)).filter fun i => decide (markAt v i = .doubtful)

/-- The question numbers at which two vectors differ, ascending (R185). -/
def differing (v w : List Mark) : List Nat :=
  ((List.range (max v.length w.length)).map (· + 1)).filter fun i => decide (markAt v i ≠ markAt w i)

/-- The record of entry `e` is settled from its working vector, `r` being the record as it stands (R184). A record
that becomes MANUAL is not scored and keeps its floored and no-maximum flags, clear at a first read (DESIGN CHOICE:
R166 and R184 give them no value then; notes, assumption 67). -/
def State.settle (s : State) (e : Entry) (r : MarkRecord) : State :=
  let k := s.key e.sitting
  let put (c : Custody) (r : MarkRecord) : State := s.modEntry e.slot fun x => { x with custody := c, mark := some r }
  let n := (doubtfuls r.working).length
  if n = 0 then (put .marked (scored k { r with queries := [] })).countFinal e.sitting
  else if n ≤ 8 then
    (put .provisional (scored k { r with queries := doubtfuls r.working })).raise .query (.candidate e.number)
  else (put .manual { r with queries := [], totals := none }).raise .query (.candidate e.number)

/-! ### The rescore walk -/

/-- Whether the sitting's key stands in the walk queue or is being walked (R72, R176). -/
def State.walkBusy (s : State) (k : Nat) : Bool :=
  s.scoring.walkQueue.contains k || (match s.scoring.walk with
    | some w => decide (w.sitting = k)
    | none => false)

/-- With no walk under way, the head of the queue becomes the sitting being walked, with position none (R173). -/
def State.startWalk (s : State) : State :=
  match s.scoring.walk, s.scoring.walkQueue with
  | none, k :: rest =>
    { s with scoring := { s.scoring with walk := some { sitting := k, position := none }, walkQueue := rest } }
  | _, _ => s

/-- An amendment puts its sitting on the queue, leaves it there, or restarts its walk (R173). -/
def State.queueWalk (s : State) (k : Nat) : State :=
  match s.scoring.walk with
  | some w =>
    if w.sitting = k then { s with scoring := { s.scoring with walk := some { w with position := none } } }
    else if s.scoring.walkQueue.contains k then s
    else { s with scoring := { s.scoring with walkQueue := s.scoring.walkQueue ++ [k] } }
  | none =>
    if s.scoring.walkQueue.contains k then s.startWalk
    else State.startWalk { s with scoring := { s.scoring with walkQueue := s.scoring.walkQueue ++ [k] } }

/-- The entry of the walked sitting with the smallest candidate number above the position that holds a mark record
(R2, R174). -/
def State.nextVisit (s : State) (w : Walk) : Option Entry :=
  (s.entriesOf w.sitting).find? fun e =>
    (match w.position with
      | some p => decide (p < e.number)
      | none => true) && e.mark.isSome

/-- Whether a visited record is rescored (R174). -/
def staleRecord (k : Key) (e : Entry) (r : MarkRecord) : Bool :=
  (decide (e.custody = .readOnce) || decide (e.custody = .provisional) || decide (e.custody = .disputed)
    || decide (e.custody = .marked)) && !r.manual
    && (match r.totals with
      | some t => decide (t.revision < k.revision)
      | none => false)

/-- One visit of the rescore walk (R174), or its end (R175). -/
def State.walkStep (s : State) : State :=
  match s.scoring.walk with
  | none => s
  | some w =>
    match s.nextVisit w with
    | some e =>
      let s1 := { s with scoring := { s.scoring with walk := some { w with position := some e.number } } }
      match e.mark with
      | some r =>
        if staleRecord (s.key w.sitting) e r then s1.modRecord e.slot (scored (s.key w.sitting)) else s1
      | none => s1
    | none =>
      (({ s with scoring := { s.scoring with walk := none } } : State).raise .rescoreDone (.sitting w.sitting)).startWalk

end Sys2Proof.Machine
end

