-- ==== Sys2Proof/Machine/Decoding.lean ====
section
/-!
DEFINITION. The sheet port and the mark decoder: calibration, bubble classes and outcomes (R151–R158), the buffers
and verdicts (R145–R150), identification and storing of a read (R180–R186), and the close of a batch (R187).
-/

namespace Sys2Proof.Machine

/-! ### Calibration and bubbles -/

/-- The channel of a column: A is column 0 (R151). -/
def channelOf (c : CalSet) : Nat → Channel
  | 0 => c.a
  | 1 => c.b
  | 2 => c.c
  | 3 => c.d
  | _ => c.e

/-- The darkness of a raw sample (R151). -/
def darkness (c : Channel) (sample : Nat) : Nat :=
  (clampInt 0 1023 ((sample * c.gain / 2 ^ (12 + c.shift) : Nat) + c.offset)).toNat

/-- The class of a bubble (R153). -/
inductive Bubble where
  | filled
  | empty
  | faint
  deriving DecidableEq, Repr

def classify (t : Thresholds) (d : Nat) : Bubble :=
  if t.high ≤ d then .filled else if d ≤ t.low then .empty else .faint

/-- The five darkness values of a row, A to E; a sample the row does not hold is 0 (R151). -/
def darkRow (c : CalSet) (row : List Nat) : List Nat :=
  (List.range 5).map fun i => darkness (channelOf c i) (row.getD i 0)

/-! ### Outcomes -/

/-- The columns below `n` whose bubble is of a class. -/
def columnsOf (t : Thresholds) (d : List Nat) (n : Nat) (b : Bubble) : List Nat :=
  (List.range n).filter fun i => decide (classify t (d.getD i 0) = b)

/-- The highest of the values at the columns given. -/
def darkest (d : List Nat) (cols : List Nat) : Nat := cols.foldl (fun m i => max m (d.getD i 0)) 0

/-- The first of the columns given whose value is the highest. -/
def darkestColumn (d : List Nat) (cols : List Nat) : Nat :=
  (cols.find? fun i => decide (d.getD i 0 = darkest d cols)).getD 0

/-- The outcome of one question from the darkness values of its row, with whether an erasure was resolved (R156). -/
def outcomeOf (t : Thresholds) (n : Nat) (d : List Nat) : Mark × Bool :=
  let filled := columnsOf t d n .filled
  let faint := columnsOf t d n .faint
  match filled, faint with
  | [], [] => (.blank, false)
  | [], _ :: _ => (.doubtful, false)
  | [i], [] => (.option (choiceOf i), false)
  | [i], _ :: _ =>
    if t.margin ≤ d.getD i 0 - darkest d faint then (.option (choiceOf i), true) else (.doubtful, false)
  | _, _ =>
    let i := darkestColumn d filled
    if t.margin ≤ d.getD i 0 - darkest d (filled.filter (· != i)) then (.option (choiceOf i), true)
    else (.multiple, false)

/-- A FILLED or FAINT bubble beyond the first `n` columns (R155). -/
def straysIn (t : Thresholds) (n : Nat) (d : List Nat) : Bool :=
  ((List.range 5).filter fun i => decide (n ≤ i)).any fun i => decide (classify t (d.getD i 0) ≠ .empty)

/-- What a decoded sheet hands over (R158). -/
structure Read where
  marks : List Mark
  strayFill : Bool
  extraRows : Bool
  erasures : Nat
  deriving DecidableEq, Repr

/-- The rows that stand for key questions, each with its option count (R155–R157). -/
def questionRows (job : DecodeJob) (rows : List (List Nat)) : List (Nat × List Nat) :=
  (job.shape.zip rows).map fun p => (p.1, darkRow job.calibration p.2)

/-- The decoding of a sheet's rows by what the decoder copied (R151–R158). -/
def decode (job : DecodeJob) (rows : List (List Nat)) : Read :=
  let read := questionRows job rows
  let outcomes := read.map fun p => outcomeOf job.thresholds p.1 p.2
  { marks := outcomes.map Prod.fst ++ List.replicate (job.shape.length - read.length) .blank
    strayFill := read.any fun p => straysIn job.thresholds p.1 p.2
    extraRows := (rows.drop job.shape.length).any fun row =>
      !(columnsOf job.thresholds (darkRow job.calibration row) 5 .filled).isEmpty
    erasures := (outcomes.filter Prod.snd).length }

/-! ### Verdicts -/

/-- Whether a batch is open (R178). -/
def Batch.isOpen (b : Batch) : Bool := decide (b.state ≠ .none)

/-- The subject of SHEET_REJECTED: the open batch's tray, or none (R148). -/
def State.batchSubject (s : State) : Subject :=
  if s.scoring.batch.isOpen then .tray s.scoring.batch.tray else .none

/-- The counts of an open batch take a verdict (R180). -/
def countVerdict (b : Batch) (v : SheetVerdict) : Batch :=
  if b.isOpen then
    if v = .accepted then { b with accepted := min 255 (b.accepted + 1) }
    else { b with rejected := min 255 (b.rejected + 1) }
  else b

/-- Puts a verdict message on the verdict queue of four places; with the queue full its head has been sent by then
(R148: the queue never holds more than four). -/
def State.pushReply (s : State) (r : SheetReply) : State :=
  match s.sheet.replies with
  | x :: rest =>
    if Config.sheetReplies ≤ s.sheet.replies.length then
      { s with sheet := { s.sheet with sent := some x, replies := rest ++ [r] } }
    else { s with sheet := { s.sheet with replies := s.sheet.replies ++ [r] } }
  | [] => { s with sheet := { s.sheet with replies := [r] } }

/-- A sheet's verdict is decided: the batch counts it, SHEET_REJECTED is raised for every verdict but ACCEPTED, and
the message is handed to the verdict output (R148, R180). -/
def State.decideSheet (s : State) (sheet tag : Nat) (v : SheetVerdict) : State :=
  let s1 := if v = .accepted then s else s.raise .sheetRejected s.batchSubject
  (s1.setBatch (countVerdict s.scoring.batch v)).pushReply { sheet := sheet, tag := tag, verdict := v }

/-- A buffer becomes FREE (R146); a buffer that was filled leaves the order of R145. -/
def State.freeBuffer (s : State) (i : Nat) : State :=
  let s1 := s.setBuffer i {}
  { s1 with sheet := { s1.sheet with freed := s1.sheet.freed ++ [i], filled := s1.sheet.filled.filter (· != i) } }

/-! ### The close of a batch -/

/-- The positions of the batch's tray with read count 0, each with its tag (R187). -/
def State.unreadPositions (s : State) : List (Nat × Nat) :=
  (((s.scoring.batch.reads.zip (s.tray s.scoring.batch.tray).tags).zipIdx 1).filter fun p => p.1.1 == 0).map
    fun p => (p.2, p.1.2)

/-- The result of END_BATCH (R187, step 2). -/
def State.batchReport (s : State) : Report :=
  let b := s.scoring.batch
  .batchClosed b.tray b.accepted b.rejected b.outOfSequence s.unreadPositions.length (s.unreadPositions.take 16)

/-- The tray as the batch leaves it: DONE, or EMPTY with its sitting cleared where its list is empty (R187). -/
def closedTray (r : Tray) : Tray := if r.tags = [] then {} else { r with state := .done }

/-- The batch closes, and END_BATCH completes with OK (R187). -/
def State.closeBatch (s : State) : State :=
  let u := s.scoring.batch.tray
  let s1 := ((s.setTray u (closedTray (s.tray u))).showTray u).raise .batchDone (.tray u)
  (s1.setBatch {}).finishTask .ok false s.batchReport

/-- An owed sheet's verdict has been decided: its buffer leaves the owed set, and the last one closes the batch
(R187). -/
def State.settleOwed (s : State) (i : Nat) : State :=
  let b := s.scoring.batch
  if b.state = .closing && b.owed.contains i then
    let rest := b.owed.filter (· != i)
    let s1 := s.setBatch { b with owed := rest }
    if rest = [] then s1.closeBatch else s1
  else s

/-! ### Taking a sheet -/

/-- The state of the batch as a buffer's sheet finds it: in CLOSING only the owed buffers find it open (R180). -/
def State.batchFor (s : State) (i : Nat) : Bool :=
  match s.scoring.batch.state with
  | .none => false
  | .open => true
  | .closing => s.scoring.batch.owed.contains i

/-- The sitting of the open batch's tray (R149). -/
def State.batchSitting (s : State) : Option Nat := (s.tray s.scoring.batch.tray).sitting

/-- A decoded sheet's verdict is decided: its buffer becomes FREE and leaves the owed set (R150, R187). -/
def State.answerSheet (s : State) (i : Nat) (v : SheetVerdict) : State :=
  let b := s.buffer i
  (((({ s with sheet := { s.sheet with job := none } } : State).decideSheet b.sheet b.tag v).freeBuffer i)).settleOwed i

/-- The decoder takes the sheet of buffer `i` (R149). -/
def State.takeSheet (s : State) (i : Nat) : State :=
  if !s.batchFor i then s.answerSheet i .noBatch
  else match s.batchSitting with
    | none => s.answerSheet i .foreign
    | some k =>
      let s1 := s.setBuffer i { s.buffer i with state := .decoding }
      { s1 with sheet := { s1.sheet with
          job := some { buffer := i, calibration := s.settings.working.calibration,
                        thresholds := s.settings.working.thresholds, shape := (s.key k).shape } } }

/-- The decoder takes the buffer that became WAITING first, whenever it is not working on a sheet (R149). -/
def State.decoderStep (s : State) : State :=
  match s.sheet.job with
  | some _ => s
  | none =>
    match s.sheet.filled.find? fun i => (s.buffer i).state == .waiting with
    | some i => s.takeSheet i
    | none => s

/-! ### The hand-over -/

/-- The expected next position: the smallest whose read count is 0 (R178). -/
def expectedNext (reads : List Nat) : Option Nat := position? reads 0

/-- Whether a sheet at position `p` is out of sequence (R181). -/
def outOfOrder (reads : List Nat) (p : Nat) : Bool :=
  match expectedNext reads with
  | some x => decide (x < p)
  | none => false

/-- The read count of position `p` rises by 1, saturating at 2 (R181). -/
def matchPosition (reads : List Nat) (p : Nat) : List Nat :=
  reads.zipIdx 1 |>.map fun x => if x.2 = p then min 2 (x.1 + 1) else x.1

/-- Whether a read is past what the key's read policy accepts (R186). -/
def isRepeat (p : ReadPolicy) (c : Custody) : Bool :=
  match p, c with
  | _, .collected => false
  | .double, .readOnce => false
  | _, _ => true

/-- The first accepted read of a script (R183). -/
def firstRecord (r : Read) (out : Bool) : MarkRecord :=
  { first := r.marks, working := r.marks, strayFill := r.strayFill, extraRows := r.extraRows,
    erasures := r.erasures, outOfSequence := out }

/-- The record with its second read (R185). -/
def secondRecord (m : MarkRecord) (r : Read) (out : Bool) : MarkRecord :=
  { m with second := some r.marks, strayFill := m.strayFill || r.strayFill, extraRows := m.extraRows || r.extraRows,
           erasures := max m.erasures r.erasures, outOfSequence := m.outOfSequence || out }

/-- The second read is compared with the first (R185). -/
def State.storeSecond (s : State) (e : Entry) (m : MarkRecord) : State :=
  let d := differing m.first (m.second.getD [])
  if d = [] then s.settle e m
  else
    (s.modEntry e.slot fun x => { x with
      custody := .disputed,
      mark := some (scored (s.key e.sitting) { m with disputes := d.take 8, many := decide (8 < d.length) }) }).raise
        .dispute (.candidate e.number)

/-- An accepted read is stored (R183, R185). -/
def State.storeRead (s : State) (e : Entry) (r : Read) (out : Bool) : State :=
  match e.custody, e.mark with
  | .readOnce, some m => s.storeSecond e (secondRecord m r out)
  | _, _ =>
    let m := firstRecord r out
    match (s.key e.sitting).read with
    | .single => s.settle e m
    | .double => s.modEntry e.slot fun x => { x with
        custody := .readOnce, mark := some (scored (s.key e.sitting) m) }

/-- The sheet is matched to position `p` of the batch's tray (R181); an ACCEPTED one out of sequence is counted. -/
def State.matchSheet (s : State) (p : Nat) (counts : Bool) : State :=
  let b := s.scoring.batch
  s.setBatch { b with
    reads := matchPosition b.reads p,
    outOfSequence := if counts && outOfOrder b.reads p then min 255 (b.outOfSequence + 1) else b.outOfSequence }

/-- The verdict on a decoded read with tag `t`, and its storing (R180–R186). -/
def State.identify (s : State) (t : Nat) (r : Read) : State × SheetVerdict :=
  match s.byTag? t with
  | none => (s, .foreign)
  | some e =>
    if e.custody = .void then (s, .voided)
    else match position? (s.tray s.scoring.batch.tray).tags t with
      | none => (s, .foreign)
      | some p =>
        if isRepeat (s.key e.sitting).read e.custody then (s.matchSheet p false, .repeated)
        else ((s.matchSheet p true).storeRead e r (outOfOrder s.scoring.batch.reads p), .accepted)

/-- The hand-over of the sheet in decode (R150). -/
def State.handOver (s : State) (job : DecodeJob) : State :=
  let b := s.buffer job.buffer
  let (s1, v) := s.identify b.tag (decode job b.rows)
  s1.answerSheet job.buffer v

/-- The next event of the decoder: the hand-over of the sheet in decode, or the taking of a sheet. -/
def State.decoderEvent (s : State) : State :=
  match s.sheet.job with
  | some job => s.handOver job
  | none => s.decoderStep

end Sys2Proof.Machine
end

