-- ==== Sys2Proof/Machine/Operands.lean ====
section
/-!
DEFINITION. The tasks of the mailbox with their codes and access (R195, R199), the start and the completion of a
task, and the tests on operands that many tasks share.
-/

namespace Sys2Proof.Machine

/-- The tasks, in code order. -/
inductive Task where
  | enterLevel | leaveLevel | setPasscode | setGrants | readNotices | saveSettings | reboot | setLineLimits | setSignal
  | enrol | withdraw | amend | lookup | list
  | seatInfo | disableSeat | enableSeat | reserve | unreserve | allocate | abortAllocation | move | restartLine
  | defineSitting | openNow | hold | resume | closeCollection | retireSitting | setHallTime | sittingInfo | adjustTime
  | endCandidate
  | voidScript | trayInfo | clearTray
  | loadKey | lockKey | amendKey | readKey | setCalibration | setThresholds | beginBatch | endBatch | readMark
  | resolveQuery | resolveDispute | manualMark | releaseResults
  deriving DecidableEq, Repr

/-- The task code (each task's rule). -/
def taskCode : Task → Nat
  | .enterLevel => 0x01
  | .leaveLevel => 0x02
  | .setPasscode => 0x03
  | .setGrants => 0x04
  | .readNotices => 0x05
  | .saveSettings => 0x06
  | .reboot => 0x07
  | .setLineLimits => 0x08
  | .setSignal => 0x09
  | .enrol => 0x11
  | .withdraw => 0x12
  | .amend => 0x13
  | .lookup => 0x14
  | .list => 0x15
  | .seatInfo => 0x21
  | .disableSeat => 0x22
  | .enableSeat => 0x23
  | .reserve => 0x24
  | .unreserve => 0x25
  | .allocate => 0x26
  | .abortAllocation => 0x27
  | .move => 0x28
  | .restartLine => 0x29
  | .defineSitting => 0x31
  | .openNow => 0x32
  | .hold => 0x33
  | .resume => 0x34
  | .closeCollection => 0x35
  | .retireSitting => 0x36
  | .setHallTime => 0x37
  | .sittingInfo => 0x38
  | .adjustTime => 0x39
  | .endCandidate => 0x3A
  | .voidScript => 0x41
  | .trayInfo => 0x42
  | .clearTray => 0x43
  | .loadKey => 0x51
  | .lockKey => 0x52
  | .amendKey => 0x53
  | .readKey => 0x54
  | .setCalibration => 0x55
  | .setThresholds => 0x56
  | .beginBatch => 0x57
  | .endBatch => 0x58
  | .readMark => 0x59
  | .resolveQuery => 0x5A
  | .resolveDispute => 0x5B
  | .manualMark => 0x5C
  | .releaseResults => 0x5D

/-- The tasks of the task table. -/
def tasks : List Task :=
  [.enterLevel, .leaveLevel, .setPasscode, .setGrants, .readNotices, .saveSettings, .reboot, .setLineLimits, .setSignal,
    .enrol, .withdraw, .amend, .lookup, .list, .seatInfo, .disableSeat, .enableSeat, .reserve, .unreserve, .allocate,
    .abortAllocation, .move, .restartLine, .defineSitting, .openNow, .hold, .resume, .closeCollection, .retireSitting,
    .setHallTime, .sittingInfo, .adjustTime, .endCandidate, .voidScript, .trayInfo, .clearTray, .loadKey, .lockKey,
    .amendKey, .readKey, .setCalibration, .setThresholds, .beginBatch, .endBatch, .readMark, .resolveQuery,
    .resolveDispute, .manualMark, .releaseResults]

/-- Whether the task is open at NONE (R199). -/
def openAtNone : Task → Bool
  | .enterLevel | .leaveLevel | .readNotices => true
  | _ => false

/-- Whether the invigilator level permits the task under a grant set (R199). -/
def invigilatorMay (g : Grants) : Task → Bool
  | .enterLevel | .leaveLevel | .readNotices => true
  | .lookup | .list | .seatInfo | .sittingInfo | .trayInfo => true
  | .enrol | .withdraw | .amend => g.roster
  | .disableSeat | .enableSeat | .reserve | .unreserve | .restartLine => g.seats
  | .allocate | .abortAllocation | .move => g.placement
  | .defineSitting | .openNow | .hold | .resume | .closeCollection | .setHallTime | .clearTray => g.sittingControl
  | .endCandidate | .adjustTime => g.time
  | .beginBatch | .endBatch | .readMark | .resolveQuery | .resolveDispute | .manualMark => g.review
  | .setPasscode | .setGrants | .saveSettings | .reboot | .setLineLimits | .setSignal | .retireSitting | .voidScript
  | .loadKey | .lockKey | .amendKey | .readKey | .setCalibration | .setThresholds | .releaseResults => false

/-- Whether the port permits the task (R199). -/
def State.permits (s : State) (t : Task) : Bool :=
  match s.port.level with
  | .examiner => true
  | .invigilator => invigilatorMay s.settings.working.grants t
  | .none => openAtNone t

/-- The event that starts a task: the result block is zeroed, the ignored-write flag is cleared, the mailbox is
RUNNING with the code (R195). -/
def State.startTask (s : State) (code : Nat) : State :=
  { s with port := { s.port with running := some code, result := {}, ignoredWrite := false } }

/-- A write the RUNNING mailbox ignores sets the ignored-write flag (R195). -/
def State.ignoreWrite (s : State) : State := { s with port := { s.port with ignoredWrite := true } }

/-- The task completes with a refusal that reports nothing more. -/
def State.refuse (s : State) (code : ResultCode) : State := s.finishTask code false .nothing

/-- A task written to the port: ignored while the mailbox is RUNNING, refused with DENIED where R199 does not permit
it, otherwise carried out by `body`. With the part unpowered or starting up, the write is ignored (R195, R199, R203).
-/
def State.atPort (s : State) (t : Task) (body : State → State) : State :=
  match s.power.power with
  | .on =>
    if s.port.running.isSome then s.ignoreWrite
    else if s.permits t then body (s.startTask (taskCode t)) else (s.startTask (taskCode t)).refuse .denied
  | _ => s

/-- An event of a block takes place only with the part running (R203). -/
def State.whileOn (s : State) (body : State → State) : State :=
  match s.power.power with
  | .on => body s
  | _ => s

/-! ### Operand tests -/

/-- A candidate number outside 1–99,999,999 (R3). -/
def badNumber (n : Nat) : Bool := decide (n = 0) || decide (Config.lastNumber < n)

/-- A script tag outside 1–999,999 (R17). -/
def badTag (t : Nat) : Bool := decide (t = 0) || decide (Config.lastTag < t)

/-- A sitting index above 15. -/
def badSitting (k : Nat) : Bool := decide (Config.sittings ≤ k)

/-- A task that names a candidate by number: BAD_PARAM out of range, NOT_FOUND when it is not in the roster (R1). -/
def State.withCandidate (s : State) (n : Nat) (body : Entry → State) : State :=
  if badNumber n then s.refuse .badParam
  else match s.byNumber? n with
    | none => s.refuse .notFound
    | some e => body e

end Sys2Proof.Machine
end

