-- ==== Sys2Proof/Machine/RosterTasks.lean ====
section
/-!
DEFINITION. The commands of the roster: ENROL, WITHDRAW, AMEND, LOOKUP and LIST (R6–R16).
-/

namespace Sys2Proof.Machine

/-! ### ENROL -/

/-- The phases that admit enrolment and a run (R6, R44). -/
def admitsEnrolment : Phase → Bool
  | .defined | .opened | .reading => true
  | _ => false

/-- The lowest free slot (R1). -/
def State.freeSlot (s : State) : Option Nat := (List.range Config.slots).find? fun i => (s.entry? i).isNone

/-- Inserts an entry at its place in the roster order (R1). -/
def insertEntry (e : Entry) : List Entry → List Entry
  | [] => [e]
  | x :: xs => if e.number < x.number then e :: x :: xs else x :: insertEntry e xs

/-- A new entry of sitting `k` in slot `slot` (R3, R4, R5, R7), `w` being the writing duration. -/
def newEntry (k slot w : Nat) (p : EnrolEntry) : Entry :=
  { slot := slot, number := p.number, sitting := k, needs := p.needs, allowance := clampNat 0 100 p.allowance,
    restAllowance := clampNat 0 3600 p.restAllowance, budget := budgetOf w (clampNat 0 100 p.allowance) 0 0 }

/-- One entry of ENROL is decided: its outcome, and the part after it (R7). -/
def State.enrolOne (s : State) (k : Nat) (p : EnrolEntry) : State × ResultCode :=
  if badNumber p.number then (s, .badParam)
  else if (s.byNumber? p.number).isSome then (s, .duplicate)
  else match s.freeSlot with
    | none => (s, .full)
    | some i =>
      let s1 := s.setEntries (insertEntry (newEntry k i (s.sitting k).defn.writing p) s.roster.entries)
      (s1.modSitting k fun r => { r with enrolled := r.enrolled + 1 }, .ok)

/-- The entries are taken one at a time in parameter order (R7). -/
def State.enrolAll (s : State) (k : Nat) : List EnrolEntry → State × List ResultCode
  | [] => (s, [])
  | p :: rest =>
    let (s1, c) := s.enrolOne k p
    let (s2, cs) := s1.enrolAll k rest
    (s2, c :: cs)

/-- The first code of a list that is not OK, or OK (R7, R163). -/
def firstRefusal (l : List ResultCode) : ResultCode := (l.find? (· != .ok)).getD .ok

/-- Whether an entry's allowance or rest allowance is clamped (R7). -/
def enrolClamps (p : EnrolEntry) : Bool := decide (100 < p.allowance) || decide (3600 < p.restAllowance)

/-- ENROL (R6, R7). -/
def execEnrol (k : Nat) (entries : List EnrolEntry) (s : State) : Result :=
  .next <| s.atPort .enrol fun s =>
    if badSitting k || entries.isEmpty || decide (8 < entries.length) then s.refuse .badParam
    else if !admitsEnrolment (s.sitting k).phase then s.refuse .wrongPhase
    else
      let (s1, codes) := s.enrolAll k entries
      s1.finishTask (firstRefusal codes) ((entries.zip codes).any fun p => decide (p.2 = .ok) && enrolClamps p.1)
        (.enrolled (codes.filter (· == .ok)).length codes)

/-! ### WITHDRAW -/

/-- The candidate leaves the unserved part of an active run's list, and is passed over (R9). -/
def State.leaveList (s : State) (slot : Nat) : State :=
  match s.placement.run with
  | some r =>
    if (r.list.drop r.position).contains slot then
      s.setRun (some { r with
        list := r.list.take r.position ++ (r.list.drop r.position).filter (· != slot), passed := r.passed + 1 })
    else s
  | none => s

/-- WITHDRAW (R9). -/
def execWithdraw (number : Nat) (s : State) : Result :=
  .next <| s.atPort .withdraw fun s =>
    match s.byNumber? number with
    | none => s.refuse .notFound
    | some e =>
      if e.presence ≠ .expected then s.refuse .wrongState
      else
        let s1 := ((s.endNeed e.slot).leaveList e.slot).releaseHeld e.slot
        ((s1.deleteEntry e.slot).checkRun).finishTask .ok false
          (.withdrawn number (if e.seat.isSome then e.seat else e.offer))

/-! ### AMEND -/

/-- New needs are refused by the seat held or offered (R13). -/
def State.needsConflict (s : State) (needs : CapSet) (d : Nat) : Bool :=
  !capsIn needs (s.seat d).caps
    || (!hasNeeds needs && (match s.covering d with
      | some (_, x) => decide (x.owner = .special)
      | none => false))

/-- The seat the check of R13 applies to. -/
def seatChecked (e : Entry) : Option Nat := if e.seat.isSome then e.seat else e.offer

def State.needsRefused (s : State) (e : Entry) : Option CapSet → Bool
  | none => false
  | some needs =>
    match seatChecked e with
    | some d => s.needsConflict needs d
    | none => false

/-- A new allowance is written and the budget recomputed (R14, R100). -/
def State.amendAllowance (s : State) (slot : Nat) : Option Nat → State
  | none => s
  | some a =>
    match s.entry? slot with
    | none => s
    | some e =>
      let w := (s.sitting e.sitting).defn.writing
      (s.modEntry slot fun e => rebudget w { e with allowance := clampNat 0 100 a }).afterRebudget slot

/-- The rest allowance as written: clamped, then raised to rest used (R14). -/
def restWritten (used r : Nat) : Nat := max used (clampNat 0 3600 r)

/-- A new rest allowance is written; a rest it exhausts ends (R14). -/
def State.amendRest (s : State) (slot : Nat) : Option Nat → State
  | none => s
  | some r =>
    match s.entry? slot with
    | none => s
    | some e =>
      let s1 := s.modEntry slot fun e => { e with restAllowance := restWritten e.restUsed r }
      if restWritten e.restUsed r = e.restUsed && e.resting then s1.endRest slot else s1

/-- Whether a value given to AMEND is adjusted (R12, R14). -/
def amendClamps (e : Entry) (allowance rest : Option Nat) : Bool :=
  (match allowance with
    | some a => decide (clampNat 0 100 a ≠ a)
    | none => false)
  || (match rest with
    | some r => decide (restWritten e.restUsed r ≠ r)
    | none => false)

/-- AMEND's report of the entry as it stands (R12). -/
def State.amendReport (s : State) (slot : Nat) : Report :=
  match s.entry? slot with
  | some e => .amended e.needs e.allowance e.restAllowance e.budget e.used e.remaining
  | none => .nothing

/-- AMEND (R12–R14). -/
def execAmend (number : Nat) (needs : Option CapSet) (allowance rest : Option Nat) (s : State) : Result :=
  .next <| s.atPort .amend fun s =>
    match s.byNumber? number with
    | none => s.refuse .notFound
    | some e =>
      if needs.isNone && allowance.isNone && rest.isNone then s.refuse .badParam
      else if (allowance.isSome || rest.isSome) && decide (e.clock = .ended) then s.refuse .wrongState
      else if s.needsRefused e needs then s.refuse .conflict
      else
        let s1 := s.modEntry e.slot fun e => { e with needs := needs.getD e.needs }
        let s2 := (s1.amendAllowance e.slot allowance).amendRest e.slot rest
        s2.finishTask .ok (amendClamps e allowance rest) (s2.amendReport e.slot)

/-! ### LOOKUP and LIST -/

/-- The hall time at which a SENT offer will fail (R50). -/
def State.deadlineOf (s : State) (slot : Nat) : Option Nat :=
  match s.offerFor? slot with
  | some o => (match o.stage with
    | .sent n => some (s.hall.time + n)
    | .waiting => none)
  | none => none

/-- LOOKUP's report (R15). -/
def State.lookupReport (s : State) (e : Entry) : LookupReport :=
  { number := e.number, sitting := e.sitting, needs := e.needs, allowance := e.allowance,
    restAllowance := e.restAllowance, seat := e.seat, offer := e.offer, offerDeadline := s.deadlineOf e.slot,
    presence := e.presence, clock := e.clock, resting := e.resting, displaced := e.displacedCause,
    budget := e.budget, used := e.used, remaining := e.remaining, adjustSum := e.adjustSum, restUsed := e.restUsed,
    warned1 := e.warned1, warned2 := e.warned2, tag := e.tag, custody := e.custody, tray := e.tray,
    hasMark := e.mark.isSome }

/-- A roster entry named by number or by tag: BAD_PARAM, NOT_FOUND, or the entry (R15, R191). -/
def State.named (s : State) (name : EntryName) (body : Entry → State) : State :=
  match name with
  | .number n => s.withCandidate n body
  | .tag t =>
    if badTag t then s.refuse .badParam
    else match s.byTag? t with
      | none => s.refuse .notFound
      | some e => body e

/-- LOOKUP (R15). -/
def execLookup (name : EntryName) (s : State) : Result :=
  .next <| s.atPort .lookup fun s => s.named name fun e => s.finishTask .ok false (.lookup (s.lookupReport e))

def meetsPresence (p : PresenceFilter) (e : Entry) : Bool :=
  match p with
  | .any => true
  | .only x => decide (e.presence = x)
  | .other => false

/-- The entries a LIST runs over, in ascending candidate number (R16). -/
def State.listed (s : State) (filter : Nat) (presence : PresenceFilter) (start : Nat) : List Entry :=
  s.roster.entries.filter fun e =>
    decide (start ≤ e.number) && (decide (filter = 255) || decide (e.sitting = filter)) && meetsPresence presence e

def listLine (e : Entry) : ListLine :=
  { number := e.number, sitting := e.sitting, seat := e.seat, presence := e.presence, clock := e.clock,
    custody := e.custody, remaining := e.remaining }

/-- LIST (R16). -/
def execList (filter : Nat) (presence : PresenceFilter) (start : Nat) (s : State) : Result :=
  .next <| s.atPort .list fun s =>
    if (badSitting filter && decide (filter ≠ 255)) || decide (presence = .other) || decide (Config.lastNumber < start)
    then s.refuse .badParam
    else
      let l := s.listed filter presence start
      s.finishTask .ok false (.list ((l.take 8).map listLine) (decide (8 < l.length)))

end Sys2Proof.Machine
end

