-- ==== Sys2Proof/Machine/KeyTasks.lean ====
section
/-!
DEFINITION. The commands of answer keys (R162–R165, R171, R172), of the decoder's settings (R152, R154), of reader
batches (R179, R187), and the visit of the rescore walk (R174).
-/

namespace Sys2Proof.Machine

/-! ### LOAD_KEY and LOCK_KEY -/

/-- The key with a header written (R162): entries above the new Q are discarded. -/
def withHeader (k : Key) (q : Nat) (p : Penalty) (m : MultiplePolicy) (f : FloorPolicy) (r : ReadPolicy) : Key :=
  { k with state := .loading, q := q, penalty := p, multiple := m, floor := f, read := r,
           questions := k.questions.filter fun x => decide (x.1 ≤ q) }

/-- An entry of a question chunk fails its checks, for question number `i` (R163). -/
def badQuestion (q i : Nat) (p : QuestionParams) : Bool :=
  decide (i = 0) || decide (q < i) || decide (p.options < 2) || decide (5 < p.options)
    || decide (p.accepted = {}) || choicesBeyond p.accepted p.options

/-- The question entry a chunk writes (R163). -/
def loadedQuestion (p : QuestionParams) : Question :=
  { loaded := true, options := p.options, accepted := p.accepted, weight := clampNat 1 40 p.weight, void := p.void }

/-- The entries of a question chunk are taken in order from question `i` (R163). -/
def loadQuestions (k : Key) (i : Nat) : List QuestionParams → Key × List ResultCode
  | [] => (k, [])
  | p :: rest =>
    if badQuestion k.q i p then
      let (k1, cs) := loadQuestions k (i + 1) rest
      (k1, .badParam :: cs)
    else
      let (k1, cs) := loadQuestions { k with questions := Table.write {} k.questions i (loadedQuestion p) } (i + 1) rest
      (k1, .ok :: cs)

/-- Whether an entry's weight is clamped (R163). -/
def weightClamps (p : QuestionParams) : Bool := decide (clampNat 1 40 p.weight ≠ p.weight)

/-- A header chunk (R162). -/
def State.loadHeader (s : State) (k q : Nat) (penalty : Option Penalty) (multiple : Option MultiplePolicy)
    (floor : Option FloorPolicy) (read : Option ReadPolicy) : State :=
  match penalty, multiple, floor, read with
  | some p, some m, some f, some r =>
    if q = 0 || decide (Config.lastQuestion < q) then s.refuse .badParam
    else
      let key := withHeader (s.key k) q p m f r
      (s.setKey k key).finishTask .ok false (.keyHeader key.state key.q key.loadedCount)
  | _, _, _, _ => s.refuse .badParam

/-- A question chunk (R163). Its count of entries is tested after LOCKED and WRONG_STATE (DESIGN CHOICE: R163 does not
place the test among those of R162; notes, assumption 57). -/
def State.loadChunk (s : State) (k start : Nat) (entries : List QuestionParams) : State :=
  if (s.key k).state = .empty then s.refuse .wrongState
  else if entries.isEmpty || decide (20 < entries.length) then s.refuse .badParam
  else
    let (key, codes) := loadQuestions (s.key k) start entries
    (s.setKey k key).finishTask (firstRefusal codes)
      ((entries.zip codes).any fun p => decide (p.2 = .ok) && weightClamps p.1)
      (.keyQuestions (codes.filter (· == .ok)).length codes key.loadedCount)

/-- LOAD_KEY (R162, R163). -/
def execLoadKey (k : Nat) (chunk : Option KeyChunk) (s : State) : Result :=
  .next <| s.atPort .loadKey fun s =>
    match chunk with
    | none => s.refuse .badParam
    | some c =>
      if badSitting k then s.refuse .badParam
      else if (s.key k).state = .locked then s.refuse .locked
      else match c with
        | .header q p m f r => s.loadHeader k q p m f r
        | .questions start entries => s.loadChunk k start entries
        | .clear => (s.setKey k {}).finishTask .ok false (.keyState .empty)

/-- The key as LOCK_KEY leaves it (R164). -/
def lockedKey (k : Key) : Key :=
  { k with state := .locked, revision := 0, amendments := [], base := k.questions }

/-- The count of void questions (R164). -/
def Key.voidCount (k : Key) : Nat := (k.numbers.filter fun i => (k.question i).void).length

/-- LOCK_KEY (R164). -/
def execLockKey (k : Nat) (s : State) : Result :=
  .next <| s.atPort .lockKey fun s =>
    if badSitting k then s.refuse .badParam
    else match (s.key k).state with
      | .empty => s.refuse .wrongState
      | .locked => s.refuse .locked
      | .loading =>
        match (s.key k).firstUnloaded with
        | some i => s.finishTask .badParam false (.notLoaded i)
        | none =>
          let x := lockedKey (s.key k)
          (s.setKey k x).finishTask .ok false
            (.keyLocked x.q x.penalty x.multiple x.floor x.read x.voidCount x.maximum)

/-! ### AMEND_KEY and READ_KEY -/

/-- The question number, or the option of an alternative, is out of range (R171). -/
def amendOutOfRange (k : Key) (question : Nat) (kind : AmendKind) : Bool :=
  decide (question = 0) || decide (k.q < question) || (match kind with
    | .void => false
    | .addAlternative o => decide ((k.question question).options ≤ choiceIndex o))

/-- An alternative already accepted (R171). -/
def alreadyAccepted (x : Question) : AmendKind → Bool
  | .void => false
  | .addAlternative o => hasChoice x.accepted o

/-- The key with an amendment taken (R172, steps 1 to 3). -/
def amended (k : Key) (question : Nat) (kind : AmendKind) : Key :=
  { k with revision := k.revision + 1,
           amendments := k.amendments ++ [{ revision := k.revision + 1, question := question, kind := kind }],
           questions := amendQuestion k.questions question kind }

/-- AMEND_KEY (R171, R172). -/
def execAmendKey (k question : Nat) (kind : Option AmendKind) (s : State) : Result :=
  .next <| s.atPort .amendKey fun s =>
    match kind with
    | none => s.refuse .badParam
    | some kind =>
      let key := s.key k
      if badSitting k then s.refuse .badParam
      else if key.state ≠ .locked then s.refuse .wrongState
      else if (s.sitting k).phase = .released then s.refuse .wrongPhase
      else if amendOutOfRange key question kind then s.refuse .badParam
      else if Config.lastRevision ≤ key.revision then s.refuse .full
      else if (key.question question).void then s.refuse .wrongState
      else if alreadyAccepted (key.question question) kind then s.refuse .duplicate
      else
        let key := amended key question kind
        ((s.setKey k key).queueWalk k).finishTask .started false
          (.keyAmended key.revision question (key.question question).accepted (key.question question).void key.maximum)

/-- READ_KEY's start number is out of range (R165). -/
def badStart (start : Nat) : KeyPart → Bool
  | .headerAndQuestions => decide (start = 0) || decide (120 < start)
  | .amendments => decide (start = 0) || decide (31 < start)

/-- A paper of the sitting is being sat (R165). -/
def beingSat : Phase → Bool
  | .opened | .reading | .writing | .overtime => true
  | _ => false

def questionLine (k : Key) (i : Nat) : QuestionLine :=
  let x := k.question i
  { question := i, loaded := x.loaded, options := x.options, accepted := x.accepted, weight := x.weight, void := x.void,
    amended := k.amendments.any fun a => a.question == i }

/-- READ_KEY's report of the header and questions (R165). -/
def keyReport (k : Key) (start : Nat) : KeyReport :=
  let l := k.numbers.filter fun i => decide (start ≤ i)
  { state := k.state, q := k.q, penalty := k.penalty, multiple := k.multiple, floor := k.floor, read := k.read,
    revision := k.revision, questions := (l.take 20).map (questionLine k), more := decide (20 < l.length) }

/-- READ_KEY's report of the amendments; a key in EMPTY reports its state here too (R165, DEDUCED: the sentence names
no part; notes, assumption 58). -/
def amendmentReport (k : Key) (start : Nat) : Report :=
  let l := k.amendments.filter fun a => decide (start ≤ a.revision)
  .amendments (if k.state = .empty then some .empty else none) (l.take 20) (decide (20 < l.length))

/-- READ_KEY (R165). -/
def execReadKey (k : Nat) (part : Option KeyPart) (start : Nat) (s : State) : Result :=
  .next <| s.atPort .readKey fun s =>
    match part with
    | none => s.refuse .badParam
    | some part =>
      if badSitting k || badStart start part then s.refuse .badParam
      else if beingSat (s.sitting k).phase then s.refuse .wrongPhase
      else match part with
        | .headerAndQuestions => s.finishTask .ok false (.key (keyReport (s.key k) start))
        | .amendments => s.finishTask .ok false (amendmentReport (s.key k) start)

/-! ### The decoder's settings -/

/-- The channel as SET_CALIBRATION writes it (R152). -/
def newChannel (gain shift : Nat) (offset : Int) : Channel :=
  { gain := gain, shift := clampNat 0 7 shift, offset := clampInt (-512) 511 offset }

/-- The set with a channel written, or all five (R152). -/
def withChannel (c : CalSet) (x : Channel) : Nat → CalSet
  | 0 => { c with a := x }
  | 1 => { c with b := x }
  | 2 => { c with c := x }
  | 3 => { c with d := x }
  | 4 => { c with e := x }
  | _ => { a := x, b := x, c := x, d := x, e := x }

/-- SET_CALIBRATION (R152). -/
def execSetCalibration (selector : Nat) (gain : BitVec 16) (shift : Nat) (offset : Int) (s : State) : Result :=
  .next <| s.atPort .setCalibration fun s =>
    let c := s.settings.working.calibration
    if selector = 254 then s.finishTask .ok false (.calibration c)
    else if 4 < selector && decide (selector ≠ 255) then s.refuse .badParam
    else
      let x := newChannel gain.toNat shift offset
      let c1 := withChannel c x selector
      (s.setSettings { s.settings.working with calibration := c1 }).finishTask .ok
        (decide (x.shift ≠ shift) || decide (x.offset ≠ offset)) (.calibration c1)

/-- The thresholds as SET_THRESHOLDS writes them (R154). -/
def newThresholds (high low margin : Nat) : Thresholds :=
  { high := clampNat 1 1023 high, low := clampNat 0 (clampNat 1 1023 high - 1) low, margin := clampNat 1 1023 margin }

/-- SET_THRESHOLDS (R154). -/
def execSetThresholds (high low margin : Nat) (s : State) : Result :=
  .next <| s.atPort .setThresholds fun s =>
    let t := newThresholds high low margin
    (s.setSettings { s.settings.working with thresholds := t }).finishTask .ok
      (decide (t.high ≠ high) || decide (t.low ≠ low) || decide (t.margin ≠ margin)) (.thresholds t)

/-! ### Batches -/

/-- The key of the tray's sitting (R179). -/
def State.trayKey (s : State) (u : Nat) : Key :=
  match (s.tray u).sitting with
  | some k => s.key k
  | none => {}

/-- The batch record as BEGIN_BATCH opens it (R179). -/
def State.openedBatch (s : State) (u : Nat) : Batch :=
  { state := .open, tray := u, reads := List.replicate (s.tray u).tags.length 0 }

/-- BEGIN_BATCH (R179). -/
def execBeginBatch (u : Nat) (s : State) : Result :=
  .next <| s.atPort .beginBatch fun s =>
    if Config.trays ≤ u then s.refuse .badParam
    else if s.scoring.batch.isOpen then s.refuse .busy
    else if (s.tray u).state = .empty || decide ((s.tray u).state = .reading) then s.refuse .wrongState
    else if (s.trayKey u).state ≠ .locked then s.refuse .wrongState
    else
      let s1 := (s.setBatch (s.openedBatch u)).setTray u { s.tray u with state := .reading }
      (s1.showTray u).finishTask .ok false
        (.batchOpen u (s.tray u).sitting (s.tray u).tags.length (s.trayKey u).q (s.trayKey u).revision)

/-- The sheets in decode: the buffers WAITING or DECODING (R187). -/
def State.inDecode (s : State) : List Nat :=
  (List.range 2).filter fun i =>
    decide ((s.buffer i).state = .waiting) || decide ((s.buffer i).state = .decoding)

/-- END_BATCH (R187): it completes at once where no sheet is owed, and stays RUNNING otherwise. -/
def execEndBatch (s : State) : Result :=
  .next <| s.atPort .endBatch fun s =>
    if s.scoring.batch.state ≠ .open then s.refuse .wrongState
    else
      let s1 := s.setBatch { s.scoring.batch with state := .closing, owed := s.inDecode }
      if s.inDecode = [] then s1.closeBatch else s1

/-! ### The rescore walk -/

/-- WALK_VISIT (R174). -/
def execWalkVisit (s : State) : Result := .next (s.whileOn State.walkStep)

end Sys2Proof.Machine
end

