-- ==== Sys2Proof/Machine/PlacementTasks.lean ====
section
/-!
DEFINITION. The commands of the placement unit, ALLOCATE, ABORT_ALLOCATION and MOVE (R44, R48, R59, R60), its own
step (R45), and RESTART_LINE (R142).
-/

namespace Sys2Proof.Machine

/-! ### Runs -/

/-- The run record at ALLOCATE (R44). -/
def State.freshRun (s : State) (k : Nat) : Run :=
  { sitting := k, list := s.slotsOf k (awaitsPlacement k), position := 0, retry := [], skip := [], placed := 0,
    unplaced := 0, passed := 0 }

/-- The run of sitting `k` starts (R44). Its sitting's counts of the last run are 0 until it ends (DESIGN CHOICE: R38
keeps them until the next ALLOCATE, and R82 does not say what stands while a run is RUNNING; notes, assumption 43). -/
def State.startRun (s : State) (k : Nat) : State :=
  (s.setRun (some (s.freshRun k))).modSitting k fun r =>
    { r with alloc := .running, runPlaced := 0, runUnplaced := 0, runPassed := 0 }

/-- ALLOCATE (R44); a run of no candidates ends at once (R47). -/
def execAllocate (k : Nat) (s : State) : Result :=
  .next <| s.atPort .allocate fun s =>
    if badSitting k then s.refuse .badParam
    else if !admitsEnrolment (s.sitting k).phase then s.refuse .wrongPhase
    else if s.placement.run.isSome then s.refuse .busy
    else ((s.startRun k).checkRun).finishTask .started false (.runStarted k (s.freshRun k).list.length)

/-- The outstanding offers of purpose RUN. -/
def State.runOffers (s : State) : List Offer := s.placement.offers.filter fun o => decide (o.purpose = .run)

/-- The candidates a run has not yet served: its list from the position onward, with the retry list (R48). -/
def unserved (r : Run) : Nat := (r.list.length - r.position) + r.retry.length

/-- ABORT_ALLOCATION (R48). -/
def execAbortAllocation (k : Nat) (s : State) : Result :=
  .next <| s.atPort .abortAllocation fun s =>
    if badSitting k then s.refuse .badParam
    else if (s.sitting k).alloc ≠ .running then s.refuse .wrongState
    else match s.placement.run with
      | none => s.refuse .wrongState
      | some r =>
        let s1 := s.runOffers.foldl State.cancelOffer s
        let s2 := match s1.placement.run with
          | some r1 => s1.closeRun r1 .aborted
          | none => s1
        s2.finishTask .ok false (.runAborted k r.placed r.unplaced (unserved r) s.runOffers.length)

/-! ### MOVE -/

/-- The candidate has an offer, or stands in the reseat queue or a retry list (R59). -/
def State.placementBusy (s : State) (e : Entry) : Bool :=
  e.offer.isSome || (s.placement.reseats.any fun r => r.slot == e.slot)
    || (match s.placement.run with
      | some r => r.retry.contains e.slot
      | none => false)

/-- The refusal of a MOVE by the tests that follow its BUSY test (R59). -/
def State.moveRefusal (s : State) (e : Entry) : MoveTarget → Option ResultCode
  | .seat d =>
    if !s.suits e d then some .conflict
    else if Config.offers ≤ s.placement.offers.length then some .full
    else none
  | .anySeat => if Config.reseats ≤ s.placement.reseats.length then some .full else none

def badTarget : MoveTarget → Bool
  | .seat d => decide (Config.seats ≤ d)
  | .anySeat => false

/-- The seat a MOVE releases is released and a PRESENT candidate is displaced (R60, steps 1 and 2). -/
def State.leaveSeat (s : State) (e : Entry) : State :=
  let s1 := match e.seat with
    | some d => s.requestRelease d
    | none => s
  if e.presence = .present then s1.displace e.slot else s1

/-- A MOVE that passes its tests (R60); a seat made usable brings back the stranded candidates after it (R58). -/
def State.carryMove (s : State) (e : Entry) (target : MoveTarget) : State :=
  let s1 := s.leaveSeat e
  let s2 := match target with
    | .seat d => s1.makeOffer e.slot d .move e.seat
    | .anySeat => s1.appendReseat { slot := e.slot, former := none, excluded := e.seat }
  (match e.seat with
    | some d => s2.retryStranded d
    | none => s2).checkRun

/-- MOVE (R59, R60). -/
def execMove (number : Nat) (target : MoveTarget) (s : State) : Result :=
  .next <| s.atPort .move fun s =>
    if badTarget target then s.refuse .badParam
    else s.withCandidate number fun e =>
      if e.presence ≠ .expected ∧ e.presence ≠ .present then s.refuse .wrongState
      else if s.placementBusy e then s.refuse .busy
      else match s.moveRefusal e target with
        | some code => s.refuse code
        | none => (s.carryMove e target).finishTask .started false (.moved number target e.seat)

/-! ### RESTART_LINE -/

/-- The offers on seats of a zone, in ascending seat number (R54). -/
def State.zoneOffers (s : State) (z : Nat) : List Nat :=
  (s.placement.offers.filter fun o => decide (zoneOf o.seat = z)).foldl (fun l o => insertAscending o.seat l) []

/-- The offer on a seat fails by line restart (R53, R54). -/
def State.failRestart (s : State) (d : Nat) : State :=
  match s.offerOn? d with
  | some o => s.failOffer o true
  | none => s

/-- The phases whose PHASE a line restart queues again: OPEN through COLLECTING (R79). -/
def toldAtRestart : Phase → Bool
  | .opened | .reading | .writing | .overtime | .collecting => true
  | _ => false

/-- Sitting Control's PHASE messages at a line restart, in ascending sitting index (R79). -/
def State.retellPhases (s : State) (z : Nat) : State :=
  (List.range Config.sittings).foldl
    (fun s k =>
      if toldAtRestart (s.sitting k).phase && hasZone (s.sitting k).defn.zones z then
        s.hand z Config.allUnits true (.phase (s.phaseMsg k))
      else s) s

/-- A link record after a line restart (R143). -/
def restartLink (l : LinkRecord) : LinkRecord := { l with misses := 0, goods := 0, lastTaken := none }

/-- Steps 4 and 5 of R142. -/
def restartLine (l : Line) : Line :=
  { l with links := Table.mapRecords {} restartLink l.links, slotCount := 0, ringPointer := 247, probePointer := 0 }

/-- The frame is abandoned, the window closed, and the queue emptied (R142, steps 1 and 2). -/
def State.clearLine (s : State) (z : Nat) : State := (s.giveUp z).setQueue z []

/-- RESTART_LINE (R142). -/
def execRestartLine (z : Nat) (s : State) : Result :=
  .next <| s.atPort .restartLine fun s =>
    if Config.zones ≤ z then s.refuse .badParam
    else
      let s1 := (((s.zoneOffers z).foldl State.failRestart (s.clearLine z))).retellPhases z
      (s1.setLine z (restartLine (s1.line z))).finishTask .ok false
        (.lineRestarted z (s.line z).queue.length (s.zoneOffers z).length)

/-! ### The unit's own step -/

/-- PLACEMENT_STEP (R45). -/
def execPlacementStep (s : State) : Result := .next (s.whileOn State.placementStep)

end Sys2Proof.Machine
end

