-- ==== Sys2Proof/Machine/Flags.lean ====
section
/-!
DEFINITION. What the part shows at its pins and in its readable areas, computed from the records: attention, READY,
the hall signal outputs, the status word (R197, R206), and a read of an area (R194).
-/

namespace Sys2Proof.Machine

def State.isOn (s : State) : Bool := decide (s.power.power = .on)

def State.isStarting (s : State) : Bool := decide (s.power.power = .starting)

/-- The attention output is asserted while any kind is pending, and deasserted through start-up (R198, R203). -/
def State.attention (s : State) : Bool := s.isOn && !s.pendingNotices.isEmpty

/-- READY is asserted while a sheet buffer is FREE, and deasserted through start-up (R146, R159). -/
def State.ready (s : State) : Bool := s.isOn && (List.range 2).any fun i => (s.buffer i).state == .free

/-- The level a condition gives to an output (R80). -/
def State.condLevel (s : State) (o : Nat) : SignalCond → Bool
  | .none => false
  | .steady => true
  | .reading k => decide ((s.sitting k).phase = .reading)
  | .writing k =>
    (decide ((s.sitting k).phase = .writing) || decide ((s.sitting k).phase = .overtime)) && !isHeld (s.sitting k).holds
  | .held k => isHeld (s.sitting k).holds
  | .anyHeld => (List.range Config.sittings).any fun k => isHeld (s.sitting k).holds
  | .bell _ => decide (0 < s.bell o)
  | .alarmEcho => s.hall.alarm

/-- The level of a hall signal output; low through start-up (R80, R83), and low while the main supply is absent
(DESIGN CHOICE: R203 has the part's outputs not driven then, and R80 gives no level; notes, assumption 64). -/
def State.signalLevel (s : State) (o : Nat) : Bool := s.isOn && s.condLevel o (signalOf s.settings.working.signals o)

/-! ### The status word (R197, R206) -/

def bit (b : Bool) (i : Nat) : Nat := if b then 2 ^ i else 0

/-- Octet `i` of a value sent low octet first. -/
def octetAt (v i : Nat) : Octet := BitVec.ofNat 8 (v / 256 ^ i)

def levelCode : Level → Nat
  | .none => 0
  | .invigilator => 1
  | .examiner => 2

def causeCode : StartCause → Nat
  | .cold => 0
  | .resetn => 1
  | .reboot => 2
  | .supply => 3

def grantsOctet (g : Grants) : Nat :=
  bit g.roster 0 + bit g.seats 1 + bit g.placement 2 + bit g.sittingControl 3 + bit g.time 4 + bit g.review 5

/-- The grant set a code of six bits names, in the order of R206; none where it names another group (R201). -/
def grantsOf (o : Octet) : Option Grants :=
  if o.toNat < 64 then
    some { roster := o.getLsbD 0, seats := o.getLsbD 1, placement := o.getLsbD 2, sittingControl := o.getLsbD 3,
           time := o.getLsbD 4, review := o.getLsbD 5 }
  else none

/-- Octet `i` of the status word (R206). -/
def State.statusOctet (s : State) (i : Nat) : Octet :=
  match i with
  | 0 => BitVec.ofNat 8
      (bit s.port.running.isSome 0 + bit s.port.ignoredWrite 1 + bit s.attention 2 + bit s.isStarting 3
        + bit (decide (0 < s.port.lockout)) 4 + bit s.hall.timeSet 5 + bit s.hall.alarm 6
        + bit (decide (s.scoring.batch.state ≠ .none)) 7)
  | 1 => BitVec.ofNat 8 (s.port.running.getD 0)
  | 2 => BitVec.ofNat 8 (levelCode s.port.level)
  | 3 => BitVec.ofNat 8 (causeCode s.power.cause)
  | 4 => BitVec.ofNat 8 s.pendingNotices.length
  | 5 => BitVec.ofNat 8 s.port.lockout
  | 6 => BitVec.ofNat 8 s.port.wrongEntries
  | 7 => BitVec.ofNat 8 (grantsOctet s.settings.working.grants)
  | 8 => octetAt s.hall.time 0
  | 9 => octetAt s.hall.time 1
  | 10 => octetAt s.hall.time 2
  | 11 => octetAt s.hall.time 3
  | _ => 0

/-! ### The result block (R196, R198, R206) -/

def resultCodeOf : ResultCode → Nat
  | .ok => 0x00
  | .started => 0x01
  | .denied => 0x02
  | .badParam => 0x03
  | .notFound => 0x04
  | .wrongPhase => 0x05
  | .wrongState => 0x06
  | .busy => 0x07
  | .full => 0x08
  | .duplicate => 0x09
  | .conflict => 0x0A
  | .locked => 0x0B
  | .alarmActive => 0x0C
  | .storeFault => 0x0D
  | .pending => 0x0E
  | .unknownTask => 0x0F

/-- The subject of a notice as its 32-bit value (R206). -/
def subjectWord : Subject → Nat
  | .none => 0
  | .seat d => 1 * 2 ^ 28 + d
  | .tray u => 2 * 2 ^ 28 + u
  | .candidate n => 3 * 2 ^ 28 + n
  | .sitting k => 4 * 2 ^ 28 + k
  | .cause c => 5 * 2 ^ 28 + causeCode c

/-- The six octets of a notice entry of READ_NOTICES (R206). -/
def noticeOctets (k : NoticeKind) (n : Notice) : List Octet :=
  [BitVec.ofNat 8 (noticeCode k), BitVec.ofNat 8 n.count] ++ (List.range 4).map (octetAt (subjectWord n.subject))

/-- Octet `i` of the result block: the code, the flags, and from the third octet what the task's rule lists. Of the
latter the spec lays out READ_NOTICES' entries; the rest is a free value (Config). The number of pending kinds before
the entries takes one octet, the third (DESIGN CHOICE: R198 gives it no width; notes, assumption 68). -/
def resultOctet (r : ResultBlock) (i : Nat) : Octet :=
  match i with
  | 0 => BitVec.ofNat 8 (resultCodeOf r.code)
  | 1 => BitVec.ofNat 8 (bit r.clamped 0)
  | j + 2 =>
    match r.report with
    | .nothing => 0
    | .notices entries =>
      ((BitVec.ofNat 8 entries.length :: (entries.map fun p => noticeOctets p.1 p.2).flatten).getD j 0)
    | x => Config.layoutOctet x j

/-! ### A read of an area (R194, R195, R203) -/

/-- The octet a read of an area gives; none while the port is unpowered (R203). -/
def State.readOctet (s : State) (area : Area) (offset : Nat) : Option Octet :=
  match s.power.power with
  | .off | .standby => none
  | .starting => some (if area = .status then s.statusOctet offset else 0)
  | .on =>
    some (match area with
      | .task => if offset = 0 then BitVec.ofNat 8 (s.port.running.getD 0) else 0
      | .param => s.port.param.getD offset 0
      | .result =>
        if offset < Config.areaOctets && s.port.running.isNone then resultOctet s.port.result offset else 0
      | .status => s.statusOctet offset)

end Sys2Proof.Machine
end

