-- ==== Sys2Proof/Machine/Starts.lean ====
section
/-!
DEFINITION. The starts of the part and its supplies (R203): loading the settings (R202), the values each block takes
at a cold and at a warm start (R19, R37, R61, R83, R104, R121, R143, R159, R177, R193), and the completion of
start-up.
-/

namespace Sys2Proof.Machine

/-- The image is checked and loaded, or the factory values are taken (R202). A write cut short by the start has left
the image with a bad check value. -/
def loaded (x : SettingsStore) : SettingsStore :=
  let good := x.imageGood && x.writing.isNone
  { working := if good then x.image else {}, image := x.image, imageGood := good, writing := none }

/-- Whether the image fails its check at a start. -/
def settingsFail (x : SettingsStore) : Bool := !(x.imageGood && x.writing.isNone)

/-! ### The alarm input at a start (R77) -/

/-- The sittings that take ALARM at an assertion: OPEN through OVERTIME, lacking it. -/
def State.takesAlarm (s : State) (k : Nat) : Bool :=
  holdPhase (s.sitting k).phase && !(s.sitting k).holds.alarm

/-- The subject of an ALARM notice: the lowest index of the sittings that take ALARM, or none. -/
def State.alarmSubject (s : State) : Subject :=
  match (List.range Config.sittings).find? s.takesAlarm with
  | some k => .sitting k
  | none => .none

/-- Changes every sitting in OPEN through OVERTIME without telling it (R77, R83). -/
def State.holdQuietly (s : State) (f : Holds → Holds) : State :=
  { s with control := { s.control with
      sittings := Table.mapRecords {} (fun r : Sitting => if holdPhase r.phase then { r with holds := f r.holds } else r)
        s.control.sittings } }

/-- An input asserted at the start, or during start-up, counts as an assertion whose notice start-up raises (R77). -/
def State.findAlarm (s : State) : State :=
  ({ s with power := { s.power with alarmFound := some (s.power.alarmFound.getD s.alarmSubject) } } : State).holdQuietly
    fun h => { h with alarm := true }

/-! ### Cold start -/

/-- Every record at its cold start value, with start-up under way and the start cause recorded (DESIGN CHOICE: R203
lists the cause among what stands when start-up completes; notes, assumption 69). -/
def State.coldStart (s : State) : State :=
  let s1 : State :=
    { power := { power := .starting, standby := s.power.standby, cause := .cold,
                 settingsLost := settingsFail s.settings },
      hall := { alarm := s.hall.alarm }, settings := loaded s.settings, pending := s.pending }
  if s.hall.alarm then s1.findAlarm else s1

/-! ### Warm start -/

/-- A seat after a warm start (R37). -/
def warmSeat (x : Seat) : Seat :=
  { x with
    link := if x.link = .unknown then .unknown else .up
    tenure := match x.tenure with
      | .offered _ => .empty
      | t => t }

/-- A link record after a warm start (R143). -/
def warmLink (l : LinkRecord) : LinkRecord :=
  if l.state = .unknown then {} else { state := .up, joinAwaited := true }

/-- A line after a warm start (R143). -/
def warmLine (l : Line) : Line := { links := Table.mapRecords {} warmLink l.links }

/-- A tray after a warm start (R121). -/
def warmTray (r : Tray) : Tray :=
  match r.state with
  | .reading => if r.tags = [] then {} else { r with state := .done }
  | _ => r

/-- The reseat queue rebuilt: DISPLACED, without a seat, in ascending candidate number, up to 16 (R61). -/
def rebuiltReseats (l : List Entry) : List Reseat :=
  ((l.filter fun e => decide (e.presence = .displaced) && e.seat.isNone).take Config.reseats).map
    fun e => { slot := e.slot, former := none, excluded := none }

/-- The walk queue rebuilt: every LOCKED key with a revision above 0, ascending (R177). -/
def rebuiltWalks (s : State) : List Nat :=
  (List.range Config.sittings).filter fun k => decide ((s.key k).state = .locked) && decide (0 < (s.key k).revision)

/-- An active run is ended, ABORTED, with the counts so far (R61). -/
def State.endRunAtStart (s : State) : State :=
  match s.placement.run with
  | some r => s.closeRun r .aborted
  | none => s

/-- A warm start begins: every record is kept or changed as its chapter states, with start-up under way. Its cause is
recorded as it begins, so the status word shows it through start-up (DESIGN CHOICE: R203 lists the cause among what
stands when start-up completes; notes, assumption 69). -/
def State.warmStart (s : State) (cause : StartCause) : State :=
  let s1 := s.endRunAtStart.holdQuietly fun h => { h with restart := true }
  let s2 : State :=
    { s1 with
      power := { power := .starting, standby := s.power.standby, cause := cause,
                 settingsLost := settingsFail s.settings }
      hall := { s1.hall with owed := [] }
      port := { notices := s1.port.notices }
      settings := loaded s1.settings
      roster := { s1.roster with entries := s1.roster.entries.map fun e => { e with offer := none } }
      seatMap := { s1.seatMap with seats := Table.mapRecords {} warmSeat s1.seatMap.seats }
      placement := { reseats := rebuiltReseats s1.roster.entries }
      control := { s1.control with bells := [] }
      trays := Table.mapRecords {} warmTray s1.trays
      lines := Table.mapRecords {} warmLine s1.lines
      sheet := {}
      scoring := { s1.scoring with walkQueue := rebuiltWalks s1, walk := none, batch := {} } }
  if s.hall.alarm then s2.findAlarm else s2

/-! ### The completion of start-up -/

/-- The start notices (R203). -/
def State.startNotices (s : State) : State :=
  let s1 := match s.power.cause with
    | .cold => s.raise .coldStart .none
    | c => s.raise .warmStart (.cause c)
  let s2 := if s.power.settingsLost then s1.raise .settingsLost .none else s1
  match s.power.alarmFound with
  | some x => s2.raise .alarm x
  | none => s2

/-- Start-up completes: the notice set is emptied and takes the start notices, and the head of a rebuilt walk queue
becomes the walked sitting (R173, R203). -/
def State.completeStart (s : State) : State :=
  let s1 := (({ s with port := { s.port with notices := [] } } : State).startNotices).startWalk
  { s1 with power := { power := .on, standby := s.power.standby, cause := s.power.cause } }

end Sys2Proof.Machine
end

