-- ==== Sys2Proof/Machine/PortTasks.lean ====
section
/-!
DEFINITION. The commands of the task port, AREA_WRITE apart: access, notices, the settings store, line limits and
signal outputs.
-/

namespace Sys2Proof.Machine

/-- The working passcode of a level. -/
def passcodeOf (w : Settings) : PassLevel → Option (BitVec 32)
  | .invigilator => w.invigilatorPasscode
  | .examiner => w.examinerPasscode

def withPasscode (w : Settings) (v : Option (BitVec 32)) : PassLevel → Settings
  | .invigilator => { w with invigilatorPasscode := v }
  | .examiner => { w with examinerPasscode := v }

def levelOf : PassLevel → Level
  | .invigilator => .invigilator
  | .examiner => .examiner

/-- Whether a passcode opens a level: the level's passcode is unset or equals it (R200). -/
def passes (w : Settings) (l : PassLevel) (passcode : BitVec 32) : Bool :=
  match passcodeOf w l with
  | none => true
  | some p => decide (p = passcode)

/-- A wrong entry is counted; the third begins the lockout (R200). -/
def State.wrongEntry (s : State) : State :=
  if s.port.wrongEntries + 1 < 3 then { s with port := { s.port with wrongEntries := s.port.wrongEntries + 1 } }
  else { s with port := { s.port with wrongEntries := 0, lockout := Config.lockoutSeconds } }

/-- ENTER_LEVEL (R200). -/
def execEnterLevel (level : Option PassLevel) (passcode : BitVec 32) (s : State) : Result :=
  .next <| s.atPort .enterLevel fun s =>
    match level with
    | none => s.refuse .badParam
    | some l =>
      if 0 < s.port.lockout then s.refuse .denied
      else if passes s.settings.working l passcode then
        ({ s with port := { s.port with level := levelOf l, wrongEntries := 0 } } : State).finishTask .ok false .nothing
      else s.wrongEntry.refuse .denied

/-- LEAVE_LEVEL (R200). -/
def execLeaveLevel (s : State) : Result :=
  .next <| s.atPort .leaveLevel fun s =>
    ({ s with port := { s.port with level := .none } } : State).finishTask .ok false .nothing

/-- SET_PASSCODE (R201); a value of none unsets the passcode. -/
def execSetPasscode (level : Option PassLevel) (value : Option (BitVec 32)) (s : State) : Result :=
  .next <| s.atPort .setPasscode fun s =>
    match level with
    | none => s.refuse .badParam
    | some l => (s.setSettings (withPasscode s.settings.working value l)).finishTask .ok false (.passcode l value.isSome)

/-- SET_GRANTS (R201). -/
def execSetGrants (groups : Octet) (s : State) : Result :=
  .next <| s.atPort .setGrants fun s =>
    match grantsOf groups with
    | none => s.refuse .badParam
    | some g => (s.setSettings { s.settings.working with grants := g }).finishTask .ok false (.grants g)

/-- READ_NOTICES (R198). -/
def execReadNotices (s : State) : Result :=
  .next <| s.atPort .readNotices fun s =>
    ({ s with port := { s.port with notices := [] } } : State).finishTask .ok false (.notices s.pendingNotices)

/-- SAVE_SETTINGS: the write begins, and the task stays RUNNING (R202). -/
def execSaveSettings (s : State) : Result :=
  .next <| s.atPort .saveSettings fun s =>
    { s with settings := { s.settings with writing := some s.settings.working } }

/-- SETTINGS_WRITE_END: the write ends, correct or not (R202). -/
def execSettingsWriteEnd (correct : Bool) (s : State) : Result :=
  .next <| s.whileOn fun s =>
    match s.settings.writing with
    | none => s
    | some w =>
      if correct then
        ({ s with settings := { s.settings with image := w, imageGood := true, writing := none } } : State).finishTask
          .ok false .nothing
      else
        ({ s with settings := { s.settings with imageGood := false, writing := none } } : State).finishTask
          .storeFault false .nothing

/-- REBOOT: a warm start begins, and no result is written (R203). -/
def execReboot (s : State) : Result :=
  .next <| s.atPort .reboot fun s => s.warmStart .reboot

/-- SET_LINE_LIMITS (R141). -/
def execSetLineLimits (loss regain : Nat) (s : State) : Result :=
  .next <| s.atPort .setLineLimits fun s =>
    let l := clampNat 2 15 loss
    let g := clampNat 1 31 regain
    (s.setSettings { s.settings.working with lossLimit := l, regainLimit := g }).finishTask .ok
      (decide (l ≠ loss) || decide (g ≠ regain)) (.limits l g)

/-- Whether a condition names a sitting index above 15 (R80). -/
def badCond : SignalCond → Bool
  | .reading k | .writing k | .held k | .bell k => badSitting k
  | _ => false

def withSignal (g : Signals) (c : SignalCond) : Nat → Signals
  | 0 => { g with out0 := c }
  | 1 => { g with out1 := c }
  | 2 => { g with out2 := c }
  | _ => { g with out3 := c }

/-- SET_SIGNAL (R80). An output newly assigned BELL(k) is low, and rings at the next phase change of k (DESIGN CHOICE:
R80 does not say what it holds within three hall seconds of the last one; notes, assumption 42). -/
def execSetSignal (output : Nat) (cond : Option SignalCond) (s : State) : Result :=
  .next <| s.atPort .setSignal fun s =>
    match cond with
    | none => s.refuse .badParam
    | some c =>
      if 4 ≤ output || badCond c then s.refuse .badParam
      else
        let w := s.settings.working
        let s1 := (s.setSettings { w with signals := withSignal w.signals c output }).setBell output 0
        s1.finishTask .ok false (.signal output c (s1.signalLevel output))

end Sys2Proof.Machine
end

