-- ==== Sys2Proof/Machine/ReviewTasks.lean ====
section
/-!
DEFINITION. The commands of review and release: READ_MARK, RESOLVE_QUERY, RESOLVE_DISPUTE, MANUAL_MARK and
RELEASE_RESULTS (R188–R192).
-/

namespace Sys2Proof.Machine

/-! ### READ_MARK -/

/-- READ_MARK's summary (R191). -/
def State.markReport (s : State) (e : Entry) (m : MarkRecord) : MarkReport :=
  { number := e.number, tag := e.tag, custody := e.custody, tray := e.tray, position := (s.placeOf e).map Prod.snd,
    keyRevision := (s.key e.sitting).revision, totals := m.totals, queries := m.queries, disputes := m.disputes,
    many := m.many, hasSecond := m.second.isSome, floored := m.floored, noMaximum := m.noMaximum, manual := m.manual,
    outOfSequence := m.outOfSequence, extraRows := m.extraRows, strayFill := m.strayFill, erasures := m.erasures }

/-- What READ_MARK reports of a part (R191). -/
def State.markPart (s : State) (e : Entry) (m : MarkRecord) : MarkPart → Report
  | .summary => .mark (s.markReport e m)
  | .first => .vector (some m.first)
  | .second => .vector m.second
  | .working => .vector (some m.working)

/-- READ_MARK (R191). -/
def execReadMark (name : EntryName) (part : Option MarkPart) (s : State) : Result :=
  .next <| s.atPort .readMark fun s =>
    match part with
    | none => s.refuse .badParam
    | some part => s.named name fun e =>
      match e.mark with
      | none => s.refuse .wrongState
      | some m => s.finishTask .ok false (s.markPart e m part)

/-! ### RESOLVE_QUERY -/

/-- The first question of the pairs that is not on the query list or has been named before (R188). -/
def firstUnqueried (queries : List Nat) : List Nat → List (Nat × Mark) → Option Nat
  | _, [] => none
  | seen, (q, _) :: rest =>
    if !queries.contains q || seen.contains q then some q else firstUnqueried queries (q :: seen) rest

/-- A response that is DOUBTFUL or an option beyond the question's first n (R188). -/
def badResponse (k : Key) (p : Nat × Mark) : Bool :=
  match p.2 with
  | .doubtful => true
  | .option o => decide ((k.question p.1).options ≤ choiceIndex o)
  | _ => false

/-- A vector with the outcome of question `q` replaced. -/
def withMark (v : List Mark) (q : Nat) (m : Mark) : List Mark := if q = 0 then v else v.set (q - 1) m

/-- The record with the responses given, before it is scored (R188). -/
def answered (m : MarkRecord) (pairs : List (Nat × Mark)) : MarkRecord :=
  { m with working := pairs.foldl (fun v p => withMark v p.1 p.2) m.working
           queries := m.queries.filter fun q => !(pairs.any fun p => p.1 == q) }

/-- The queries given are resolved, and the record is scored (R188). -/
def State.resolveQueries (s : State) (e : Entry) (m : MarkRecord) (pairs : List (Nat × Mark)) : State :=
  let m1 := scored (s.key e.sitting) (answered m pairs)
  if m1.queries = [] then
    (s.modEntry e.slot fun x => { x with custody := .marked, mark := some m1 }).countFinal e.sitting
  else s.modEntry e.slot fun x => { x with mark := some m1 }

/-- RESOLVE_QUERY's report: custody, the questions left, and the totals but for the maximum (R188). -/
def State.queryReport (s : State) (slot : Nat) : Report :=
  match s.entry? slot with
  | some e => .queriesResolved e.custody ((e.mark.map MarkRecord.queries).getD [])
      ((e.mark.bind MarkRecord.totals).map Totals.score)
  | none => .nothing

/-- RESOLVE_DISPUTE's report: custody, the query list, and the revision and totals (R189). -/
def State.reviewReport (s : State) (slot : Nat) : Report :=
  match s.entry? slot with
  | some e => .reviewed e.custody ((e.mark.map MarkRecord.queries).getD []) (e.mark.bind MarkRecord.totals)
  | none => .nothing

/-- RESOLVE_QUERY (R188). -/
def execResolveQuery (number : Nat) (pairs : List (Nat × Mark)) (s : State) : Result :=
  .next <| s.atPort .resolveQuery fun s =>
    if pairs.isEmpty || decide (8 < pairs.length) then s.refuse .badParam
    else s.withCandidate number fun e =>
      match e.mark, e.custody with
      | some m, .provisional =>
        (match firstUnqueried m.queries [] pairs with
          | some q => s.finishTask .badParam false (.badQuestion q)
          | none =>
            match pairs.find? (badResponse (s.key e.sitting)) with
            | some p => s.finishTask .badParam false (.badQuestion p.1)
            | none =>
              let s1 := s.resolveQueries e m pairs
              s1.finishTask .ok false (s1.queryReport e.slot))
      | _, _ => s.refuse .wrongState

/-! ### RESOLVE_DISPUTE and MANUAL_MARK -/

/-- The record with a read chosen, before it is settled (R189). -/
def chosen (m : MarkRecord) (choice : Nat) : MarkRecord :=
  { m with working := if choice = 1 then m.first else m.second.getD [], disputes := [], many := false }

/-- RESOLVE_DISPUTE (R189). -/
def execResolveDispute (number choice : Nat) (s : State) : Result :=
  .next <| s.atPort .resolveDispute fun s =>
    if choice ≠ 1 ∧ choice ≠ 2 then s.refuse .badParam
    else s.withCandidate number fun e =>
      match e.mark, e.custody with
      | some m, .disputed =>
        let s1 := s.settle e (chosen m choice)
        s1.finishTask .ok false (s1.reviewReport e.slot)
      | _, _ => s.refuse .wrongState

/-- The total MANUAL_MARK writes (R190). -/
def manualTotal (k : Key) (total : Int) : Int :=
  match k.floor with
  | .zero => clampInt 0 k.maximum total
  | .none => clampInt (-(k.maximum : Int)) k.maximum total

/-- The record MANUAL_MARK writes (R190). -/
def manualRecord (k : Key) (m : MarkRecord) (total : Int) : MarkRecord :=
  { m with totals := some (k.totalsFor (manualTotal k total)), noMaximum := decide (k.maximum = 0), floored := false,
           manual := true, queries := [], disputes := [], many := false }

/-- MANUAL_MARK (R190). -/
def execManualMark (number : Nat) (total : Int) (s : State) : Result :=
  .next <| s.atPort .manualMark fun s => s.withCandidate number fun e =>
    if e.custody ≠ .manual ∧ e.custody ≠ .disputed then s.refuse .wrongState
    else
      let k := s.key e.sitting
      let s1 := (s.modEntry e.slot fun x => { x with
        custody := .marked, mark := x.mark.map fun m => manualRecord k m total }).countFinal e.sitting
      s1.finishTask .ok (decide (manualTotal k total ≠ total)) (.manualMark (k.totalsFor (manualTotal k total)))

/-! ### RELEASE_RESULTS -/

/-- A settled candidate (R192). -/
def isSettled (e : Entry) : Bool :=
  match e.custody with
  | .marked | .missing | .void => true
  | .none => decide (e.presence = .absent) || decide (e.presence = .finished)
  | _ => false

/-- The pending candidates of a sitting, in ascending candidate number (R192). -/
def State.pendingOf (s : State) (k : Nat) : List Entry := (s.entriesOf k).filter fun e => !isSettled e

/-- A MARKED script of the sitting is RELEASED (R192). -/
def released (k : Nat) (e : Entry) : Entry :=
  if e.sitting = k ∧ e.custody = .marked then { e with custody := .released } else e

/-- The count of the sitting's candidates with a custody. -/
def State.countCustody (s : State) (k : Nat) (c : Custody) : Nat :=
  ((s.entriesOf k).filter fun e => decide (e.custody = c)).length

/-- RELEASE_RESULTS (R192). -/
def execReleaseResults (k : Nat) (s : State) : Result :=
  .next <| s.atPort .releaseResults fun s =>
    if badSitting k then s.refuse .badParam
    else if (s.sitting k).phase ≠ .closed then s.refuse .wrongPhase
    else if s.walkBusy k then s.refuse .busy
    else match s.pendingOf k with
      | e :: rest => s.finishTask .pending false (.pendingResults (rest.length + 1) e.number)
      | [] =>
        let s1 := (s.setEntries (s.roster.entries.map (released k))).changeSitting k fun r =>
          { r with phase := .released }
        s1.finishTask .ok false (.released (s.countCustody k .marked) (s.countCustody k .missing)
          (s.countCustody k .void) (s.countCustody k .none))

end Sys2Proof.Machine
end

