-- ==== Sys2Proof/Machine/ScriptTasks.lean ====
section
/-!
DEFINITION. The commands of the custody tracker: VOID_SCRIPT, TRAY_INFO and CLEAR_TRAY (R115–R120).
-/

namespace Sys2Proof.Machine

/-! ### VOID_SCRIPT -/

/-- The custody states a void does not reach (R115). -/
def voidRefused : Custody → Bool
  | .none | .missing | .void | .released => true
  | _ => false

/-- VOID_SCRIPT's report, from the entry before the void (R115). -/
def State.voidReport (s : State) (e : Entry) : Report := .voided e.number e.custody e.seat (s.placeOf e) e.mark.isSome

/-- VOID_SCRIPT (R115, R116). -/
def execVoidScript (number : Nat) (s : State) : Result :=
  .next <| s.atPort .voidScript fun s => s.withCandidate number fun e =>
    if voidRefused e.custody then s.refuse .wrongState
    else (s.voidScript e).finishTask .ok false (s.voidReport e)

/-! ### TRAY_INFO -/

/-- The custody of the entry with a tag, and its number. -/
def State.tagLine (s : State) (position t : Nat) : TrayLine :=
  match s.byTag? t with
  | some e => { position := position, tag := t, number := e.number, custody := e.custody }
  | none => { position := position, tag := t, number := 0, custody := .none }

/-- TRAY_INFO's report of one tray (R120). -/
def State.trayReport (s : State) (u start : Nat) : TrayReport :=
  let r := s.tray u
  let rest := (r.tags.zipIdx 1).filter fun p => decide (start ≤ p.2)
  { tray := u, line := trayLine u, unit := trayUnit u, link := (s.linkRecord (trayLine u) (trayUnit u)).state,
    state := r.state, sitting := r.sitting, count := r.tags.length,
    entries := (rest.take 20).map fun p => s.tagLine p.2 p.1, more := decide (20 < rest.length) }

/-- TRAY_INFO (R120). The summary takes no start position. -/
def execTrayInfo (tray start : Nat) (s : State) : Result :=
  .next <| s.atPort .trayInfo fun s =>
    if tray = 255 then
      s.finishTask .ok false (.trays
        ((List.range Config.trays).map fun u => ((s.tray u).state, (s.tray u).sitting, (s.tray u).tags.length)))
    else if decide (Config.trays ≤ tray) || decide (start = 0) || decide (Config.trayTags < start) then s.refuse .badParam
    else s.finishTask .ok false (.tray (s.trayReport tray start))

/-! ### CLEAR_TRAY -/

/-- A tag whose entry's custody is MARKED or RELEASED (R119). -/
def State.tagMarked (s : State) (t : Nat) : Bool :=
  match s.byTag? t with
  | some e => isFinal e.custody
  | none => false

/-- The positions of the tags that are not marked. -/
def State.unmarkedPositions (s : State) (u : Nat) : List Nat :=
  (((s.tray u).tags.zipIdx 1).filter fun p => !s.tagMarked p.1).map Prod.snd

/-- The tray is emptied, and the tray number of every listed tag's entry becomes none (R119). -/
def State.emptyTray (s : State) (u : Nat) : State :=
  let slots := (s.tray u).tags.filterMap s.slotOfTag?
  let s1 := s.setEntries (s.roster.entries.map fun e => if slots.contains e.slot then { e with tray := none } else e)
  (s1.setTray u {}).showTray u

/-- CLEAR_TRAY (R119). -/
def execClearTray (u : Nat) (s : State) : Result :=
  .next <| s.atPort .clearTray fun s =>
    if Config.trays ≤ u then s.refuse .badParam
    else match (s.tray u).state with
      | .reading => s.refuse .busy
      | .empty => s.finishTask .ok false (.cleared 0 (s.tray u).sitting)
      | _ =>
        match s.unmarkedPositions u with
        | p :: rest => s.finishTask .pending false (.unmarked (rest.length + 1) p)
        | [] => (s.emptyTray u).finishTask .ok false (.cleared (s.tray u).tags.length (s.tray u).sitting)

end Sys2Proof.Machine
end

