-- ==== Sys2Proof/Machine/SeatTasks.lean ====
section
/-!
DEFINITION. The commands of the seat map: SEAT_INFO, DISABLE_SEAT, ENABLE_SEAT, RESERVE and UNRESERVE (R31–R35).
-/

namespace Sys2Proof.Machine

/-! ### SEAT_INFO -/

def State.numberOf? (s : State) : Option Nat → Option Nat
  | some slot => s.numberOf slot
  | none => none

/-- SEAT_INFO's report of a seat (R32). -/
def State.seatReport (s : State) (d : Nat) : SeatReport :=
  let x := s.seat d
  { seat := d, zone := zoneOf d, row := rowOf d, column := columnOf d, link := x.link, caps := x.caps,
    disabled := x.disabled, tenure := x.tenure.kind, occupant := s.numberOf? (occupant x.tenure),
    offeree := s.numberOf? (offeree x.tenure), awaiting := awaitingTag x.tenure, usable := usable x,
    extent := (s.covering d).map fun p => (p.1, p.2.owner) }

/-- The seats of a zone, ascending (R20). -/
def seatsOfZone (z : Nat) : List Nat := (List.range Config.zoneSeats).map fun u => seatOf z u

/-- The count of a zone's seats that meet `p`. -/
def State.countSeats (s : State) (z : Nat) (p : Seat → Bool) : Nat :=
  ((seatsOfZone z).filter fun d => p (s.seat d)).length

def State.extentReport (s : State) (side : Side) (x : Extent) : ExtentReport :=
  { code := x.code, firstRow := (extentSpan side x.code).1, lastRow := (extentSpan side x.code).2, owner := x.owner,
    locked := s.locked x.owner }

def isOffered : Tenure → Bool
  | .offered _ => true
  | _ => false

/-- SEAT_INFO's report of a zone (R32). -/
def State.zoneReport (s : State) (z : Nat) : ZoneReport :=
  { empty := s.countSeats z fun x => decide (x.tenure.kind = .empty)
    offered := s.countSeats z fun x => decide (x.tenure.kind = .offered)
    held := s.countSeats z fun x => decide (x.tenure.kind = .held)
    occupied := s.countSeats z fun x => decide (x.tenure.kind = .occupied)
    vacated := s.countSeats z fun x => decide (x.tenure.kind = .vacated)
    unknown := s.countSeats z fun x => decide (x.link = .unknown)
    up := s.countSeats z fun x => decide (x.link = .up)
    down := s.countSeats z fun x => decide (x.link = .down)
    disabled := s.countSeats z fun x => x.disabled
    usable := s.countSeats z usable
    front := (s.zoneExtents z).front.map (s.extentReport .front)
    back := (s.zoneExtents z).back.map (s.extentReport .back) }

/-- SEAT_INFO (R32). -/
def execSeatInfo (name : SeatOrZone) (s : State) : Result :=
  .next <| s.atPort .seatInfo fun s =>
    match name with
    | .seat d => if d < Config.seats then s.finishTask .ok false (.seat (s.seatReport d)) else s.refuse .badParam
    | .zone z => if z < Config.zones then s.finishTask .ok false (.zone (s.zoneReport z)) else s.refuse .badParam
    | .other => s.refuse .badParam

/-! ### DISABLE_SEAT and ENABLE_SEAT -/

/-- Sets or clears the DISABLED flag; a change at a seat whose link is UP is shown (R31). -/
def State.flagSeat (s : State) (d : Nat) (flag : Bool) : State :=
  let x := s.seat d
  let s1 := s.setSeat d { x with disabled := flag }
  if x.disabled != flag && decide (x.link = .up) then s1.showSeat d (if flag then .disabled else .empty) else s1

/-- The block of both tasks: the seat number, its tenure and its flag as they stand (R31). -/
def State.flagReport (s : State) (d : Nat) : Report := .flagged d (s.seat d).tenure.kind (s.seat d).disabled

/-- DISABLE_SEAT (R31). Its refusal with CONFLICT reports the result code alone (DESIGN CHOICE: R31 gives the block
the seat number, tenure and flag as they stand after the task, and does not say whether this refusal carries them;
notes, assumption 60). -/
def execDisableSeat (d : Nat) (s : State) : Result :=
  .next <| s.atPort .disableSeat fun s =>
    if Config.seats ≤ d then s.refuse .badParam
    else if (s.seat d).tenure ≠ .empty then s.refuse .conflict
    else
      let s1 := s.flagSeat d true
      s1.finishTask .ok false (s1.flagReport d)

/-- ENABLE_SEAT (R31); an EMPTY seat whose link is UP becomes usable when its flag is cleared, and the stranded are
retried then (R58). One whose flag was clear was usable before, and nobody is retried (DESIGN CHOICE: R58 lists the
task without saying that the flag was set; notes, assumption 39). -/
def execEnableSeat (d : Nat) (s : State) : Result :=
  .next <| s.atPort .enableSeat fun s =>
    if Config.seats ≤ d then s.refuse .badParam
    else
      let s1 := s.flagSeat d false
      let s2 := if (s.seat d).disabled then s1.retryStranded d else s1
      s2.finishTask .ok false (s2.flagReport d)

/-! ### RESERVE and UNRESERVE -/

def badExtent (code : Nat) : Bool := decide (code = 0) || decide (5 < code)

def badOwner : Owner → Bool
  | .sitting k => badSitting k
  | .special => false

/-- Phases later than READING, and EMPTY (R34). -/
def State.ownerPhaseRefused (s : State) : Owner → Bool
  | .special => false
  | .sitting k => match (s.sitting k).phase with
    | .defined | .opened | .reading => false
    | _ => true

def otherSide : Side → Side
  | .front => .back
  | .back => .front

/-- The rows of an optional extent. -/
def rowsHeld : Option Extent → Nat
  | some x => extentRows x.code
  | none => 0

def State.ownerMaskLacks (s : State) (z : Nat) : Owner → Bool
  | .special => false
  | .sitting k => !hasZone (s.sitting k).defn.zones z

/-- A held seat that the new extent's owner does not admit (R34). -/
def State.heldAgainst (s : State) (owner : Owner) (d : Nat) : Bool :=
  match (occupant (s.seat d).tenure).bind s.entry? with
  | some e => (match owner with
    | .sitting k => decide (e.sitting ≠ k)
    | .special => !hasNeeds e.needs)
  | none => false

/-- The seats of the rows an extent would cover, ascending. -/
def extentSeats (z : Nat) (side : Side) (code : Nat) : List Nat :=
  (seatsOfZone z).filter fun d => coversRow side code (rowOf d)

/-- RESERVE (R34). -/
def execReserve (z : Nat) (side : Option Side) (code : Nat) (owner : Owner) (s : State) : Result :=
  .next <| s.atPort .reserve fun s =>
    match side with
    | none => s.refuse .badParam
    | some side =>
      if decide (Config.zones ≤ z) || badExtent code || badOwner owner then s.refuse .badParam
      else if s.placement.run.isSome then s.refuse .busy
      else
        let x := s.zoneExtents z
        if (match extentOf x side with
            | some f => s.locked f.owner
            | none => false) then s.refuse .locked
        else if s.ownerPhaseRefused owner then s.refuse .wrongPhase
        else if Config.rows < extentRows code + rowsHeld (extentOf x (otherSide side)) then s.refuse .conflict
        else if s.ownerMaskLacks z owner then s.refuse .conflict
        else if (extentSeats z side code).any fun d => isOffered (s.seat d).tenure then s.refuse .conflict
        else match (extentSeats z side code).find? (s.heldAgainst owner) with
          | some d => s.finishTask .conflict false (.offending d)
          | none =>
            (s.setZoneExtents z (withExtent x (some { code := code, owner := owner }) side)).finishTask .ok false
              (.reserved z side (extentSpan side code).1 (extentSpan side code).2 owner)

/-- UNRESERVE (R35). -/
def execUnreserve (z : Nat) (side : Option Side) (s : State) : Result :=
  .next <| s.atPort .unreserve fun s =>
    match side with
    | none => s.refuse .badParam
    | some side =>
      if Config.zones ≤ z then s.refuse .badParam
      else if s.placement.run.isSome then s.refuse .busy
      else
        let x := s.zoneExtents z
        match extentOf x side with
        | none => s.refuse .notFound
        | some f =>
          if s.locked f.owner then s.refuse .locked
          else (s.setZoneExtents z (withExtent x none side)).finishTask .ok false .nothing

end Sys2Proof.Machine
end

