-- ==== Sys2Proof/Machine/Phases.lean ====
section
/-!
DEFINITION. The phases of a sitting (R65–R70) and the taking of one hall second by each block that uses it (R50,
R69, R80, R86, R200).
-/

namespace Sys2Proof.Machine

/-- A sitting enters OPEN, taking ALARM when the alarm input is asserted (R66). -/
def State.enterOpen (s : State) (k : Nat) : State :=
  s.changeSitting k fun r => { r with phase := .opened, holds := { r.holds with alarm := r.holds.alarm || s.hall.alarm } }

/-- Entry to WRITING: the change is told, every WAITING clock becomes RUNNING, and a late limit of 0 is acted on (R67,
R87). -/
def State.enterWriting (s : State) (k : Nat) : State :=
  let s1 := (s.changeSitting k fun r => { r with phase := .writing, elapsed := 0 }).startClocks k
  if (s.sitting k).defn.lateLimit = 0 then s1.absences k else s1

/-- A sitting starts from OPEN (R67). -/
def State.sittingStart (s : State) (k : Nat) : State :=
  if 0 < (s.sitting k).defn.reading then
    s.changeSitting k fun r => { r with phase := .reading, readingLeft := r.defn.reading }
  else s.enterWriting k

/-- Reading remaining falls by 1; at 0 the sitting enters WRITING (R69). -/
def State.countReading (s : State) (k : Nat) : State :=
  let s1 := s.modSitting k fun r => { r with readingLeft := r.readingLeft - 1 }
  if (s1.sitting k).readingLeft = 0 then s1.enterWriting k else s1

/-- Writing elapsed rises by 1, holding at its highest value; then the late limit and W are acted on (R69). -/
def State.countWriting (s : State) (k : Nat) : State :=
  let old := s.sitting k
  let next := min Config.lastSecond (old.elapsed + 1)
  let s1 := s.modSitting k fun r => { r with elapsed := next }
  let s2 := if old.elapsed < next && decide (next = old.defn.lateLimit) then s1.absences k else s1
  if (s2.sitting k).phase = .writing && decide (next = old.defn.writing) then
    if s2.openClocks k then s2.changeSitting k fun r => { r with phase := .overtime } else s2.enterCollecting k
  else s2

/-- Whether hall time is set and at or past a scheduled time (R65). -/
def State.due (s : State) (t : Option Nat) : Bool :=
  match t with
  | some v => s.hall.timeSet && decide (v ≤ s.hall.time)
  | none => false

/-- Whether the sitting's open time is acted on at a hall second (R65). -/
def State.opensNow (s : State) (k : Nat) : Bool :=
  decide ((s.sitting k).phase = .defined) && s.due (s.sitting k).defn.openTime

/-- Whether the sitting's start time is acted on at a hall second (R65). -/
def State.startsNow (s : State) (k : Nat) : Bool :=
  decide ((s.sitting k).phase = .opened) && s.due (s.sitting k).defn.startTime && !isHeld (s.sitting k).holds

/-- Sitting Control takes one hall second for a sitting: its schedule, in the order of its phases (R65), or its
counters (R69), as its phase stands when the second is taken. -/
def State.takeSitting (s : State) (k : Nat) : State :=
  match (s.sitting k).phase with
  | .defined =>
    if s.opensNow k then
      let s1 := s.enterOpen k
      if s1.startsNow k then s1.sittingStart k else s1
    else s
  | .opened => if s.startsNow k then s.sittingStart k else s
  | .reading => if isHeld (s.sitting k).holds then s else s.countReading k
  | .writing | .overtime => if isHeld (s.sitting k).holds then s else s.countWriting k
  | _ => s

/-- One hall second less on a SENT offer (R50). -/
def tickOffer (o : Offer) : Offer :=
  match o.stage with
  | .sent n => { o with stage := .sent (n - 1) }
  | .waiting => o

/-- The deadline of every SENT offer falls by one (R50). -/
def State.tickOffers (s : State) : State := s.setOffers (s.placement.offers.map tickOffer)

/-- The seats whose SENT offer has reached its deadline, ascending (R50). -/
def State.overdue (s : State) : List Nat :=
  (s.placement.offers.filter fun o => o.stage == .sent 0).foldl (fun l o => insertAscending o.seat l) []

/-- The offer on a seat fails by deadline (R50, R53). -/
def State.failDeadline (s : State) (d : Nat) : State :=
  match s.offerOn? d with
  | some o => s.failOffer o true
  | none => s

/-- The Placement Unit takes one hall second (R50). -/
def State.takeOffers (s : State) : State :=
  let s1 := s.tickOffers
  s1.overdue.foldl State.failDeadline s1

/-- The lockout falls by one (R200). -/
def State.takeLockout (s : State) : State := { s with port := { s.port with lockout := s.port.lockout - 1 } }

/-- A BELL pulse has one second less to run (R80). -/
def State.takeBell (s : State) (o : Nat) : State := s.setBell o (s.bell o - 1)

/-- One block's taking of one hall second, for one item. -/
def State.take (s : State) : HallItem → State
  | .lockout => s.takeLockout
  | .offers => s.takeOffers
  | .clock n => s.takeClock n
  | .bell o => s.takeBell o
  | .sitting k => s.takeSitting k

/-- Everything that takes a hall second, in the order the model takes it when no command asks for another: the
lockout, the offer deadlines, the clocks in ascending candidate number, the bells, the sittings (DESIGN CHOICE, notes,
assumption 4). -/
def State.hallItems (s : State) : List HallItem :=
  [.lockout, .offers] ++ s.roster.entries.map (fun e => .clock e.number) ++ (List.range 4).map .bell
    ++ (List.range Config.sittings).map .sitting

/-- An item is no longer owed the hall second. -/
def State.settled (s : State) (i : HallItem) : State := s.setOwed (s.hall.owed.filter (· != i))

/-- Every offer whose deadline has reached 0 fails (R50), and every item still owed takes the hall second, in the
order it is owed. A sitting compares its times with hall time as it then stands, so with the value of a SET_HALL_TIME
taken while it was owed the second (DESIGN CHOICE: R75 has the new value compared from the next hall second; notes,
assumption 63). -/
def State.catchUp (s : State) : State :=
  s.hall.owed.foldl State.take (s.overdue.foldl State.failDeadline (s.setOwed []))

/-- Whether an item has not yet taken the present hall second. -/
def State.owes (s : State) (i : HallItem) : Bool := s.hall.owed.contains i

/-- An owed item takes the hall second where `reaches` holds; otherwise the event it names does not occur. -/
def State.reach (s : State) (i : HallItem) (reaches : Bool) : State :=
  if s.owes i && reaches then (s.settled i).take i else s

end Sys2Proof.Machine
end

