-- ==== Sys2Proof/Machine/SittingTasks.lean ====
section
/-!
DEFINITION. The commands of sitting control (R63–R82) and the host's commands on a candidate's time (R94, R99).
-/

namespace Sys2Proof.Machine

/-! ### DEFINE_SITTING -/

/-- A character from A–Z or 0–9 (R63). -/
def paperChar (c : Nat) : Bool := (decide (65 ≤ c) && decide (c ≤ 90)) || (decide (48 ≤ c) && decide (c ≤ 57))

def goodPaper (p : List Nat) : Bool := !p.isEmpty && decide (p.length ≤ 8) && p.all paperChar

def startBeforeOpen (p : DefineParams) : Bool :=
  match p.openTime, p.startTime with
  | some o, some t => decide (t < o)
  | _, _ => false

/-- The parameters fail the BAD_PARAM test of a definition (R63). -/
def badDefinition (p : DefineParams) : Bool :=
  !goodPaper p.paper || decide (p.zones = {}) || p.spacing.isNone || decide (p.writing < 60)
    || decide (21600 < p.writing) || startBeforeOpen p

/-- The definition with its clamps applied (R63). -/
def clampedDefinition (p : DefineParams) : Definition :=
  { paper := p.paper, zones := p.zones, spacing := p.spacing.getD .open, confined := p.confined,
    openTime := p.openTime, startTime := p.startTime, reading := clampNat 0 3600 p.reading, writing := p.writing,
    lateLimit := min p.writing (clampNat 0 3600 p.lateLimit), earlyBar := min p.writing (clampNat 0 7200 p.earlyBar),
    lastBar := clampNat 0 3600 p.lastBar, warning1 := clampNat 0 21600 p.warning1,
    warning2 := clampNat 0 21600 p.warning2 }

/-- Whether a clamp changed a value (R63). -/
def definitionClamps (p : DefineParams) : Bool :=
  let d := clampedDefinition p
  decide (d.reading ≠ p.reading) || decide (d.lateLimit ≠ p.lateLimit) || decide (d.earlyBar ≠ p.earlyBar)
    || decide (d.lastBar ≠ p.lastBar) || decide (d.warning1 ≠ p.warning1) || decide (d.warning2 ≠ p.warning2)

/-- A candidate of the sitting has a seat or an outstanding offer (R64). -/
def State.anySeated (s : State) (k : Nat) : Bool := (s.entriesOf k).any fun e => e.seat.isSome || e.offer.isSome

/-- The check of R64 that refuses a re-definition, where one does: false for the check of spacing rule and zone mask,
true for the check of the reservation extents. Where both fail the first is named (DESIGN CHOICE: R64 gives no order
of the two; notes, assumption 40). -/
def State.redefinitionRefused (s : State) (k : Nat) (d : Definition) : Option Bool :=
  let old := (s.sitting k).defn
  if (decide (old.spacing ≠ d.spacing) || decide (old.zones ≠ d.zones)) && s.anySeated k then some false
  else if s.maskLosesExtent k d.zones then some true
  else none

/-- The budgets of the sitting's entries are recomputed (R4, R64). -/
def State.rebudgetAll (s : State) (k w : Nat) : State :=
  s.setEntries (s.roster.entries.map fun e => if e.sitting = k then rebudget w e else e)

/-- A DEFINED sitting is re-defined (R64). -/
def State.redefine (s : State) (k : Nat) (d : Definition) : State :=
  let s1 := s.modSitting k fun r => { r with defn := d, readingLeft := d.reading, elapsed := 0 }
  if (s.sitting k).defn.writing = d.writing then s1 else s1.rebudgetAll k d.writing

/-- An EMPTY sitting becomes DEFINED (R63). -/
def State.defineNew (s : State) (k : Nat) (d : Definition) : State :=
  s.changeSitting k fun _ => { phase := .defined, defn := d, readingLeft := d.reading }

/-- DEFINE_SITTING (R63, R64). -/
def execDefineSitting (k : Nat) (p : DefineParams) (s : State) : Result :=
  .next <| s.atPort .defineSitting fun s =>
    let done (s : State) : State := s.finishTask .ok (definitionClamps p) (.defined (clampedDefinition p))
    if badSitting k then s.refuse .badParam
    else match (s.sitting k).phase with
      | .empty => if badDefinition p then s.refuse .badParam else done (s.defineNew k (clampedDefinition p))
      | .defined =>
        if badDefinition p then s.refuse .badParam
        else if (s.sitting k).alloc = .running then s.refuse .busy
        else (match s.redefinitionRefused k (clampedDefinition p) with
          | some check => s.finishTask .conflict false (.redefinition check)
          | none => done (s.redefine k (clampedDefinition p)))
      | _ => s.refuse .wrongPhase

/-! ### OPEN_NOW, HOLD, RESUME -/

/-- OPEN_NOW (R68). -/
def execOpenNow (k : Nat) (s : State) : Result :=
  .next <| s.atPort .openNow fun s =>
    let done (s : State) : State := s.finishTask .ok false (.phase (s.sitting k).phase)
    if badSitting k then s.refuse .badParam
    else match (s.sitting k).phase with
      | .defined => done (s.enterOpen k)
      | .opened => if isHeld (s.sitting k).holds then s.refuse .wrongState else done (s.sittingStart k)
      | _ => s.refuse .wrongPhase

/-- The sittings in OPEN through OVERTIME, ascending (R76, R78). -/
def State.holdable (s : State) : List Nat :=
  (List.range Config.sittings).filter fun k => holdPhase (s.sitting k).phase

/-- HOST is added to a sitting's hold reasons, and the change is told (R76). -/
def State.holdSitting (s : State) (k : Nat) : State :=
  s.changeSitting k fun r => { r with holds := { r.holds with host := true } }

/-- Every hold reason of a sitting is cleared, and the change is told (R78). -/
def State.clearHolds (s : State) (k : Nat) : State := s.changeSitting k fun r => { r with holds := {} }

def State.holdLines (s : State) (l : List Nat) : List (Nat × Phase × Holds) :=
  l.map fun k => (k, (s.sitting k).phase, (s.sitting k).holds)

/-- HOST is added to every sitting of a list; the report counts those that lacked it (R76). The sittings are told in
ascending index, each sitting's PHASE and CLOCKs before the next sitting's (DESIGN CHOICE: R76 gives no order; notes,
assumption 41). -/
def State.holdThese (s : State) (l : List Nat) : State :=
  let s1 := l.foldl State.holdSitting s
  s1.finishTask .ok false (.held (l.filter fun k => !(s.sitting k).holds.host).length (s1.holdLines l))

/-- HOLD (R76). -/
def execHold (target : SittingOrAll) (s : State) : Result :=
  .next <| s.atPort .hold fun s =>
    match target with
    | .one k =>
      if badSitting k then s.refuse .badParam
      else if !holdPhase (s.sitting k).phase then s.refuse .wrongPhase
      else s.holdThese [k]
    | .all => s.holdThese s.holdable

/-- A sitting has ALARM while the alarm input is asserted (R78). -/
def State.alarmBars (s : State) (k : Nat) : Bool := (s.sitting k).holds.alarm && s.hall.alarm

/-- RESUME of the sittings of a list (R78), told in the order of the list (notes, assumption 41). -/
def State.resumeThese (s : State) (l : List Nat) : State :=
  if l.any s.alarmBars then s.refuse .alarmActive
  else (l.foldl State.clearHolds s).finishTask .ok false
    (.resumed (l.filter fun k => isHeld (s.sitting k).holds).length)

/-- RESUME (R78). -/
def execResume (target : SittingOrAll) (s : State) : Result :=
  .next <| s.atPort .resume fun s =>
    match target with
    | .one k =>
      if badSitting k then s.refuse .badParam
      else if !holdPhase (s.sitting k).phase then s.refuse .wrongPhase
      else s.resumeThese [k]
    | .all => s.resumeThese s.holdable

/-! ### CLOSE_COLLECTION and RETIRE_SITTING -/

/-- A HANDED_IN script is declared MISSING and its VACATED seat is released (R113). -/
def State.declareMissing (s : State) (slot : Nat) : State :=
  ((s.modEntry slot fun e => { e with custody := .missing }).count slot dropAwaiting).releaseVacated slot

/-- The sitting's HANDED_IN scripts, in ascending candidate number. -/
def State.handedIn (s : State) (k : Nat) : List Nat := s.slotsOf k fun e => decide (e.custody = .handedIn)

/-- CLOSE_COLLECTION (R71, R113). -/
def execCloseCollection (k : Nat) (s : State) : Result :=
  .next <| s.atPort .closeCollection fun s =>
    if badSitting k then s.refuse .badParam
    else if (s.sitting k).phase ≠ .collecting then s.refuse .wrongPhase
    else
      let s1 := ((s.handedIn k).foldl State.declareMissing s).changeSitting k fun r => { r with phase := .closed }
      s1.finishTask .ok false (.closed (s.handedIn k).length)

/-- Steps common to both retirements: the entries are deleted, the key is emptied, the extents are dropped, and the
sitting enters EMPTY (R72). -/
def State.clearSitting (s : State) (k : Nat) : State :=
  let s1 := (s.slotsOf k fun _ => true).foldl State.deleteEntry s
  ((s1.setKey k {}).dropExtents k).changeSitting k fun _ => {}

/-- Any tray record names the sitting (R72). -/
def State.trayNames (s : State) (k : Nat) : Bool :=
  (List.range Config.trays).any fun u => (s.tray u).sitting == some k

/-- The offers whose candidate is of the sitting (R73). -/
def State.sittingOffers (s : State) (k : Nat) : List Offer :=
  s.placement.offers.filter fun o => match s.entry? o.slot with
    | some e => decide (e.sitting = k)
    | none => false

/-- Steps 1 to 3 of a cancellation (R73). The offers are cancelled in the order in which they were made, and the HELD
seats released in ascending candidate number (DESIGN CHOICE: R73 gives neither order; notes, assumptions 20 and 54).
-/
def State.clearPlacement (s : State) (k : Nat) : State :=
  let slots := s.slotsOf k fun _ => true
  let s1 := (s.sittingOffers k).foldl State.cancelOffer s
  slots.foldl State.releaseHeld (s1.setReseats (s1.placement.reseats.filter fun r => !slots.contains r.slot))

/-- RETIRE_SITTING (R72, R73). A DEFINED sitting whose key is queued or walked is retired as any other, and the walk
of its emptied key runs on to its RESCORE_DONE (DESIGN CHOICE: R176 says BUSY by R72, and R73 has no such test; notes,
assumption 49). -/
def execRetireSitting (k : Nat) (s : State) : Result :=
  .next <| s.atPort .retireSitting fun s =>
    if badSitting k then s.refuse .badParam
    else match (s.sitting k).phase with
      | .released =>
        if s.trayNames k || s.walkBusy k then s.refuse .busy
        else (s.clearSitting k).finishTask .ok false (.retired (s.entriesOf k).length none)
      | .defined =>
        if (s.sitting k).alloc = .running then s.refuse .busy
        else ((s.clearPlacement k).clearSitting k).finishTask .ok false
          (.retired (s.entriesOf k).length (some (s.sittingOffers k).length))
      | _ => s.refuse .wrongPhase

/-! ### Hall time and reports -/

/-- A paper is running: READING, WRITING or OVERTIME (R75). -/
def State.paperRuns (s : State) : Bool :=
  (List.range Config.sittings).any fun k => match (s.sitting k).phase with
    | .reading | .writing | .overtime => true
    | _ => false

/-- SET_HALL_TIME (R75). -/
def execSetHallTime (value : BitVec 32) (s : State) : Result :=
  .next <| s.atPort .setHallTime fun s =>
    if s.paperRuns then s.refuse .wrongPhase
    else ({ s with hall := { s.hall with time := value.toNat, timeSet := true } } : State).finishTask .ok false
      (.hallTime s.hall.time s.hall.timeSet)

/-- SITTING_INFO (R82). -/
def execSittingInfo (k : Nat) (s : State) : Result :=
  .next <| s.atPort .sittingInfo fun s =>
    if k = 255 then
      s.finishTask .ok false (.sittings
        ((List.range Config.sittings).map fun i => ((s.sitting i).phase, (s.sitting i).holds, (s.sitting i).defn.paper))
        s.hall.time s.hall.timeSet s.hall.alarm)
    else if badSitting k then s.refuse .badParam
    else s.finishTask .ok false (.sitting
      { record := s.sitting k, keyState := (s.key k).state, keyRevision := (s.key k).revision,
        hallTime := s.hall.time, hallTimeSet := s.hall.timeSet })

/-! ### A candidate's time -/

/-- The adjustment sum after an adjustment, both clamped (R99). -/
def adjustedSum (sum adjustment : Int) : Int :=
  clampInt (-Config.lastAdjustSum) Config.lastAdjustSum
    (sum + clampInt (-Config.lastAdjust) Config.lastAdjust adjustment)

/-- Either clamp of ADJUST_TIME changed a value (R99). -/
def adjustClamps (sum adjustment : Int) : Bool := decide (adjustedSum sum adjustment ≠ sum + adjustment)
  || decide (clampInt (-Config.lastAdjust) Config.lastAdjust adjustment ≠ adjustment)

/-- The adjustment is written and the budget recomputed (R85, R99, R100). -/
def State.adjust (s : State) (e : Entry) (adjustment : Int) : State :=
  let w := (s.sitting e.sitting).defn.writing
  (s.modEntry e.slot fun x => rebudget w { x with adjustSum := adjustedSum x.adjustSum adjustment }).afterRebudget e.slot

def State.adjustReport (s : State) (slot : Nat) (before : Int) : Report :=
  match s.entry? slot with
  | some e => .adjusted (e.adjustSum - before) e.adjustSum e.budget e.used e.remaining
  | none => .nothing

/-- ADJUST_TIME (R99). -/
def execAdjustTime (number : Nat) (adjustment : Int) (s : State) : Result :=
  .next <| s.atPort .adjustTime fun s => s.withCandidate number fun e =>
    if e.clock = .ended then s.refuse .wrongState
    else
      let s1 := s.adjust e adjustment
      s1.finishTask .ok (adjustClamps e.adjustSum adjustment) (s1.adjustReport e.slot e.adjustSum)

/-- END_CANDIDATE of a candidate that is not present and was not displaced (R94). -/
def State.endExpected (s : State) (slot : Nat) : State :=
  (((((s.modEntry slot fun e => { endClock e with presence := .finished }).releaseHeld slot).endNeed slot)).tellEnd
    slot).checkRun

/-- The end of a candidate's clock at the host's request, by presence (R94). -/
def State.endCandidate (s : State) (e : Entry) : State :=
  match e.presence with
  | .present => (s.endPresent e.slot).queueClock e.slot true
  | .displaced => s.endDisplaced e.slot
  | _ => s.endExpected e.slot

def State.endReport (s : State) (slot : Nat) : Report :=
  match s.entry? slot with
  | some e => .ended e.presence e.custody e.seat (e.seat.map fun d => (s.seat d).tenure.kind) e.used e.budget
  | none => .nothing

/-- END_CANDIDATE (R94). -/
def execEndCandidate (number : Nat) (s : State) : Result :=
  .next <| s.atPort .endCandidate fun s => s.withCandidate number fun e =>
    if e.clock = .ended then s.refuse .wrongState
    else
      let s1 := s.endCandidate e
      s1.finishTask .ok false (s1.endReport e.slot)

end Sys2Proof.Machine
end

