-- ==== Sys2Proof/Machine/AreaWrite.lean ====
section
/-!
DEFINITION. AREA_WRITE: a write to an area of the task port (R194, R195), the write that starts a task among them.
-/

namespace Sys2Proof.Machine

/-- PARAM with octets written from an offset onward; octets beyond its end are ignored (R194). -/
def writeParam (param : List Octet) (offset : Nat) (data : List Octet) : List Octet :=
  param.zipIdx.map fun p => if offset ≤ p.2 then data.getD (p.2 - offset) p.1 else p.1

/-- Whether a write reaches the area: it carries an octet, and its offset lies in the area (R194). -/
def reachesArea (size offset : Nat) (data : List Octet) : Bool := decide (offset < size) && !data.isEmpty

/-- The task of a code (R195). -/
def taskOfCode (c : Nat) : Option Task := tasks.find? fun t => taskCode t == c

/-- The task started by a write of its code, with the operands that PARAM spells: the spec gives no layout of the
parameters, so the operands are a free value (Config; notes, assumption 3). -/
def writtenTask (t : Task) (s : State) : Result :=
  let c := taskCode t
  let p := s.port.param
  match t with
  | .enterLevel =>
    let x := Config.operands (Option PassLevel × BitVec 32) c p
    execEnterLevel x.1 x.2 s
  | .leaveLevel => execLeaveLevel s
  | .setPasscode =>
    let x := Config.operands (Option PassLevel × Option (BitVec 32)) c p
    execSetPasscode x.1 x.2 s
  | .setGrants => execSetGrants (Config.operands Octet c p) s
  | .readNotices => execReadNotices s
  | .saveSettings => execSaveSettings s
  | .reboot => execReboot s
  | .setLineLimits =>
    let x := Config.operands (Nat × Nat) c p
    execSetLineLimits x.1 x.2 s
  | .setSignal =>
    let x := Config.operands (Nat × Option SignalCond) c p
    execSetSignal x.1 x.2 s
  | .enrol =>
    let x := Config.operands (Nat × List EnrolEntry) c p
    execEnrol x.1 x.2 s
  | .withdraw => execWithdraw (Config.operands Nat c p) s
  | .amend =>
    let x := Config.operands (Nat × Option CapSet × Option Nat × Option Nat) c p
    execAmend x.1 x.2.1 x.2.2.1 x.2.2.2 s
  | .lookup => execLookup (Config.operands EntryName c p) s
  | .list =>
    let x := Config.operands (Nat × PresenceFilter × Nat) c p
    execList x.1 x.2.1 x.2.2 s
  | .seatInfo => execSeatInfo (Config.operands SeatOrZone c p) s
  | .disableSeat => execDisableSeat (Config.operands Nat c p) s
  | .enableSeat => execEnableSeat (Config.operands Nat c p) s
  | .reserve =>
    let x := Config.operands (Nat × Option Side × Nat × Owner) c p
    execReserve x.1 x.2.1 x.2.2.1 x.2.2.2 s
  | .unreserve =>
    let x := Config.operands (Nat × Option Side) c p
    execUnreserve x.1 x.2 s
  | .allocate => execAllocate (Config.operands Nat c p) s
  | .abortAllocation => execAbortAllocation (Config.operands Nat c p) s
  | .move =>
    let x := Config.operands (Nat × MoveTarget) c p
    execMove x.1 x.2 s
  | .restartLine => execRestartLine (Config.operands Nat c p) s
  | .defineSitting =>
    let x := Config.operands (Nat × DefineParams) c p
    execDefineSitting x.1 x.2 s
  | .openNow => execOpenNow (Config.operands Nat c p) s
  | .hold => execHold (Config.operands SittingOrAll c p) s
  | .resume => execResume (Config.operands SittingOrAll c p) s
  | .closeCollection => execCloseCollection (Config.operands Nat c p) s
  | .retireSitting => execRetireSitting (Config.operands Nat c p) s
  | .setHallTime => execSetHallTime (Config.operands (BitVec 32) c p) s
  | .sittingInfo => execSittingInfo (Config.operands Nat c p) s
  | .adjustTime =>
    let x := Config.operands (Nat × Int) c p
    execAdjustTime x.1 x.2 s
  | .endCandidate => execEndCandidate (Config.operands Nat c p) s
  | .voidScript => execVoidScript (Config.operands Nat c p) s
  | .trayInfo =>
    let x := Config.operands (Nat × Nat) c p
    execTrayInfo x.1 x.2 s
  | .clearTray => execClearTray (Config.operands Nat c p) s
  | .loadKey =>
    let x := Config.operands (Nat × Option KeyChunk) c p
    execLoadKey x.1 x.2 s
  | .lockKey => execLockKey (Config.operands Nat c p) s
  | .amendKey =>
    let x := Config.operands (Nat × Nat × Option AmendKind) c p
    execAmendKey x.1 x.2.1 x.2.2 s
  | .readKey =>
    let x := Config.operands (Nat × Option KeyPart × Nat) c p
    execReadKey x.1 x.2.1 x.2.2 s
  | .setCalibration =>
    let x := Config.operands (Nat × BitVec 16 × Nat × Int) c p
    execSetCalibration x.1 x.2.1 x.2.2.1 x.2.2.2 s
  | .setThresholds =>
    let x := Config.operands (Nat × Nat × Nat) c p
    execSetThresholds x.1 x.2.1 x.2.2 s
  | .beginBatch => execBeginBatch (Config.operands Nat c p) s
  | .endBatch => execEndBatch s
  | .readMark =>
    let x := Config.operands (EntryName × Option MarkPart) c p
    execReadMark x.1 x.2 s
  | .resolveQuery =>
    let x := Config.operands (Nat × List (Nat × Mark)) c p
    execResolveQuery x.1 x.2 s
  | .resolveDispute =>
    let x := Config.operands (Nat × Nat) c p
    execResolveDispute x.1 x.2 s
  | .manualMark =>
    let x := Config.operands (Nat × Int) c p
    execManualMark x.1 x.2 s
  | .releaseResults => execReleaseResults (Config.operands Nat c p) s

/-- AREA_WRITE (R194, R195). A write to TASK in IDLE starts the task of its code; a code of no task completes with
UNKNOWN_TASK, and 00h starts nothing. -/
def execAreaWrite (area : Area) (offset : Nat) (data : List Octet) (s : State) : Result :=
  match s.power.power, area with
  | .on, .task =>
    if !reachesArea 1 offset data then .next s
    else if s.port.running.isSome then .next s.ignoreWrite
    else if (data.getD 0 0).toNat = 0 then .next s
    else match taskOfCode (data.getD 0 0).toNat with
      | some t => writtenTask t s
      | none => .next ((s.startTask (data.getD 0 0).toNat).refuse .unknownTask)
  | .on, .param =>
    if !reachesArea Config.areaOctets offset data then .next s
    else if s.port.running.isSome then .next s.ignoreWrite
    else .next { s with port := { s.port with param := writeParam s.port.param offset data } }
  | _, _ => .next s

end Sys2Proof.Machine
end

