-- ==== Sys2Proof/Machine/HallEvents.lean ====
section
/-!
DEFINITION. The hall second and the events it reaches (R50, R65, R69, R74, R80, R86, R90, R93, R96, R101, R200), and
the hall alarm input (R77). A command that names an event the owed hall second does not reach leaves the part as it
is.
-/

namespace Sys2Proof.Machine

/-- Hall time rises by 1, holding at its highest value (R74). -/
def State.advanceTime (s : State) : State :=
  { s with hall := { s.hall with time := min Config.lastSecond (s.hall.time + 1) } }

/-- The items not named in `later` take the new second at once; those named are owed it. -/
def State.takeSecond (s : State) (later : List HallItem) : State :=
  let items := s.hallItems
  (items.filter fun i => !later.contains i).foldl State.take (s.setOwed (items.filter later.contains))

/-- HALL_SECOND (R74). What is still owed of the former second is taken first; then hall time rises, and the blocks
take the second. While only the standby supply is present, or start-up is under way, only hall time counts. -/
def execHallSecond (later : List HallItem) (s : State) : Result :=
  .next (match s.power.power with
    | .off => s
    | .standby | .starting => s.advanceTime
    | .on => (s.catchUp.advanceTime).takeSecond later)

/-! ### Sitting Control's events -/

/-- OPEN_TIME (R65, R66). The sitting is still owed the second where its start time has come too. Its time is compared
with hall time as it stands, after a SET_HALL_TIME the new one (DESIGN CHOICE: R75; notes, assumption 63). -/
def execOpenTime (k : Nat) (s : State) : Result :=
  .next <| s.whileOn fun s =>
    if s.owes (.sitting k) && s.opensNow k then
      let s1 := s.enterOpen k
      if s1.startsNow k then s1 else s1.settled (.sitting k)
    else s

/-- START_TIME (R65, R67). -/
def execStartTime (k : Nat) (s : State) : Result :=
  .next <| s.whileOn fun s => s.reach (.sitting k) (s.startsNow k)

/-- The sitting's counters advance at a hall second (R69). -/
def State.advances (s : State) (k : Nat) (p : Phase) : Bool :=
  decide ((s.sitting k).phase = p) && !isHeld (s.sitting k).holds

/-- READING_END (R69). -/
def execReadingEnd (k : Nat) (s : State) : Result :=
  .next <| s.whileOn fun s => s.reach (.sitting k) (s.advances k .reading && decide ((s.sitting k).readingLeft ≤ 1))

/-- LATE_LIMIT (R69, R90). -/
def execLateLimit (k : Nat) (s : State) : Result :=
  .next <| s.whileOn fun s => s.reach (.sitting k)
    ((s.advances k .writing || s.advances k .overtime)
      && decide ((s.sitting k).elapsed + 1 = (s.sitting k).defn.lateLimit))

/-- WRITING_END (R69, R70). -/
def execWritingEnd (k : Nat) (s : State) : Result :=
  .next <| s.whileOn fun s => s.reach (.sitting k)
    (s.advances k .writing && decide ((s.sitting k).elapsed + 1 = (s.sitting k).defn.writing))

/-! ### The Candidate Timer's events -/

/-- The count of `number`'s clock at the hall second meets `p`, which is given the entry as the count leaves it. -/
def State.countMeets (s : State) (number : Nat) (c : Count) (p : Entry → Bool) : Bool :=
  match s.byNumber? number with
  | none => false
  | some e =>
    decide (s.countOf e = c) && p { e with
      used := if c = .used then e.used + 1 else e.used
      restUsed := if c = .rest then e.restUsed + 1 else e.restUsed }

/-- CLOCK_EXPIRY (R93), at a hall second's count. -/
def execClockExpiry (number : Nat) (s : State) : Result :=
  .next <| s.whileOn fun s => s.reach (.clock number)
    (s.countMeets number .used fun e => decide (e.remaining = 0))

/-- REST_EXHAUSTED (R96). -/
def execRestExhausted (number : Nat) (s : State) : Result :=
  .next <| s.whileOn fun s => s.reach (.clock number)
    (s.countMeets number .rest fun e => decide (e.restAllowance ≤ e.restUsed))

/-- WARNING_FIRE (R101), at a hall second's count. -/
def execWarningFire (number : Nat) (s : State) : Result :=
  .next <| s.whileOn fun s => s.reach (.clock number)
    (s.countMeets number .used fun e => decide (e.remaining ≠ 0) && s.warns e)

/-! ### Deadlines, the lockout, the bells -/

/-- OFFER_DEADLINE (R50, R53): the deadlines take the owed second, and the offer on the lowest seat whose deadline is
0 fails. -/
def execOfferDeadline (s : State) : Result :=
  .next <| s.whileOn fun s =>
    let s1 := if s.owes .offers then (s.settled .offers).tickOffers else s
    match s1.overdue with
    | d :: _ => s1.failDeadline d
    | [] => s

/-- LOCKOUT_END (R200). -/
def execLockoutEnd (s : State) : Result :=
  .next <| s.whileOn fun s => s.reach .lockout (decide (s.port.lockout = 1))

/-- BELL_PULSE_END (R80). -/
def execBellPulseEnd (output : Nat) (s : State) : Result :=
  .next <| s.whileOn fun s => s.reach (.bell output) (decide (s.bell output = 1))

/-! ### The hall alarm input -/

def State.setAlarm (s : State) (level : Bool) : State := { s with hall := { s.hall with alarm := level } }

/-- ALARM is added to every sitting that takes it, told, and the ALARM notice is raised (R77); the sittings are told
in ascending index (notes, assumption 41). -/
def State.assertAlarm (s : State) : State :=
  let taking := (List.range Config.sittings).filter s.takesAlarm
  (taking.foldl
    (fun s k => s.changeSitting k fun r => { r with holds := { r.holds with alarm := true } }) s).raise .alarm
      s.alarmSubject

/-- ALARM_ASSERT (R77). An assertion is a passing from not asserted: one that finds the input asserted is no event. -/
def execAlarmAssert (s : State) : Result :=
  .next (if s.hall.alarm then s
    else match s.power.power with
      | .on => (s.setAlarm true).assertAlarm
      | .starting => (s.setAlarm true).findAlarm
      | _ => s.setAlarm true)

/-- ALARM_RELEASE (R77). -/
def execAlarmRelease (s : State) : Result := .next (s.setAlarm false)

end Sys2Proof.Machine
end

