-- ==== Sys2Proof/Machine/Lines.lean ====
section
/-!
DEFINITION. The desk line controller's shared operations: the choice of a slot's frame (R126–R129), the end of a
slot (R127, R128), the counts of a link record (R131, R132), the taking of an event (R134), and the seat map's
handling of a loss, a regain and a JOIN (R28–R30).
-/

namespace Sys2Proof.Machine

/-! ### The choice of a frame (R126, R129) -/

def Line.link (l : Line) (u : Nat) : LinkRecord := Table.read {} l.links u

/-- The addresses of a line above `p` in ascending order, wrapping, `p` itself last. -/
def addressesAbove (p : Nat) : List Nat := (List.range Config.units).map fun i => (p + 1 + i) % Config.units

/-- The first known unit above the ring pointer, wrapping (R126). -/
def Line.nextInRing (l : Line) : Option Nat :=
  (addressesAbove l.ringPointer).find? fun u => decide ((l.link u).state ≠ .unknown)

/-- The first UNKNOWN address from the probe pointer upward, wrapping (R129). -/
def Line.nextProbe (l : Line) : Option Nat :=
  ((List.range Config.units).map fun i => (l.probePointer + i) % Config.units).find?
    fun u => decide ((l.link u).state = .unknown)

/-- An entry addressed to a unit whose link is not UP (R126). -/
def Line.undeliverable (l : Line) (x : QEntry) : Bool :=
  decide (x.unit ≠ Config.allUnits) && decide ((l.link x.unit).state ≠ .up)

/-- The head check (R126, step 1; R139). -/
def State.headCheck (s : State) (z : Nat) : State :=
  s.leaveQueue z ((s.line z).queue.dropWhile (s.line z).undeliverable)

/-- The line with a probe begun at address `u` (R129). -/
def Line.probe (l : Line) (u : Nat) : Line :=
  { l with probePointer := (u + 1) % Config.units, abandoned := false,
           slot := .sending { unit := u, body := .poll true, taken := (l.link u).lastTaken, fromQueue := false } }

/-- The line sending its queue head (R128); a broadcast carries the taken-none marker. -/
def Line.sendHead (l : Line) (x : QEntry) (rest : List QEntry) : Line :=
  { l with queue := { x with inSlot := true, replaced := false } :: rest, abandoned := false,
           slot := .sending { unit := x.unit, body := .msg x.msg,
                              taken := if x.unit = Config.allUnits then none else (l.link x.unit).lastTaken,
                              fromQueue := true } }

/-- The line sending a ring POLL to unit `u`, or a RESYNC where a JOIN is awaited (R126, R132). -/
def Line.poll (l : Line) (u : Nat) : Line :=
  { l with ringPointer := u, abandoned := false,
           slot := .sending { unit := u, body := if (l.link u).joinAwaited then .msg .resync else .poll false,
                              taken := (l.link u).lastTaken, fromQueue := false } }

/-- The frame of a slot is chosen, first match applying, on a line whose slot count has risen (R126, steps 2 to 5). -/
def Line.choose (l : Line) : Option Line :=
  let probe := if l.slotCount % 16 = 0 then l.nextProbe else none
  match probe with
  | some u => some (l.probe u)
  | none =>
    match l.queue with
    | x :: rest => some (l.sendHead x rest)
    | [] =>
      match l.nextInRing with
      | some u => some (l.poll u)
      | none => l.nextProbe.map l.probe

/-- A slot begins on an idle line; a line with nothing to send stays idle, its slot count unrisen (R126). -/
def State.startSlot (s : State) (z : Nat) : State :=
  if z < Config.zones && decide ((s.line z).slot = .idle) then
    let s1 := s.headCheck z
    match Line.choose { s1.line z with slotCount := (s1.line z).slotCount + 1 } with
    | some l => s1.setLine z l
    | none => s1
  else s

/-! ### The end of a frame and of a slot (R127, R128) -/

/-- The OFFER frame of a desk has been sent for the first time: the offer is SENT with its deadline (R49, R128). -/
def sentOffer (d : Nat) (o : Offer) : Offer :=
  if o.seat = d && decide (o.stage = .waiting) then { o with stage := .sent Config.offerSeconds } else o

/-- The frame's closing mark has been sent (R127, R128). -/
def State.endFrame (s : State) (z : Nat) (f : Frame) : State :=
  let l := s.line z
  if f.unit = Config.allUnits then (s.setSlot z .idle).leaveQueue z (l.queue.filter fun x => !x.inSlot)
  else
    let first := l.queue.any fun x => x.inSlot && isOffer x.msg && !x.transmitted
    let s1 := s.setLine z { l with
      slot := .window f, queue := l.queue.map fun x => if x.inSlot then { x with transmitted := true } else x }
    if first then s1.setOffers (s1.placement.offers.map (sentOffer (seatOf z f.unit))) else s1

/-- An entry that is in no slot. -/
def unslotted (x : QEntry) : QEntry := { x with inSlot := false, replaced := false }

/-- A good answer ends the slot: the entry sent leaves the queue, but for a CLOCK replaced during its frame (R127,
R128, R137). -/
def State.endGood (s : State) (z : Nat) : State :=
  let l := s.line z
  (s.setSlot z .idle).leaveQueue z ((l.queue.filter fun x => !x.inSlot || x.replaced).map unslotted)

/-- The window closes without a good answer: the entry sent stays in the queue (R128). -/
def State.endMiss (s : State) (z : Nat) : State :=
  s.setLine z { s.line z with slot := .idle, queue := (s.line z).queue.map unslotted }

def isProbe (f : Frame) : Bool :=
  match f.body with
  | .poll p => p
  | .msg _ => false

/-- The frame whose answer window is open, where it was addressed to unit `u` (R125, R127). -/
def State.windowFor (s : State) (z u : Nat) : Option Frame :=
  match (s.line z).slot with
  | .window f => if f.unit = u then some f else none
  | _ => none

/-! ### Losses and regains -/

/-- The subject naming a unit: its seat or its tray. -/
def unitSubject (z u : Nat) : Subject := if isDesk u then .seat (seatOf z u) else .tray (trayOf z u)

/-- The candidate of a lost HELD or OCCUPIED seat: the release, the reseat queue, the notice (R28). -/
def State.loseCandidate (s : State) (d slot : Nat) (sat : Bool) : State :=
  let s1 := (s.requestRelease d).appendReseat { slot := slot, former := some d, excluded := none }
  let s2 := if sat then s1.displace slot else s1
  s2.raise .displaced (s2.candidateSubject slot)

/-- The seat map acts on a seat's loss of link by its tenure (R28). -/
def State.loseSeat (s : State) (d : Nat) : State :=
  let s1 := s.setSeat d { s.seat d with link := .down }
  match (s.seat d).tenure with
  | .empty => s1
  | .offered _ => (match s.offerOn? d with
    | some o => s1.failOffer o false
    | none => s1)
  | .held p => s1.loseCandidate d p false
  | .occupied p => s1.loseCandidate d p true
  | .vacated _ _ => s1

/-- The unit goes DOWN (R131). -/
def State.goDown (s : State) (z u : Nat) : State :=
  let s1 := (s.setLinkRecord z u { s.linkRecord z u with state := .down, misses := 0, goods := 0, joinAwaited := false }).raise
    .deskLost (unitSubject z u)
  if isDesk u then s1.loseSeat (seatOf z u) else s1

/-- A miss is counted (R131, R132). -/
def State.countMiss (s : State) (z u : Nat) : State :=
  let r := s.linkRecord z u
  match r.state with
  | .unknown => s
  | .down => s.setLinkRecord z u { r with goods := 0 }
  | .up =>
    if s.settings.working.lossLimit ≤ r.misses + 1 then s.goDown z u
    else s.setLinkRecord z u { r with misses := r.misses + 1 }

/-- The seat map takes a regain: the seat may become usable (R29, R58). -/
def State.regainSeat (s : State) (d : Nat) : State := (s.setSeat d { s.seat d with link := .up }).retryStranded d

/-- A RESYNC is handed to the unit's queue, which holds at most one for it (R132, R136). -/
def State.handResync (s : State) (z u : Nat) : State :=
  if (s.line z).queue.any (resyncTo u) then s else s.hand z u true .resync

/-- The unit goes UP (R132). -/
def State.goUp (s : State) (z u : Nat) : State :=
  let s1 := (s.setLinkRecord z u { s.linkRecord z u with state := .up, misses := 0, goods := 0, joinAwaited := true }).raise
    .deskRegained (unitSubject z u)
  (if isDesk u then s1.regainSeat (seatOf z u) else s1).handResync z u

/-- A good answer is counted (R131, R132). -/
def State.countGood (s : State) (z u : Nat) : State :=
  let r := s.linkRecord z u
  match r.state with
  | .unknown => s
  | .up => s.setLinkRecord z u { r with misses := 0 }
  | .down =>
    if s.settings.working.regainLimit ≤ r.goods + 1 then s.goUp z u
    else s.setLinkRecord z u { r with goods := r.goods + 1 }

/-! ### Answers -/

/-- A good answer of unit `u` in its window, where `body` acts on what it carries unless the slot was a probe; an
answer outside a window of that unit is discarded (R127, R129). The entry sent leaves, and a full queue takes the
waiting OFFERs again, before the event is routed (DESIGN CHOICE: the rules give no order; notes, assumption 48). -/
def State.answer (s : State) (z u : Nat) (body : State → State) : State :=
  match s.windowFor z u with
  | none => s
  | some f => if isProbe f then s.endGood z else body (s.endGood z)

/-- An event with its number is counted for the link and tested against the last taken number; a new event of an UP
unit whose JOIN is not awaited is taken by `body` (R134). -/
def State.takeEvent (s : State) (z u : Nat) (n : Bool) (body : State → State) : State :=
  s.answer z u fun s =>
    let r := s.linkRecord z u
    let s1 := s.countGood z u
    if r.state = .up && !r.joinAwaited && decide (r.lastTaken ≠ some n) then
      body (s1.setLinkRecord z u { s1.linkRecord z u with lastTaken := some n })
    else s1

/-- A desk's event is routed with its seat; the same kind from a tray is discarded (R135). -/
def State.deskEvent (s : State) (z u : Nat) (n : Bool) (body : Nat → State → State) : State :=
  s.takeEvent z u n fun s => if isDesk u then body (seatOf z u) s else s

/-! ### JOIN (R30, R133) -/

/-- Shows a desk its candidate: STATE, then PHASE of the candidate's sitting (R30, R52). -/
def State.showCandidate (s : State) (d slot : Nat) (shown : Nat → Nat → Shown) : State :=
  match s.entry? slot with
  | some e =>
    (s.showSeat d (shown e.number e.sitting)).hand (zoneOf d) (deskOf d) true (.phase (s.phaseMsg e.sitting))
  | none => s

/-- The seat map takes a JOIN of a desk (R30). -/
def State.joinSeat (s : State) (d : Nat) (caps : CapSet) : State :=
  let s1 := s.setSeat d { s.seat d with caps := caps }
  match (s.seat d).tenure with
  | .empty => (s1.showSeat d (if (s.seat d).disabled then .disabled else .empty)).retryStranded d
  | .offered _ => (match s.offerOn? d with
    | some o => (s1.failOffer o false).showSeat d .empty
    | none => s1)
  | .held p => s1.showCandidate d p .held
  | .occupied p => (s1.showCandidate d p .occupied).queueClock p true
  | .vacated _ t => s1.showSeat d (.vacated t)

/-- A JOIN is delivered; a RESYNC still queued to the unit leaves the queue first (R133; notes, assumptions 11 and
53). -/
def State.deliverJoin (s : State) (z u : Nat) (caps : CapSet) : State :=
  let s1 := s.removeQueued z (resyncTo u)
  if isDesk u then s1.joinSeat (seatOf z u) caps else s1.showTray (trayOf z u)

/-- The kind of a unit follows from its address (R125). -/
def kindOf (u : Nat) : UnitKind := if isDesk u then .desk else .tray

/-- A probe is answered with a JOIN of the address's kind: the address goes from UNKNOWN to UP (R129, R133). -/
def State.joinUnknown (s : State) (z u : Nat) (caps : CapSet) : State :=
  let s1 := s.setLinkRecord z u { state := .up }
  let s2 := if isDesk u then s1.setSeat (seatOf z u) { s1.seat (seatOf z u) with link := .up } else s1
  s2.deliverJoin z u caps

/-- A known UP unit's JOIN (R133). -/
def State.joinKnown (s : State) (z u : Nat) (caps : CapSet) : State :=
  let s1 := s.countGood z u
  (s1.setLinkRecord z u { s1.linkRecord z u with joinAwaited := false, lastTaken := none }).deliverJoin z u caps

/-- A JOIN in a good answer (R129, R133). -/
def State.takeJoin (s : State) (z u : Nat) (kind : UnitKind) (caps : CapSet) : State :=
  match s.windowFor z u with
  | none => s
  | some f =>
    let s1 := s.endGood z
    match (s1.linkRecord z u).state with
    | .unknown => if isProbe f && decide (kind = kindOf u) then s1.joinUnknown z u caps else s1
    | .up => if isProbe f then s1 else s1.joinKnown z u caps
    | .down => if isProbe f then s1 else s1.countGood z u

end Sys2Proof.Machine
end

