-- ==== Sys2Proof/Machine/LineEvents.lean ====
section
/-!
DEFINITION. The commands of the desk lines: the steps of a slot (R126–R128), the answers of units (R127, R133), and
the events they carry, as the candidate timer, the placement unit and the custody tracker take them (R51, R52, R53,
R88–R92, R95, R96, R103, R109).
-/

namespace Sys2Proof.Machine

/-! ### Slots -/

/-- SLOT_START (R126). -/
def execSlotStart (z : Nat) (s : State) : Result := .next <| s.whileOn fun s => s.startSlot z

/-- FRAME_SENT (R128); with no frame being sent there is no such event. -/
def execFrameSent (z : Nat) (s : State) : Result :=
  .next <| s.whileOn fun s =>
    match (s.line z).slot with
    | .sending f => s.endFrame z f
    | _ => s

/-- The window closes without a good answer, and a slot that was no probe counts a miss (R127, R129). -/
def State.closeWindow (s : State) (z : Nat) (f : Frame) : State :=
  if isProbe f then s.endMiss z else (s.endMiss z).countMiss z f.unit

/-- ANSWER_WINDOW_CLOSE (R127). -/
def execAnswerWindowClose (z : Nat) (s : State) : Result :=
  .next <| s.whileOn fun s =>
    match (s.line z).slot with
    | .window f => s.closeWindow z f
    | _ => s

/-- QUIET (R127). -/
def execQuiet (z u : Nat) (s : State) : Result :=
  .next <| s.whileOn fun s => s.answer z u fun s => s.countGood z u

/-- JOIN (R133). -/
def execJoin (z u : Nat) (kind : UnitKind) (caps : CapSet) (s : State) : Result :=
  .next <| s.whileOn fun s => s.takeJoin z u kind caps

/-- The window's close brings the unit DOWN (R131). -/
def State.losesUnit (s : State) (z : Nat) (f : Frame) : Bool :=
  let r := s.linkRecord z f.unit
  !isProbe f && decide (r.state = .up) && decide (s.settings.working.lossLimit ≤ r.misses + 1)

/-- LINK_LOSS (R131): the window's close at which the unit's misses reach the loss limit. -/
def execLinkLoss (z : Nat) (s : State) : Result :=
  .next <| s.whileOn fun s =>
    match (s.line z).slot with
    | .window f => if s.losesUnit z f then s.closeWindow z f else s
    | _ => s

/-- A good answer brings the unit UP (R132). -/
def State.regainsUnit (s : State) (z u : Nat) : Bool :=
  match s.windowFor z u with
  | some f =>
    let r := s.linkRecord z u
    !isProbe f && decide (r.state = .down) && decide (s.settings.working.regainLimit ≤ r.goods + 1)
  | none => false

/-- LINK_REGAIN (R132): the good answer at which a DOWN unit's good counter reaches the regain limit; what the answer
carries is not used. -/
def execLinkRegain (z u : Nat) (s : State) : Result :=
  .next <| s.whileOn fun s => if s.regainsUnit z u then s.answer z u fun s => s.countGood z u else s

/-! ### CHECKIN (R88, R89) -/

/-- The seat test of a check-in: the candidate's seat is `d`, HELD for EXPECTED and DISPLACED, OCCUPIED for PRESENT.
-/
def State.checkinSeat (s : State) (d : Nat) (e : Entry) : Bool :=
  decide (e.seat = some d) && (match e.presence, (s.seat d).tenure with
    | .expected, .held _ | .displaced, .held _ | .present, .occupied _ => true
    | _, _ => false)

/-- The tag index refuses a tag (R17). -/
def State.tagRefused (s : State) (t : Nat) : Bool := badTag t || (s.slotOfTag? t).isSome

/-- The verdict on a CHECKIN: the first test that fails, or ACCEPTED (R88). -/
def State.judgeCheckin (s : State) (d : Nat) (e : Entry) (t : Nat) : DeskVerdict :=
  if e.presence = .absent || e.presence = .finished || e.clock = .ended then .tooLate
  else if (s.sitting e.sitting).phase = .defined then .tooEarly
  else if !s.checkinSeat d e then .notYourSeat
  else if e.presence = .expected && s.tagRefused t then .tagInUse
  else if e.presence ≠ .expected && e.tag ≠ some t then .tagMismatch
  else .accepted

/-- The tag index takes a tag for a slot, and the entry takes it with custody ISSUED (R17, R89). -/
def State.issueTag (s : State) (slot t : Nat) : State :=
  ({ s with roster := { s.roster with tags := s.roster.tags ++ [(t, slot)] } } : State).modEntry slot
    fun e => { e with tag := some t, custody := .issued }

/-- An accepted CHECKIN, by presence (R89). -/
def State.acceptCheckin (s : State) (d : Nat) (e : Entry) (t : Nat) : State :=
  match e.presence with
  | .expected =>
    ((((s.issueTag e.slot t).requestOccupy d).modEntry e.slot fun e => { e with presence := .present })).count e.slot
      addPresent
  | .displaced =>
    (s.requestOccupy d).modEntry e.slot fun e => { e with presence := .present, displacedCause := false }
  | _ => s

/-- Queues the VERDICT that answers an event (R103). -/
def State.answerDesk (s : State) (d : Nat) (event : EventKind) (number : Nat) (v : DeskVerdict) : State :=
  s.hand (zoneOf d) (deskOf d) true (.verdict event number v)

/-- A CHECKIN from the desk of seat `d` (R88, R89). -/
def State.checkin (s : State) (d number t : Nat) : State :=
  match s.byNumber? number with
  | none => s.answerDesk d .checkin number .notYourSeat
  | some e =>
    match s.judgeCheckin d e t with
    | .accepted => ((s.acceptCheckin d e t).answerDesk d .checkin number .accepted).queueClock e.slot true
    | v => s.answerDesk d .checkin number v

/-- CHECKIN (R88, R89, R134). -/
def execCheckin (z u : Nat) (n : Bool) (number tag : Nat) (s : State) : Result :=
  .next <| s.whileOn fun s => s.deskEvent z u n fun d s => s.checkin d number tag

/-! ### HANDIN and REST (R91, R92, R95, R96) -/

/-- The desk's seat is the candidate's, OCCUPIED or VACATED (R91, R95). -/
def State.sitsAt (s : State) (d : Nat) (e : Entry) : Bool :=
  match (s.seat d).tenure with
  | .occupied p | .vacated p _ => decide (p = e.slot)
  | _ => false

def beforeWriting : Phase → Bool
  | .opened | .reading => true
  | _ => false

/-- The verdict on a HANDIN (R91). -/
def State.judgeHandin (s : State) (d : Nat) (e : Entry) : DeskVerdict :=
  let r := s.sitting e.sitting
  if !s.sitsAt d e then .notYourSeat
  else if e.clock = .ended then .alreadyEnded
  else if isHeld r.holds then .held
  else if beforeWriting r.phase then .reading
  else if r.elapsed < r.defn.earlyBar then .earlyBar
  else if 0 < e.remaining && decide (e.remaining ≤ r.defn.lastBar) then .lastBar
  else .accepted

/-- A HANDIN from the desk of seat `d` (R91, R92). -/
def State.handin (s : State) (d number : Nat) : State :=
  match s.byNumber? number with
  | none => s.answerDesk d .handin number .notYourSeat
  | some e =>
    match s.judgeHandin d e with
    | .accepted => ((s.endPresent e.slot).answerDesk d .handin number .accepted).queueClock e.slot true
    | v => s.answerDesk d .handin number v

/-- HANDIN (R91, R92, R134). -/
def execHandin (z u : Nat) (n : Bool) (number : Nat) (s : State) : Result :=
  .next <| s.whileOn fun s => s.deskEvent z u n fun d s => s.handin d number

/-- The verdict on a REST begin (R95). -/
def State.judgeRest (s : State) (d : Nat) (e : Entry) : DeskVerdict :=
  let r := s.sitting e.sitting
  if !s.sitsAt d e then .notYourSeat
  else if e.clock = .ended then .alreadyEnded
  else if isHeld r.holds then .held
  else if beforeWriting r.phase then .reading
  else if e.restUsed = e.restAllowance then .noRestLeft
  else .accepted

/-- A REST begin from the desk of seat `d` (R95). -/
def State.restBegin (s : State) (d number : Nat) : State :=
  match s.byNumber? number with
  | none => s.answerDesk d .rest number .notYourSeat
  | some e =>
    match s.judgeRest d e with
    | .accepted =>
      if e.resting then s.answerDesk d .rest number .accepted
      else ((s.modEntry e.slot fun e => { e with resting := true }).answerDesk d .rest number .accepted).queueClock
        e.slot true
    | v => s.answerDesk d .rest number v

/-- REST begin (R95, R134). -/
def execRestBegin (z u : Nat) (n : Bool) (number : Nat) (s : State) : Result :=
  .next <| s.whileOn fun s => s.deskEvent z u n fun d s => s.restBegin d number

/-- The verdict on a REST end (R96). -/
def State.judgeRestEnd (s : State) (d : Nat) (e : Entry) : DeskVerdict :=
  if !s.sitsAt d e then .notYourSeat else if e.clock = .ended then .alreadyEnded else .accepted

/-- A REST end from the desk of seat `d` (R96). -/
def State.restEnd (s : State) (d number : Nat) : State :=
  match s.byNumber? number with
  | none => s.answerDesk d .rest number .notYourSeat
  | some e =>
    match s.judgeRestEnd d e with
    | .accepted =>
      if e.resting then
        ((s.modEntry e.slot fun e => { e with resting := false }).answerDesk d .rest number .accepted).queueClock
          e.slot true
      else s.answerDesk d .rest number .accepted
    | v => s.answerDesk d .rest number v

/-- REST end (R96, R134). -/
def execRestEnd (z u : Nat) (n : Bool) (number : Nat) (s : State) : Result :=
  .next <| s.whileOn fun s => s.deskEvent z u n fun d s => s.restEnd d number

/-- HELP (R103). -/
def execHelp (z u : Nat) (n : Bool) (s : State) : Result :=
  .next <| s.whileOn fun s => s.deskEvent z u n fun d s => s.raise .help (.seat d)

/-! ### OFFER_REPLY (R51–R53) -/

/-- The SENT offer on seat `d` whose candidate has a number (R51). -/
def State.matching (s : State) (d number : Nat) : Option Offer :=
  match s.offerOn? d with
  | some o => if isSent o.stage && decide (s.numberOf o.slot = some number) then some o else none
  | none => none

/-- A placed RUN offer is counted (R52). -/
def State.countPlaced (s : State) (o : Offer) : State :=
  match o.purpose, s.placement.run with
  | .run, some r => s.setRun (some { r with placed := r.placed + 1 })
  | _, _ => s

/-- A matching ACCEPT places the candidate (R52); the end of the offer removes an OFFER still queued (R139), and the
waiting OFFERs are handed again to a queue that was full before STATE and PHASE are queued (DESIGN CHOICE: R52 and
R139 give no order; notes, assumption 53). -/
def State.acceptOffer (s : State) (o : Offer) : State :=
  let s1 := ((s.dropOffer o.seat).requestPlace o.seat).removeOffer o.seat
  ((s1.showCandidate o.seat o.slot .held).countPlaced o).checkRun

/-- OFFER_REPLY, ACCEPT (R51, R52). -/
def execOfferReplyAccept (z u : Nat) (n : Bool) (number : Nat) (s : State) : Result :=
  .next <| s.whileOn fun s => s.deskEvent z u n fun d s =>
    match s.matching d number with
    | some o => s.acceptOffer o
    | none => s.withdrawOffer d number

/-- A matching REFUSE: the seat's capabilities are replaced, and the offer fails (R53). -/
def State.refuseOffer (s : State) (o : Offer) (caps : CapSet) : State :=
  (s.setSeat o.seat { s.seat o.seat with caps := caps }).failOffer o false

/-- OFFER_REPLY, REFUSE (R51, R53). -/
def execOfferReplyRefuse (z u : Nat) (n : Bool) (number : Nat) (caps : CapSet) (s : State) : Result :=
  .next <| s.whileOn fun s => s.deskEvent z u n fun d s =>
    match s.matching d number with
    | some o => s.refuseOffer o caps
    | none => s.withdrawOffer d number

/-! ### TAG_READ (R109) -/

/-- TAG_READ (R109–R112, R134); from a desk it is discarded (R135). -/
def execTagRead (z u : Nat) (n : Bool) (tag : Nat) (s : State) : Result :=
  .next <| s.whileOn fun s => s.takeEvent z u n fun s => if isDesk u then s else s.readTag (trayOf z u) tag

end Sys2Proof.Machine
end

