-- ==== Sys2Proof/Machine/Wire.lean ====
section
/-!
DEFINITION. The wire formats: the CRC-16, bit insertion and the check of a received frame (R123, R124), the octets
of the part's frames and the commands of its units' answers (R204), and the sheet and verdict messages (R144, R205).
-/

namespace Sys2Proof.Machine

/-! ### The check (R123, R144) -/

/-- One bit through the CRC-16 of x^16 + x^12 + x^5 + 1, the bits of an octet being taken least significant first, as
they are sent. -/
def crcBit (c : BitVec 16) (b : Bool) : BitVec 16 :=
  if c.getLsbD 0 != b then (c >>> 1) ^^^ 0x8408 else c >>> 1

/-- The bits of an octet in the order of transmission. -/
def octetBits (o : Octet) : List Bool := (List.range 8).map o.getLsbD

def crcOctet (c : BitVec 16) (o : Octet) : BitVec 16 := (octetBits o).foldl crcBit c

/-- The register after a list of octets, preset to all ones. -/
def crc (l : List Octet) : BitVec 16 := l.foldl crcOctet 0xFFFF

/-- A 16-bit value low octet first. -/
def lowFirst (c : BitVec 16) : List Octet := [c.truncate 8, (c >>> 8).truncate 8]

/-- The octets of a frame with its check, sent inverted (R123). -/
def withCheck (l : List Octet) : List Octet := l ++ lowFirst (~~~(crc l))

/-! ### Bit insertion and frames -/

/-- A 0 after every run of five 1s; `n` is the run so far (R123). -/
def stuff : Nat → List Bool → List Bool
  | _, [] => []
  | n, true :: rest => if n = 4 then true :: false :: stuff 0 rest else true :: stuff (n + 1) rest
  | _, false :: rest => false :: stuff 0 rest

/-- Removes each 0 that follows five 1s; none where six 1s follow one another, or where the frame ends on five 1s
(R124, DEDUCED: the closing mark's first 0 would be the one removed). -/
def unstuff : Nat → List Bool → Option (List Bool)
  | n, [] => if n = 5 then none else some []
  | n, true :: rest => if n = 5 then none else (unstuff (n + 1) rest).map (true :: ·)
  | n, false :: rest => if n = 5 then unstuff 0 rest else (unstuff 0 rest).map (false :: ·)

/-- The frame mark (R123). -/
def frameMark : List Bool := [false, true, true, true, true, true, true, false]

/-- The bits between the marks of a frame with these octets before its check. -/
def frameBits (l : List Octet) : List Bool := stuff 0 ((withCheck l).flatMap octetBits)

/-- A frame as it stands on the line. -/
def framed (l : List Octet) : List Bool := frameMark ++ frameBits l ++ frameMark

/-- The octet of eight bits, the first being the least significant. -/
def octetOf (l : List Bool) : Octet := BitVec.ofNat 8 (l.foldr (fun b n => 2 * n + (if b then 1 else 0)) 0)

/-- A whole number of octets; none where bits are left over. `n` bounds the octets read. -/
def octetsOf : Nat → List Bool → Option (List Octet)
  | _, [] => some []
  | 0, _ => none
  | n + 1, l => if l.length < 8 then none else (octetsOf n (l.drop 8)).map (octetOf (l.take 8) :: ·)

/-- The residue of a good frame (R124). -/
def residue : BitVec 16 := 0xF0B8

/-- The octets of a valid frame, its check removed; none where R124 discards it. -/
def receive (bits : List Bool) : Option (List Octet) :=
  match unstuff 0 bits with
  | none => none
  | some b =>
    match octetsOf 16 b with
    | none => none
    | some l => if 4 ≤ l.length && decide (crc l = residue) then some (l.take (l.length - 2)) else none

/-- The payload length of the kinds that units send (R204). -/
def answerLength : Nat → Option Nat
  | 0x10 => some 0
  | 0x11 => some 2
  | 0x12 => some 6
  | 0x13 => some 7
  | 0x14 => some 4
  | 0x15 => some 5
  | 0x16 => some 0
  | 0x17 => some 3
  | _ => none

/-- An answer of a unit: its address, kind code, event number and payload (R204). -/
structure Answer where
  address : Nat
  kind : Nat
  number : Bool
  payload : List Octet
  deriving DecidableEq, Repr

/-- The answer a valid frame carries; none for a kind units do not send or a payload that does not fit it (R124). -/
def answerOf (l : List Octet) : Option Answer :=
  match l with
  | address :: control :: payload =>
    let kind := control.toNat % 32
    if answerLength kind = some payload.length then
      some { address := address.toNat, kind := kind, number := control.getLsbD 5, payload := payload }
    else none
  | _ => none

/-- A value sent low octet first (R204, R205). -/
def valueOf (l : List Octet) : Nat := l.foldr (fun o n => 256 * n + o.toNat) 0

/-- Bits of a sent octet to which the spec gives no contents: free values of what the octet at offset `i` is of
(DESIGN CHOICE; notes, assumption 56). -/
def unnamedBits {α : Type} (content : α) (i : Nat) (mask : Octet) : Octet := Config.layoutOctet content i &&& mask

/-- A capability set in one octet, STEP_FREE in bit 0 (R204); bits 6 and 7 stand for no kind. -/
def capsOctet (c : CapSet) : Octet :=
  BitVec.ofNat 8 (bit c.stepFree 0 + bit c.power 1 + bit c.largeDisplay 2 + bit c.leftDesk 3 + bit c.edge 4
    + bit c.supervised 5) ||| unnamedBits c 0 0xC0

/-- The capability set of an octet; bits 6 and 7 stand for no kind (R204; notes, assumption 50). -/
def capsOf (o : Octet) : CapSet :=
  { stepFree := o.getLsbD 0, power := o.getLsbD 1, largeDisplay := o.getLsbD 2, leftDesk := o.getLsbD 3,
    edge := o.getLsbD 4, supervised := o.getLsbD 5 }

/-- The command an answer of a unit of line `z` stands for (R133–R135). Candidate numbers take four octets, tags
three, a capability set one (R204); the fields stand in the order in which the rules name them, which fills each
kind's length (DEDUCED; notes, assumption 50); of a JOIN the kind, which every unit sends, stands before the
capability set (DESIGN CHOICE: R140 names them in the other order and lays out neither; notes, assumption 59). The
codes of a unit's kind, of a reply and of a rest's begin or end are free values (notes, assumption 3). -/
def commandOf (z : Nat) (a : Answer) : Option Instr :=
  let o (i : Nat) : Octet := a.payload.getD i 0
  let field (i n : Nat) : Nat := valueOf ((a.payload.drop i).take n)
  match a.kind with
  | 0x10 => some (.quiet z a.address)
  | 0x11 => some (.join z a.address (Config.layoutValue UnitKind 0x11 (o 0)) (capsOf (o 1)))
  | 0x12 => some (if Config.layoutValue Bool 0x12 (o 0) then .offerReplyAccept z a.address a.number (field 1 4)
      else .offerReplyRefuse z a.address a.number (field 1 4) (capsOf (o 5)))
  | 0x13 => some (.checkin z a.address a.number (field 0 4) (field 4 3))
  | 0x14 => some (.handin z a.address a.number (field 0 4))
  | 0x15 => some (if Config.layoutValue Bool 0x15 (o 0) then .restBegin z a.address a.number (field 1 4)
      else .restEnd z a.address a.number (field 1 4))
  | 0x16 => some (.help z a.address a.number)
  | 0x17 => some (.tagRead z a.address a.number (field 0 3))
  | _ => none

/-- The command that the bits received between two frame marks on line `z` stand for; none where R124 discards them.
-/
def lineCommand (z : Nat) (bits : List Bool) : Option Instr :=
  ((receive bits).bind answerOf).bind (commandOf z)

/-! ### Frames from the part (R204) -/

def messageKind : Msg → Nat
  | .offer _ _ _ => 0x01
  | .withdraw _ => 0x02
  | .state _ => 0x03
  | .trayState _ _ _ => 0x03
  | .phase _ => 0x04
  | .clock _ => 0x05
  | .warn _ _ _ => 0x06
  | .verdict _ _ _ => 0x07
  | .trayVerdict _ _ _ _ => 0x08
  | .resync => 0x09

def bodyKind : Body → Nat
  | .poll _ => 0x00
  | .msg m => messageKind m

/-- The payload length of each kind from the part (R204). -/
def payloadLength : Nat → Nat
  | 0x00 => 1
  | 0x01 => 6
  | 0x02 => 4
  | 0x03 => 6
  | 0x04 => 10
  | 0x05 => 12
  | 0x06 => 7
  | 0x07 => 6
  | 0x08 => 6
  | _ => 0

/-- The control octet of a frame from the part: the kind, bit 5 clear, and in bit 6 the taken bit or in bit 7 the
taken-none marker (R134, R204). Beside the marker the taken bit is a free value: the spec gives it none (DESIGN
CHOICE; notes, assumption 56). -/
def controlOctet (f : Frame) : Octet :=
  match f.taken with
  | some b => BitVec.ofNat 8 (bodyKind f.body + bit b 6)
  | none => BitVec.ofNat 8 (bodyKind f.body + bit true 7) ||| unnamedBits f 1 0x40

def clockCode : ClockPhase → Nat
  | .waiting => 0
  | .running => 1
  | .ended => 2

/-- A value in `n` octets, low octet first. -/
def octets (n v : Nat) : List Octet := (List.range n).map (octetAt v)

/-- The CLOCK payload (R204); bits 5 to 7 of its clock octet have no contents. -/
def clockPayload (m : ClockMsg) : List Octet :=
  octets 4 m.number ++ octets 1 m.sitting
    ++ [BitVec.ofNat 8 (clockCode m.clock + bit m.resting 2 + bit m.displaced 3 + bit m.held 4)
      ||| unnamedBits m 5 0xE0]
    ++ octets 2 m.budget ++ octets 2 m.used ++ octets 2 m.restLeft

/-- One octet whose code the spec does not give: a free value of what it stands for (Config). -/
def codeOctet {α : Type} (content : α) : List Octet := [Config.layoutOctet content 0]

/-- What a desk's STATE shows, in six octets: the tenure, then the candidate number and the sitting, or the awaiting
tag; octets with no contents are free values. -/
def shownPayload (x : Shown) : List Octet :=
  match x with
  | .held n k | .occupied n k => codeOctet x ++ octets 4 n ++ octets 1 k
  | .vacated t => codeOctet x ++ octets 3 t ++ (List.range 2).map fun i => Config.layoutOctet x (4 + i)
  | .empty | .disabled => (List.range 6).map (Config.layoutOctet x)

/-- The payload of a message. The spec lays out CLOCK, and that a tray's STATE sends its last three octets 0.
Elsewhere the fields stand in the order of R140, which fills each kind's length (DEDUCED; notes, assumption 50);
codes, and the contents of PHASE after its sitting, are free values (notes, assumption 3). -/
def messagePayload (m : Msg) : List Octet :=
  match m with
  | .offer n k needs => octets 4 n ++ octets 1 k ++ [capsOctet needs]
  | .withdraw n => octets 4 n
  | .state x => shownPayload x
  | .trayState x k c =>
    codeOctet x ++ (match k with
      | some k => octets 1 k
      | none => codeOctet k) ++ octets 1 c ++ [0, 0, 0]
  | .phase m => octets 1 m.sitting ++ (List.range 9).map fun i => Config.layoutOctet m (1 + i)
  | .clock m => clockPayload m
  | .warn n mark left => octets 4 n ++ octets 1 mark ++ octets 2 left
  | .verdict event n v => codeOctet event ++ octets 4 n ++ codeOctet v
  | .trayVerdict t v x c => octets 3 t ++ codeOctet v ++ codeOctet x ++ octets 1 c
  | .resync => []

/-- The payload of a frame from the part (R140, R204). -/
def payloadOf (b : Body) : List Octet :=
  match b with
  | .poll p => codeOctet p
  | .msg m => messagePayload m

/-- The octets of a frame before its check: address, control, payload (R204). -/
def frameOctets (f : Frame) : List Octet :=
  BitVec.ofNat 8 f.unit :: controlOctet f :: payloadOf f.body

/-- The abandon pattern: ten 1s, the fewest the rule gives; the idle 1s that follow make it longer (R123). -/
def abandonPattern : List Bool := List.replicate 10 true

/-- The first `n` bits of an idle line: continuous 1s (R123). -/
def idleBits (n : Nat) : List Bool := List.replicate n true

/-- What the line sends from the moment it came to stand as it does: the frame of the slot under way; nothing while an
answer window is open (R127); and between slots the idle 1s, in the first `n` bits at least, after the abandon pattern
where the last frame was given up partway (R123). -/
def Line.output (l : Line) (n : Nat) : List Bool :=
  match l.slot with
  | .sending f => framed (frameOctets f)
  | .window _ => []
  | .idle => (if l.abandoned then abandonPattern else []) ++ idleBits n

/-! ### The sheet port (R144, R205) -/

/-- The start octets of a sheet message and of a verdict message (R205). -/
def sheetStart : Octet := 0xA5
def verdictStart : Octet := 0x5A

/-- The levels of a start bit and of a stop bit (PRESUMED: R205 names the bits and not their levels; notes, assumption
52). -/
def startBit : Bool := false
def stopBit : Bool := true

/-- An octet on the sheet port: a start bit, eight data bits least significant first, and a stop bit (R205). -/
def serialBits (o : Octet) : List Bool := startBit :: octetBits o ++ [stopBit]

/-- The octet of ten bits of the sheet port; none where they do not begin and end as R205 says. -/
def serialOctet (l : List Bool) : Option Octet :=
  if l.length = 10 && l.head? == some startBit && l.getLast? == some stopBit then some (octetOf ((l.drop 1).take 8))
  else none

/-- The length of a sheet message after its start octet, for a row count (R144, R205). -/
def sheetLength (rowCount : Nat) : Nat := 7 + 5 * rowCount

/-- The fields of a sheet message: a field the message ended before delivering reads 0 (R148). -/
def sheetNumber (l : List Octet) : Nat := (l.getD 0 0).toNat

/-- The tag of a sheet message; 0 where the message ended before delivering it whole (R148). -/
def sheetTag (l : List Octet) : Nat := if l.length < 4 then 0 else valueOf ((l.drop 1).take 3)

def sheetRowCount (l : List Octet) : Nat := (l.getD 4 0).toNat

/-- Row `i` of a sheet message, counted from 0: five samples (R144). -/
def sheetRow (l : List Octet) (i : Nat) : List Nat := ((l.drop (5 + 5 * i)).take 5).map BitVec.toNat

/-- The rows a buffer stores, the first 120 at most (R147). -/
def storedRows (l : List Octet) : List (List Nat) :=
  (List.range (min Config.sheetRows (sheetRowCount l))).map (sheetRow l)

/-- The message is whole: the length its row count gives (R144). -/
def wholeSheet (l : List Octet) : Bool := decide (5 ≤ l.length) && decide (l.length = sheetLength (sheetRowCount l))

/-- The message ended short of its length by a gap (R144): also before its row count arrived. -/
def cutSheet (l : List Octet) : Bool := decide (l.length < 5) || decide (l.length < sheetLength (sheetRowCount l))

/-- The check of a sheet message matches (R144, R205). -/
def sheetCheckGood (l : List Octet) : Bool :=
  decide (l.drop (l.length - 2) = lowFirst (crc (l.take (l.length - 2))))

def verdictCode : SheetVerdict → Nat
  | .accepted => 0x00
  | .overrun => 0x01
  | .badCheck => 0x02
  | .wrongForm => 0x03
  | .tagUnreadable => 0x04
  | .noBatch => 0x05
  | .foreign => 0x06
  | .voided => 0x07
  | .repeated => 0x08

/-- The octets of a verdict message (R205). -/
def verdictOctets (r : SheetReply) : List Octet :=
  let body := octets 1 r.sheet ++ octets 3 r.tag ++ octets 1 (verdictCode r.verdict)
  [verdictStart] ++ body ++ lowFirst (crc body)

/-- A verdict message as it stands on the verdict output (R205). -/
def verdictBits (r : SheetReply) : List Bool := (verdictOctets r).flatMap serialBits

/-- The commands that the octets of the sheet input stand for, up to a gap: outside a message an octet that is not the
start octet is ignored; the start octet is SHEET_BEGIN, and after it the message ends at its length, or at the gap
(R144, R146). `n` bounds the octets read. -/
def sheetCommands : Nat → List Octet → List Instr
  | 0, _ => []
  | _, [] => []
  | n + 1, o :: rest =>
    let length := sheetLength (sheetRowCount rest)
    if o ≠ sheetStart then sheetCommands n rest
    else if 5 ≤ rest.length && decide (length ≤ rest.length) then
      .sheetBegin :: .sheetMessage (rest.take length) :: sheetCommands n (rest.drop length)
    else [.sheetBegin, .sheetGap rest]

end Sys2Proof.Machine
end

