-- ==== Sys2Proof/Machine/SheetEvents.lean ====
section
/-!
DEFINITION. The commands of the sheet port and the mark decoder (R144–R150, R159), and the close of a batch (R187).
-/

namespace Sys2Proof.Machine

/-! ### Reception -/

/-- The buffer a new sheet takes: the FREE one, and of two FREE ones the one freed first (R146), a start counting as
the freeing of both, buffer 0 first (DESIGN CHOICE: notes, assumption 13). -/
def State.bufferForSheet (s : State) : Option Nat :=
  match (List.range 2).filter fun i => (s.buffer i).state == .free with
  | [] => none
  | [i] => some i
  | i :: _ => some (s.sheet.freed.headD i)

/-- SHEET_BEGIN (R146): outside a message the start octet A5h, `sheetStart`, begins a sheet. -/
def execSheetBegin (s : State) : Result :=
  .next <| s.whileOn fun s =>
    if s.sheet.ignoring || s.sheet.receiving.isSome then s
    else match s.bufferForSheet with
      | none => { s with sheet := { s.sheet with receiving := some .overrun } }
      | some i =>
        let s1 := s.setBuffer i { state := .receiving }
        { s1 with sheet := { s1.sheet with receiving := some (.buffer i), freed := s1.sheet.freed.filter (· != i) } }

/-- The verdict of the reception tests, for a sheet in a buffer whose message is whole (R147). -/
def receptionVerdict (l : List Octet) : Option SheetVerdict :=
  if !sheetCheckGood l then some .badCheck
  else if sheetRowCount l = 0 || decide (Config.sheetRows < sheetRowCount l) then some .wrongForm
  else if badTag (sheetTag l) then some .tagUnreadable
  else none

/-- A buffer with a sheet that has passed its tests (R145, R147). -/
def filledBuffer (l : List Octet) : Buffer :=
  { state := .waiting, sheet := sheetNumber l, tag := sheetTag l, rowCount := sheetRowCount l, rows := storedRows l }

/-- The sheet under way is decided by the port: its buffer, if it has one, becomes FREE (R147, R148). -/
def State.refuseSheet (s : State) (r : Receiving) (l : List Octet) (v : SheetVerdict) : State :=
  let s1 := { s with sheet := { s.sheet with receiving := none } }
  let s2 := match r with
    | .buffer i => s1.freeBuffer i
    | .overrun => s1
  s2.decideSheet (sheetNumber l) (sheetTag l) v

/-- The sheet in buffer `i` waits for the decoder (R145, R147). -/
def State.keepSheet (s : State) (i : Nat) (l : List Octet) : State :=
  let s1 := s.setBuffer i (filledBuffer l)
  { s1 with sheet := { s1.sheet with receiving := none, filled := s1.sheet.filled ++ [i] } }

/-- SHEET_MESSAGE (R147): the message under way ends at its length. Octets that do not reach that length end no
message. -/
def execSheetMessage (octets : List Octet) (s : State) : Result :=
  .next <| s.whileOn fun s =>
    if !wholeSheet octets then s
    else match s.sheet.receiving with
      | none => s
      | some .overrun => s.refuseSheet .overrun octets .overrun
      | some (.buffer i) =>
        match receptionVerdict octets with
        | some v => s.refuseSheet (.buffer i) octets v
        | none => s.keepSheet i octets

/-- SHEET_GAP (R144, R147): a gap ends the message under way short of its length. -/
def execSheetGap (octets : List Octet) (s : State) : Result :=
  .next <| s.whileOn fun s =>
    if !cutSheet octets then s
    else match s.sheet.receiving with
      | none => s
      | some .overrun => s.refuseSheet .overrun octets .overrun
      | some (.buffer i) => s.refuseSheet (.buffer i) octets .badCheck

/-- SHEET_INPUT_GAP_SEEN (R159). -/
def execSheetInputGapSeen (s : State) : Result :=
  .next <| s.whileOn fun s => { s with sheet := { s.sheet with ignoring := false } }

/-! ### The decoder and the verdict output -/

/-- DECODER_TAKE (R149). -/
def execDecoderTake (s : State) : Result := .next (s.whileOn State.decoderStep)

/-- SHEET_HANDOVER (R150). -/
def execSheetHandover (s : State) : Result :=
  .next <| s.whileOn fun s =>
    match s.sheet.job with
    | some job => s.handOver job
    | none => s

/-- SHEET_VERDICT_SEND (R148). -/
def execSheetVerdictSend (s : State) : Result :=
  .next <| s.whileOn fun s =>
    match s.sheet.replies with
    | r :: rest => { s with sheet := { s.sheet with sent := some r, replies := rest } }
    | [] => s

/-- BATCH_CLOSE (R187): the event that decides the last owed sheet's verdict, or the close itself where none is owed.
-/
def execBatchClose (s : State) : Result :=
  .next <| s.whileOn fun s =>
    if s.scoring.batch.state = .closing then
      if s.scoring.batch.owed = [] then s.closeBatch
      else if s.decoderEvent.scoring.batch.state = .none then s.decoderEvent
      else s
    else s

end Sys2Proof.Machine
end

