-- ==== Sys2Proof/Machine/StartEvents.lean ====
section
/-!
DEFINITION. The commands of the supplies, the RESETN input and start-up (R203). A command whose event the supplies
do not admit leaves the part as it is.
-/

namespace Sys2Proof.Machine

/-- COLD_START: the main supply appears after both supplies were lost (R203). The standby supply appears with it
(DESIGN CHOICE: no row of the table returns it; notes, assumption 51). -/
def execColdStart (s : State) : Result :=
  .next (match s.power.power with
    | .off => State.coldStart { s with power := { s.power with standby := true } }
    | _ => s)

/-- RESETN is held low and released, with the main supply present (R203). -/
def execResetn (s : State) : Result :=
  .next (match s.power.power with
    | .on | .starting => s.warmStart .resetn
    | _ => s)

/-- MAIN_SUPPLY_LOSS: while the standby supply holds, only the hall time counter runs; with the standby supply lost
before it, both are gone. A write to the settings store is cut short (R202, R203). -/
def execMainSupplyLoss (s : State) : Result :=
  .next (match s.power.power with
    | .on | .starting =>
      { s with
        power := { s.power with power := if s.power.standby then .standby else .off }
        settings := { s.settings with
          imageGood := s.settings.imageGood && s.settings.writing.isNone, writing := none } }
    | _ => s)

/-- MAIN_SUPPLY_RETURN: a warm start, the standby supply having held (R203). -/
def execMainSupplyReturn (s : State) : Result :=
  .next (match s.power.power with
    | .standby => s.warmStart .supply
    | _ => s)

/-- STANDBY_SUPPLY_LOSS: with the main supply absent, both supplies are gone; with it present, the part runs on, and
keeps nothing through a later loss of the main supply (R203). -/
def execStandbySupplyLoss (s : State) : Result :=
  .next (match s.power.power with
    | .standby => { s with power := { s.power with power := .off, standby := false } }
    | .on | .starting => { s with power := { s.power with standby := false } }
    | .off => s)

/-- STARTUP_COMPLETE (R203). -/
def execStartupComplete (s : State) : Result :=
  .next (match s.power.power with
    | .starting => s.completeStart
    | _ => s)

end Sys2Proof.Machine
end

