-- ==== Sys2Proof/Machine/Dispatch.lean ====
section
/-!
DEFINITION. One arm per command.
-/

namespace Sys2Proof.Machine

def exec (i : Instr) (s : State) : Host.Outcome State Fault Refusal :=
  match i with
  | .areaWrite area offset data => Sys2Proof.Machine.execAreaWrite area offset data s
  | .enterLevel level passcode => Sys2Proof.Machine.execEnterLevel level passcode s
  | .leaveLevel => Sys2Proof.Machine.execLeaveLevel s
  | .setPasscode level value => Sys2Proof.Machine.execSetPasscode level value s
  | .setGrants groups => Sys2Proof.Machine.execSetGrants groups s
  | .readNotices => Sys2Proof.Machine.execReadNotices s
  | .saveSettings => Sys2Proof.Machine.execSaveSettings s
  | .settingsWriteEnd correct => Sys2Proof.Machine.execSettingsWriteEnd correct s
  | .reboot => Sys2Proof.Machine.execReboot s
  | .setLineLimits loss regain => Sys2Proof.Machine.execSetLineLimits loss regain s
  | .setSignal output cond => Sys2Proof.Machine.execSetSignal output cond s
  | .enrol k entries => Sys2Proof.Machine.execEnrol k entries s
  | .withdraw number => Sys2Proof.Machine.execWithdraw number s
  | .amend number needs allowance restAllowance => Sys2Proof.Machine.execAmend number needs allowance restAllowance s
  | .lookup name => Sys2Proof.Machine.execLookup name s
  | .list filter presence start => Sys2Proof.Machine.execList filter presence start s
  | .seatInfo name => Sys2Proof.Machine.execSeatInfo name s
  | .disableSeat d => Sys2Proof.Machine.execDisableSeat d s
  | .enableSeat d => Sys2Proof.Machine.execEnableSeat d s
  | .reserve zone side code owner => Sys2Proof.Machine.execReserve zone side code owner s
  | .unreserve zone side => Sys2Proof.Machine.execUnreserve zone side s
  | .allocate k => Sys2Proof.Machine.execAllocate k s
  | .abortAllocation k => Sys2Proof.Machine.execAbortAllocation k s
  | .move number target => Sys2Proof.Machine.execMove number target s
  | .restartLine z => Sys2Proof.Machine.execRestartLine z s
  | .defineSitting k params => Sys2Proof.Machine.execDefineSitting k params s
  | .openNow k => Sys2Proof.Machine.execOpenNow k s
  | .hold target => Sys2Proof.Machine.execHold target s
  | .resume target => Sys2Proof.Machine.execResume target s
  | .closeCollection k => Sys2Proof.Machine.execCloseCollection k s
  | .retireSitting k => Sys2Proof.Machine.execRetireSitting k s
  | .setHallTime value => Sys2Proof.Machine.execSetHallTime value s
  | .sittingInfo k => Sys2Proof.Machine.execSittingInfo k s
  | .adjustTime number adjustment => Sys2Proof.Machine.execAdjustTime number adjustment s
  | .endCandidate number => Sys2Proof.Machine.execEndCandidate number s
  | .voidScript number => Sys2Proof.Machine.execVoidScript number s
  | .trayInfo tray start => Sys2Proof.Machine.execTrayInfo tray start s
  | .clearTray tray => Sys2Proof.Machine.execClearTray tray s
  | .loadKey k chunk => Sys2Proof.Machine.execLoadKey k chunk s
  | .lockKey k => Sys2Proof.Machine.execLockKey k s
  | .amendKey k question kind => Sys2Proof.Machine.execAmendKey k question kind s
  | .readKey k part start => Sys2Proof.Machine.execReadKey k part start s
  | .setCalibration selector gain shift offset => Sys2Proof.Machine.execSetCalibration selector gain shift offset s
  | .setThresholds high low margin => Sys2Proof.Machine.execSetThresholds high low margin s
  | .beginBatch tray => Sys2Proof.Machine.execBeginBatch tray s
  | .endBatch => Sys2Proof.Machine.execEndBatch s
  | .batchClose => Sys2Proof.Machine.execBatchClose s
  | .readMark name part => Sys2Proof.Machine.execReadMark name part s
  | .resolveQuery number pairs => Sys2Proof.Machine.execResolveQuery number pairs s
  | .resolveDispute number choice => Sys2Proof.Machine.execResolveDispute number choice s
  | .manualMark number total => Sys2Proof.Machine.execManualMark number total s
  | .releaseResults k => Sys2Proof.Machine.execReleaseResults k s
  | .hallSecond later => Sys2Proof.Machine.execHallSecond later s
  | .openTime k => Sys2Proof.Machine.execOpenTime k s
  | .startTime k => Sys2Proof.Machine.execStartTime k s
  | .readingEnd k => Sys2Proof.Machine.execReadingEnd k s
  | .lateLimit k => Sys2Proof.Machine.execLateLimit k s
  | .writingEnd k => Sys2Proof.Machine.execWritingEnd k s
  | .clockExpiry number => Sys2Proof.Machine.execClockExpiry number s
  | .restExhausted number => Sys2Proof.Machine.execRestExhausted number s
  | .warningFire number => Sys2Proof.Machine.execWarningFire number s
  | .offerDeadline => Sys2Proof.Machine.execOfferDeadline s
  | .lockoutEnd => Sys2Proof.Machine.execLockoutEnd s
  | .bellPulseEnd output => Sys2Proof.Machine.execBellPulseEnd output s
  | .alarmAssert => Sys2Proof.Machine.execAlarmAssert s
  | .alarmRelease => Sys2Proof.Machine.execAlarmRelease s
  | .placementStep => Sys2Proof.Machine.execPlacementStep s
  | .walkVisit => Sys2Proof.Machine.execWalkVisit s
  | .slotStart z => Sys2Proof.Machine.execSlotStart z s
  | .frameSent z => Sys2Proof.Machine.execFrameSent z s
  | .answerWindowClose z => Sys2Proof.Machine.execAnswerWindowClose z s
  | .quiet z u => Sys2Proof.Machine.execQuiet z u s
  | .join z u kind caps => Sys2Proof.Machine.execJoin z u kind caps s
  | .checkin z u n number tag => Sys2Proof.Machine.execCheckin z u n number tag s
  | .handin z u n number => Sys2Proof.Machine.execHandin z u n number s
  | .restBegin z u n number => Sys2Proof.Machine.execRestBegin z u n number s
  | .restEnd z u n number => Sys2Proof.Machine.execRestEnd z u n number s
  | .help z u n => Sys2Proof.Machine.execHelp z u n s
  | .offerReplyAccept z u n number => Sys2Proof.Machine.execOfferReplyAccept z u n number s
  | .offerReplyRefuse z u n number caps => Sys2Proof.Machine.execOfferReplyRefuse z u n number caps s
  | .tagRead z u n tag => Sys2Proof.Machine.execTagRead z u n tag s
  | .linkLoss z => Sys2Proof.Machine.execLinkLoss z s
  | .linkRegain z u => Sys2Proof.Machine.execLinkRegain z u s
  | .sheetBegin => Sys2Proof.Machine.execSheetBegin s
  | .sheetMessage octets => Sys2Proof.Machine.execSheetMessage octets s
  | .sheetGap octets => Sys2Proof.Machine.execSheetGap octets s
  | .decoderTake => Sys2Proof.Machine.execDecoderTake s
  | .sheetHandover => Sys2Proof.Machine.execSheetHandover s
  | .sheetVerdictSend => Sys2Proof.Machine.execSheetVerdictSend s
  | .coldStart => Sys2Proof.Machine.execColdStart s
  | .resetn => Sys2Proof.Machine.execResetn s
  | .mainSupplyLoss => Sys2Proof.Machine.execMainSupplyLoss s
  | .mainSupplyReturn => Sys2Proof.Machine.execMainSupplyReturn s
  | .startupComplete => Sys2Proof.Machine.execStartupComplete s
  | .standbySupplyLoss => Sys2Proof.Machine.execStandbySupplyLoss s
  | .sheetInputGapSeen => Sys2Proof.Machine.execSheetInputGapSeen s

end Sys2Proof.Machine
end

