-- ==== Sys2Proof/Machine/Transactions.lean ====
section
/-!
DEFINITION. The transactions of the task port (R194, R206): what the first two octets select, the command a transaction
stands for, and what the part drives on the output while the host clocks it.
-/

namespace Sys2Proof.Machine

/-- The area that the first octet of a transaction selects, in its bits 0–1; bits 2–6 are not read (R206). -/
def areaOf (first : Octet) : Area :=
  match first.toNat % 4 with
  | 0 => .task
  | 1 => .param
  | 2 => .result
  | _ => .status

/-- The direction, in bit 7 of the first octet: 1 for read (R206). -/
def isRead (first : Octet) : Bool := first.getLsbD 7

/-- The command of a transaction with these octets from the host: a write is the AREA_WRITE of its data octets, a read
changes nothing, and fewer than two octets do nothing (R194). -/
def transactionCommand (octets : List Octet) : Option Instr :=
  match octets with
  | first :: offset :: data => if isRead first then none else some (.areaWrite (areaOf first) offset.toNat data)
  | _ => none

/-- Octet `i` of what the part drives on the output while the host sends `octets`: octet 0 of the status word, then
00h, then in a read the octets of the area from the offset on (R206). None where the part drives nothing (R203), and
from the third octet of a write, of which the spec says nothing (notes, assumption 22). -/
def State.outputOctet (s : State) (octets : List Octet) (i : Nat) : Option Octet :=
  match i with
  | 0 => s.readOctet .status 0
  | 1 => (s.readOctet .status 0).map fun _ => 0
  | j + 2 =>
    match octets with
    | first :: offset :: _ => if isRead first then s.readOctet (areaOf first) (offset.toNat + j) else none
    | _ => none

end Sys2Proof.Machine
end

