-- ==== Sys2Proof/Safety.lean ====
section
/-!
DEFINITION. The vocabulary of the statements: the parts of the state and what a command may change of them, the end of
a task, and the invariants every step keeps.
-/

namespace Sys2Proof.Machine

/-! ### Parts of the state -/

/-- The parts of the state. `identities` are the slots, numbers and sittings of the roster's entries; `seatLinks` and
`linkStates` the link states of the seats and of the link records. -/
inductive Part where
  | power | hallTime | alarm | owed
  | mailbox | access | notices
  | settings
  | identities | entries | tags
  | seatLinks | seats | extents
  | offers | reseats | run
  | sittings | bells
  | trays
  | linkStates | lines
  | sheet
  | keys | walks | batch
  | pending
  deriving DecidableEq, Repr

/-- What names an entry: its slot, its candidate number and its sitting (R1, R3). -/
def identity (e : Entry) : Nat × Nat × Nat := (e.slot, e.number, e.sitting)

/-- A part is the same in two states. -/
def same (p : Part) (s t : State) : Prop :=
  match p with
  | .power => t.power = s.power
  | .hallTime => t.hall.time = s.hall.time ∧ t.hall.timeSet = s.hall.timeSet
  | .alarm => t.hall.alarm = s.hall.alarm
  | .owed => t.hall.owed = s.hall.owed
  | .mailbox => t.port.running = s.port.running ∧ t.port.param = s.port.param ∧ t.port.result = s.port.result
      ∧ t.port.ignoredWrite = s.port.ignoredWrite
  | .access => t.port.level = s.port.level ∧ t.port.wrongEntries = s.port.wrongEntries
      ∧ t.port.lockout = s.port.lockout
  | .notices => t.port.notices = s.port.notices
  | .settings => t.settings = s.settings
  | .identities => t.roster.entries.map identity = s.roster.entries.map identity
  | .entries => t.roster.entries = s.roster.entries
  | .tags => t.roster.tags = s.roster.tags
  | .seatLinks => ∀ d, (t.seat d).link = (s.seat d).link
  | .seats => t.seatMap.seats = s.seatMap.seats
  | .extents => t.seatMap.extents = s.seatMap.extents
  | .offers => t.placement.offers = s.placement.offers
  | .reseats => t.placement.reseats = s.placement.reseats
  | .run => t.placement.run = s.placement.run
  | .sittings => t.control.sittings = s.control.sittings
  | .bells => t.control.bells = s.control.bells
  | .trays => t.trays = s.trays
  | .linkStates => ∀ z u, (t.linkRecord z u).state = (s.linkRecord z u).state
  | .lines => t.lines = s.lines
  | .sheet => t.sheet = s.sheet
  | .keys => t.scoring.keys = s.scoring.keys
  | .walks => t.scoring.walkQueue = s.scoring.walkQueue ∧ t.scoring.walk = s.scoring.walk
  | .batch => t.scoring.batch = s.scoring.batch
  | .pending => t.pending = s.pending

/-- Every part but those listed is the same. -/
structure OnlyChanges (bs : List Part) (s t : State) : Prop where
  rest : ∀ p, p ∉ bs → same p s t

/-! ### What a command may change -/

/-- A message handed to a line, with the notice of a message dropped (R136–R138). -/
def tellingParts : List Part := [.lines, .notices]

/-- The end of an offer, of a tenure, or of a need for a seat (R53, R55, R26). -/
def placementParts : List Part := [.entries, .seats, .offers, .reseats, .run, .sittings, .lines, .notices]

/-- The events of a candidate clock and of a sitting's phase (R65–R70, R84–R101). -/
def clockParts : List Part := .bells :: placementParts

/-- The close of a batch with the result of END_BATCH (R187). -/
def batchParts : List Part := [.mailbox, .notices, .lines, .trays, .batch]

/-- The verdict on a sheet and the storing of its read (R148, R180–R187). -/
def sheetParts : List Part := [.sheet, .entries, .sittings] ++ batchParts

/-- An answer of a unit: its slot, its link record, and what a regain brings (R127, R131, R132). -/
def answerParts : List Part := [.lines, .linkStates, .notices, .seats, .seatLinks, .reseats]

/-- The parts a start does not keep: all but the alarm input and the commands that wait (R203). -/
def startParts : List Part :=
  [.power, .hallTime, .owed, .mailbox, .access, .notices, .settings, .identities, .entries, .tags, .seatLinks,
    .seats, .extents, .offers, .reseats, .run, .sittings, .bells, .trays, .linkStates, .lines, .sheet, .keys, .walks,
    .batch]

/-- The parts a warm start changes: the keys, the tag index, the extents and the identities stay, and hall time. -/
def warmParts : List Part :=
  [.power, .owed, .mailbox, .access, .notices, .settings, .entries, .seatLinks, .seats, .offers, .reseats, .run,
    .sittings, .bells, .trays, .linkStates, .lines, .sheet, .walks, .batch]

/-- The parts of the state a command may change; every other part stays. -/
def mayChange : Instr → List Part
  | .areaWrite .task _ _ => startParts
  | .areaWrite _ _ _ => [.mailbox]
  | .enterLevel _ _ | .leaveLevel => [.mailbox, .access]
  | .setPasscode _ _ | .setGrants _ | .saveSettings | .settingsWriteEnd _ | .setLineLimits _ _
  | .setCalibration _ _ _ _ | .setThresholds _ _ _ => [.mailbox, .settings]
  | .setSignal _ _ => [.mailbox, .settings, .bells]
  | .readNotices => [.mailbox, .notices]
  | .reboot => .mailbox :: warmParts
  | .resetn | .mainSupplyReturn => warmParts
  | .coldStart => startParts
  | .mainSupplyLoss => [.power, .settings]
  | .standbySupplyLoss => [.power]
  | .startupComplete => [.power, .notices, .walks]
  | .lookup _ | .list _ _ _ | .seatInfo _ | .sittingInfo _ | .trayInfo _ _ | .readKey _ _ _ | .readMark _ _ => [.mailbox]
  | .enrol _ _ => [.mailbox, .identities, .entries, .sittings]
  | .withdraw _ => [.mailbox, .identities, .tags] ++ placementParts
  | .amend _ _ _ _ | .adjustTime _ _ | .endCandidate _ => .mailbox :: clockParts
  | .disableSeat _ | .enableSeat _ => [.mailbox, .seats, .reseats, .lines, .notices]
  | .reserve _ _ _ _ | .unreserve _ _ => [.mailbox, .extents]
  | .allocate _ => [.mailbox, .run, .sittings, .notices]
  | .abortAllocation _ | .move _ _ => .mailbox :: placementParts
  | .restartLine _ => .mailbox :: placementParts
  | .defineSitting _ _ => [.mailbox, .entries, .sittings, .bells, .lines, .notices]
  | .openNow _ => .mailbox :: clockParts
  | .hold _ | .resume _ => [.mailbox, .sittings, .bells, .lines, .notices]
  | .closeCollection _ => .mailbox :: clockParts
  | .retireSitting _ => [.mailbox, .identities, .tags, .keys, .extents] ++ clockParts
  | .setHallTime _ => [.mailbox, .hallTime]
  | .voidScript _ => [.mailbox, .trays, .batch] ++ clockParts
  | .clearTray _ => [.mailbox, .entries, .trays, .lines, .notices]
  | .loadKey _ _ | .lockKey _ => [.mailbox, .keys]
  | .amendKey _ _ _ => [.mailbox, .keys, .walks]
  | .beginBatch _ => [.mailbox, .batch, .trays, .lines, .notices]
  | .endBatch => batchParts
  | .batchClose | .sheetHandover | .decoderTake => sheetParts
  | .resolveQuery _ _ | .manualMark _ _ => [.mailbox, .entries, .sittings]
  | .resolveDispute _ _ => [.mailbox, .entries, .sittings, .notices]
  | .releaseResults _ => [.mailbox, .entries, .sittings, .bells, .lines, .notices]
  | .hallSecond _ => [.hallTime, .owed, .access] ++ clockParts
  | .openTime _ | .startTime _ | .readingEnd _ | .lateLimit _ | .writingEnd _ | .clockExpiry _ | .restExhausted _
  | .warningFire _ | .offerDeadline => .owed :: clockParts
  | .lockoutEnd => [.owed, .access]
  | .bellPulseEnd _ => [.owed, .bells]
  | .alarmAssert => [.alarm, .power, .sittings, .bells, .lines, .notices]
  | .alarmRelease => [.alarm]
  | .placementStep => placementParts
  | .walkVisit => [.entries, .walks, .notices]
  | .slotStart _ | .frameSent _ => [.lines, .offers, .notices]
  | .answerWindowClose _ | .linkLoss _ => [.linkStates, .seatLinks] ++ placementParts
  | .quiet _ _ | .linkRegain _ _ => answerParts
  | .join _ _ _ _ => [.linkStates, .seatLinks] ++ placementParts
  | .checkin _ _ _ _ _ => [.entries, .tags, .sittings] ++ answerParts
  | .handin _ _ _ _ => [.linkStates, .seatLinks] ++ clockParts
  | .restBegin _ _ _ _ | .restEnd _ _ _ _ => .entries :: answerParts
  | .help _ _ _ => answerParts
  | .offerReplyAccept _ _ _ _ | .offerReplyRefuse _ _ _ _ _ => [.linkStates, .seatLinks] ++ placementParts
  | .tagRead _ _ _ _ => [.trays, .entries, .sittings] ++ answerParts
  | .sheetBegin | .sheetVerdictSend | .sheetInputGapSeen => [.sheet]
  | .sheetMessage _ | .sheetGap _ => [.sheet, .batch, .notices]

/-! ### Tasks -/

/-- The task a command writes to the port (R195). -/
def taskOf : Instr → Option Task
  | .enterLevel _ _ => some .enterLevel
  | .leaveLevel => some .leaveLevel
  | .setPasscode _ _ => some .setPasscode
  | .setGrants _ => some .setGrants
  | .readNotices => some .readNotices
  | .saveSettings => some .saveSettings
  | .reboot => some .reboot
  | .setLineLimits _ _ => some .setLineLimits
  | .setSignal _ _ => some .setSignal
  | .enrol _ _ => some .enrol
  | .withdraw _ => some .withdraw
  | .amend _ _ _ _ => some .amend
  | .lookup _ => some .lookup
  | .list _ _ _ => some .list
  | .seatInfo _ => some .seatInfo
  | .disableSeat _ => some .disableSeat
  | .enableSeat _ => some .enableSeat
  | .reserve _ _ _ _ => some .reserve
  | .unreserve _ _ => some .unreserve
  | .allocate _ => some .allocate
  | .abortAllocation _ => some .abortAllocation
  | .move _ _ => some .move
  | .restartLine _ => some .restartLine
  | .defineSitting _ _ => some .defineSitting
  | .openNow _ => some .openNow
  | .hold _ => some .hold
  | .resume _ => some .resume
  | .closeCollection _ => some .closeCollection
  | .retireSitting _ => some .retireSitting
  | .setHallTime _ => some .setHallTime
  | .sittingInfo _ => some .sittingInfo
  | .adjustTime _ _ => some .adjustTime
  | .endCandidate _ => some .endCandidate
  | .voidScript _ => some .voidScript
  | .trayInfo _ _ => some .trayInfo
  | .clearTray _ => some .clearTray
  | .loadKey _ _ => some .loadKey
  | .lockKey _ => some .lockKey
  | .amendKey _ _ _ => some .amendKey
  | .readKey _ _ _ => some .readKey
  | .setCalibration _ _ _ _ => some .setCalibration
  | .setThresholds _ _ _ => some .setThresholds
  | .beginBatch _ => some .beginBatch
  | .endBatch => some .endBatch
  | .readMark _ _ => some .readMark
  | .resolveQuery _ _ => some .resolveQuery
  | .resolveDispute _ _ => some .resolveDispute
  | .manualMark _ _ => some .manualMark
  | .releaseResults _ => some .releaseResults
  | _ => none

/-- The part is running and its mailbox is IDLE (R195, R203). -/
abbrev State.Idle (s : State) : Prop := s.power.power = .on ∧ s.port.running = none

/-- A task written now is started and permitted (R195, R199). -/
abbrev State.Ready (s : State) (t : Task) : Prop := s.Idle ∧ s.permits t = true

/-- The mailbox back in IDLE with a result block, the ignored-write flag cleared by the task's start (R195). -/
def State.completed (s : State) (code : ResultCode) (clamped : Bool) (report : Report) : State :=
  { s with port := { s.port with
      running := none, result := { code := code, clamped := clamped, report := report }, ignoredWrite := false } }

/-- The mailbox holds this result and is IDLE (R195, R196). -/
abbrev State.Answered (s : State) (code : ResultCode) (clamped : Bool) (report : Report) : Prop :=
  s.port.running = none ∧ s.port.result = { code := code, clamped := clamped, report := report }
    ∧ s.port.ignoredWrite = false

/-! ### Events of a unit -/

/-- The answer window of unit `u` is open after a frame that was no probe, its link is UP, its JOIN has been taken,
and `n` is a new event number: an event with that number is taken (R127, R134). -/
abbrev State.Hears (s : State) (z u : Nat) (n : Bool) : Prop :=
  s.power.power = .on ∧ (s.windowFor z u).map isProbe = some false ∧ (s.linkRecord z u).state = .up
    ∧ (s.linkRecord z u).joinAwaited = false ∧ (s.linkRecord z u).lastTaken ≠ some n

/-- The slot has ended with a good answer whose event has been taken (R127, R131, R134). -/
abbrev State.Heard (t : State) (z u : Nat) (n : Bool) : Prop :=
  (t.line z).slot = .idle ∧ (t.linkRecord z u).lastTaken = some n ∧ (t.linkRecord z u).misses = 0
    ∧ (t.linkRecord z u).state = .up

/-! ### The seat search -/

/-- The entry a seat is HELD or OCCUPIED by, or OFFERED to (R42). -/
def State.sitter? (s : State) (d : Nat) : Option Entry :=
  match (s.seat d).tenure with
  | .offered p | .held p | .occupied p => s.entry? p
  | _ => none

/-- Two seats are neighbours in the row: their columns differ by one (R20). -/
def besideInRow (d j : Nat) : Prop :=
  zoneOf j = zoneOf d ∧ rowOf j = rowOf d ∧ (columnOf j = columnOf d + 1 ∨ columnOf d = columnOf j + 1)

/-- Two seats are neighbours in the column: their rows differ by one (R20). -/
def besideInColumn (d j : Nat) : Prop :=
  zoneOf j = zoneOf d ∧ columnOf j = columnOf d ∧ (rowOf j = rowOf d + 1 ∨ rowOf d = rowOf j + 1)

/-- What a spacing rule forbids beside a seat of the same sitting (R42). -/
def forbids (x : Spacing) (d j : Nat) : Prop :=
  match x with
  | .open => False
  | .side => besideInRow d j
  | .cross => besideInRow d j ∨ besideInColumn d j

/-- An extent covers a seat's row (R33). -/
def Extent.holds (x : Extent) (side : Side) (d : Nat) : Prop :=
  (extentSpan side x.code).1 ≤ rowOf d ∧ rowOf d ≤ (extentSpan side x.code).2

/-- The owner of the extent that covers a seat (R22). -/
def State.Reserved (s : State) (d : Nat) (o : Owner) : Prop :=
  let z := s.zoneExtents (zoneOf d)
  (∃ x, z.front = some x ∧ x.holds .front d ∧ x.owner = o)
    ∨ ∃ x, z.back = some x ∧ x.holds .back d ∧ x.owner = o ∧ ∀ y, z.front = some y → ¬ y.holds .front d

/-- The seat lies in group `g` of R41 for the entry: an extent of its own sitting, a SPECIAL one for a candidate with
needs, or no extent where the sitting is not confined; and in its sitting's zone mask. -/
def State.InGroup (s : State) (e : Entry) (g d : Nat) : Prop :=
  hasZone (s.sitting e.sitting).defn.zones (zoneOf d) = true
    ∧ ((g = 1 ∧ s.Reserved d (.sitting e.sitting))
      ∨ (g = 2 ∧ s.Reserved d .special ∧ e.needs ≠ {})
      ∨ (g = 3 ∧ (∀ o, ¬ s.Reserved d o) ∧ (s.sitting e.sitting).defn.confined = false))

/-- The seat is usable, has the capabilities the entry needs and obeys its sitting's spacing rule (R22, R42). -/
def State.Fits (s : State) (e : Entry) (d : Nat) : Prop :=
  let x := s.seat d
  (x.link = .up ∧ x.tenure = .empty ∧ x.disabled = false)
    ∧ ((e.needs.stepFree = true → x.caps.stepFree = true) ∧ (e.needs.power = true → x.caps.power = true)
      ∧ (e.needs.largeDisplay = true → x.caps.largeDisplay = true)
      ∧ (e.needs.leftDesk = true → x.caps.leftDesk = true) ∧ (e.needs.edge = true → x.caps.edge = true)
      ∧ (e.needs.supervised = true → x.caps.supervised = true))
    ∧ ∀ j f, forbids (s.sitting e.sitting).defn.spacing d j → s.sitter? j = some f → f.sitting = e.sitting →
      f.slot = e.slot

/-- A seat the entry may be given, in its group (R41, R42). -/
def State.Suits (s : State) (e : Entry) (g d : Nat) : Prop := d < Config.seats ∧ s.InGroup e g d ∧ s.Fits e d

/-- A pass over the seats that meet `ok` finds the first by group, then by seat number, or none where there is none
(R41, R43). -/
def State.Passed (s : State) (e : Entry) (ok : Nat → Prop) (found : Option Nat) : Prop :=
  (found = none → ∀ g d, s.Suits e g d → ¬ ok d)
    ∧ ∀ d, found = some d → ok d ∧ ∃ g, s.Suits e g d ∧ ∀ h j, s.Suits e h j → ok j → g < h ∨ (g = h ∧ d ≤ j)

/-- The passes of R43: one for a candidate with needs; for one without, first over the seats without STEP_FREE, and
over all where that one finds none. -/
def State.Searched (s : State) (e : Entry) (ok : Nat → Prop) (found : Option Nat) : Prop :=
  (e.needs ≠ {} → s.Passed e ok found)
    ∧ (e.needs = {} → ∃ first, s.Passed e (fun d => ok d ∧ (s.seat d).caps.stepFree = false) first
      ∧ (first ≠ none → found = first) ∧ (first = none → s.Passed e ok found))

/-! ### The outbound queue -/

/-- The notice of a message dropped or evicted from line `z`: the seat of the desk, the tray, or for a PHASE broadcast
its sitting (R138). -/
def dropped (z : Nat) (x : QEntry) : Subject :=
  if x.unit = 255 then
    match x.msg with
    | .phase p => .sitting p.sitting
    | _ => .none
  else if x.unit < 240 then .seat (240 * z + x.unit)
  else .tray (8 * z + (x.unit - 240))

/-- A notice of kind `k` has been raised, the first of its kind taking the subject (R198). -/
def State.Raised (s t : State) (k : NoticeKind) (x : Subject) : Prop :=
  t.notice k = if (s.notice k).count = 0 then { count := 1, subject := x }
    else { s.notice k with count := min 255 ((s.notice k).count + 1) }

/-- `q` is the queue `old` with `x` inserted by its class: an URGENT entry directly behind the last URGENT one, or at
the head where there is none, an ORDINARY one at the tail (R136). -/
def insertedByClass (x : QEntry) (old q : List QEntry) : Prop :=
  (x.urgent = false → q = old ++ [x])
    ∧ (x.urgent = true → ∃ l r, old = l ++ r ∧ q = l ++ x :: r ∧ (∀ y ∈ r, y.urgent = false)
      ∧ ∀ y, l.getLast? = some y → y.urgent = true)

/-- The units of the CLOCKs in a queue (R137). -/
def clockUnits (q : List QEntry) : List Nat := (q.filter fun x => isClock x.msg).map QEntry.unit

/-! ### The start of a sitting -/

/-- The part of a sitting's start that READING or WRITING shows: with a reading time the sitting is READING with all
of it left; with none it is WRITING from 0 with no clock WAITING (R67, R87). -/
def State.Started (s t : State) (k : Nat) : Prop :=
  (0 < (s.sitting k).defn.reading →
    (t.sitting k).phase = .reading ∧ (t.sitting k).readingLeft = (s.sitting k).defn.reading
      ∧ t.roster.entries = s.roster.entries)
  ∧ ((s.sitting k).defn.reading = 0 →
    (t.sitting k).phase = .writing ∧ (t.sitting k).elapsed = 0
      ∧ ∀ e ∈ t.roster.entries, e.sitting = k → e.clock ≠ .waiting)

/-! ### Batches and records -/

/-- A sheet with a tag is matched to its position of the open batch's tray, leaving these position reads and this
out-of-sequence count: an ACCEPTED or REPEAT one raises the read count of the position to 2 at most, and an ACCEPTED
one with a position before it unread is counted out of sequence; another verdict changes neither (R178, R181). -/
def State.Matched (s : State) (tag : Nat) (v : SheetVerdict) (reads : List Nat) (out : Nat) : Prop :=
  let b := s.scoring.batch
  (v ≠ .accepted → out = b.outOfSequence)
    ∧ (v ≠ .accepted → v ≠ .repeated → reads = b.reads)
    ∧ ∀ p, (s.tray b.tray).tags[p]? = some tag → tag ∉ (s.tray b.tray).tags.take p →
      (v = .accepted ∨ v = .repeated →
        ∀ i, reads[i]? = if i = p then b.reads[i]?.map fun c => min 2 (c + 1) else b.reads[i]?)
      ∧ (v = .accepted → out = if 0 ∈ b.reads.take p then min 255 (b.outOfSequence + 1) else b.outOfSequence)

/-- The open batch has closed with these counts and position reads, and END_BATCH has completed with OK (R187). -/
def State.BatchClosed (s t : State) (accepted rejected out : Nat) (reads : List Nat) : Prop :=
  let u := s.scoring.batch.tray
  t.scoring.batch = {} ∧ t.port.running = none
    ∧ t.tray u = (if (s.tray u).tags = [] then {} else { s.tray u with state := .done })
    ∧ (∀ v, v ≠ u → t.tray v = s.tray v) ∧ 0 < (t.notice .batchDone).count
    ∧ ∃ unread : List (Nat × Nat), unread.Pairwise (fun a b => a.1 < b.1)
      ∧ (∀ p tag, (p + 1, tag) ∈ unread ↔ reads[p]? = some 0 ∧ (s.tray u).tags[p]? = some tag)
      ∧ (∀ tag, (0, tag) ∉ unread)
      ∧ t.port.result =
        { code := .ok, report := .batchClosed u accepted rejected out unread.length (unread.take 16) }

/-- The entry `x` of key `k` has been settled with the record `y`: MARKED and scored with no DOUBTFUL outcome,
PROVISIONAL with the DOUBTFUL questions as its queries with up to eight, MANUAL without totals with more (R184). -/
def Settled (k : Key) (t : State) (x : Entry) (y : MarkRecord) : Prop :=
  let scored := y.totals = some (k.totalsFor (k.total y.working))
  (doubtfuls y.working = [] → x.custody = .marked ∧ y.queries = [] ∧ scored)
    ∧ (doubtfuls y.working ≠ [] → 0 < (t.notice .query).count)
    ∧ (doubtfuls y.working ≠ [] → (doubtfuls y.working).length ≤ 8 →
      x.custody = .provisional ∧ y.queries = doubtfuls y.working ∧ scored)
    ∧ (8 < (doubtfuls y.working).length → x.custody = .manual ∧ y.queries = [] ∧ y.totals = none)

/-! ### Invariants -/

/-- A channel in range (R151). -/
abbrev Channel.inRange (c : Channel) : Prop := c.gain ≤ 65535 ∧ c.shift ≤ 7 ∧ -512 ≤ c.offset ∧ c.offset ≤ 511

/-- The thresholds stand in the order and the ranges of R153. -/
abbrev Thresholds.inRange (t : Thresholds) : Prop :=
  1 ≤ t.high ∧ t.high ≤ 1023 ∧ t.low < t.high ∧ 1 ≤ t.margin ∧ t.margin ≤ 1023

/-- A settings record in range (R131, R132, R141, R151, R153, R80). -/
def Settings.inRange (w : Settings) : Prop :=
  w.calibration.a.inRange ∧ w.calibration.b.inRange ∧ w.calibration.c.inRange ∧ w.calibration.d.inRange
    ∧ w.calibration.e.inRange ∧ w.thresholds.inRange ∧ 2 ≤ w.lossLimit ∧ w.lossLimit ≤ 15 ∧ 1 ≤ w.regainLimit
    ∧ w.regainLimit ≤ 31 ∧ ∀ o, badCond (signalOf w.signals o) = false

/-- The working settings, the image and a copy being written are in range. -/
def State.SettingsInRange (s : State) : Prop :=
  s.settings.working.inRange ∧ s.settings.image.inRange ∧ ∀ w, s.settings.writing = some w → w.inRange

/-- The roster order is strictly ascending by candidate number, and no slot holds two entries or lies outside the 960
(R1). -/
abbrev State.RosterOrdered (s : State) : Prop :=
  (s.roster.entries.map Entry.number).Pairwise (· < ·) ∧ (s.roster.entries.map Entry.slot).Nodup
    ∧ ∀ e ∈ s.roster.entries, e.slot < Config.slots ∧ badNumber e.number = false

/-- A seat of a desk line has the link state of its unit's link record (R21, R130). -/
def State.LinksAgree (s : State) : Prop :=
  ∀ z u, u < Config.zoneSeats → (s.seat (seatOf z u)).link = (s.linkRecord z u).state

/-- A question entry accepts only options it has, and a loaded one is in range (R160, R163). -/
def Question.lawful (x : Question) : Prop :=
  (∀ o, hasChoice x.accepted o = true → choiceIndex o < x.options)
    ∧ (x.loaded = true → 2 ≤ x.options ∧ x.options ≤ 5 ∧ 1 ≤ x.weight ∧ x.weight ≤ 40 ∧ x.accepted ≠ {})

/-- Every question entry of a key is lawful. A LOCKED key keeps the questions it was locked with, and its current view
is they with its amendments in order; the revision counts the amendments (R160, R161). -/
def Key.faithful (k : Key) : Prop :=
  (k.state = .locked →
    k.questions = withAmendments k.base k.amendments ∧ k.revision = k.amendments.length ∧ k.revision ≤ Config.lastRevision
      ∧ k.amendments.map Amendment.revision = (List.range k.revision).map (· + 1))
    ∧ k.q ≤ 120 ∧ ∀ i, (k.question i).lawful

def State.KeysFaithful (s : State) : Prop := ∀ k, (s.key k).faithful

/-- What a tray's state says of its list and of its sitting (R107, R108). -/
def Tray.lawful (r : Tray) : Prop :=
  r.tags.length ≤ Config.trayTags ∧ r.tags.Nodup ∧ (r.sitting.isSome ↔ r.tags ≠ [])
    ∧ match r.state with
      | .empty => r.tags = []
      | .filling => r.tags ≠ [] ∧ r.tags.length < Config.trayTags
      | .full => r.tags.length = Config.trayTags
      | .reading => True
      | .done => r.tags ≠ []

def State.TraysLawful (s : State) : Prop := ∀ u, (s.tray u).lawful

/-- Every table is in canonical form: its indices rising, no default record listed. -/
def State.Canonical (s : State) : Prop :=
  Table.wf {} s.port.notices = true ∧ Table.wf {} s.seatMap.seats = true ∧ Table.wf {} s.seatMap.extents = true
    ∧ Table.wf {} s.control.sittings = true ∧ Table.wf 0 s.control.bells = true ∧ Table.wf {} s.trays = true
    ∧ Table.wf {} s.lines = true ∧ (∀ z, Table.wf {} (s.line z).links = true) ∧ Table.wf {} s.sheet.buffers = true
    ∧ Table.wf {} s.scoring.keys = true

/-- The walk queue holds no sitting twice, none that is being walked, and so no more than sixteen (R173). -/
def ScoringUnit.walksBounded (u : ScoringUnit) : Prop :=
  u.walkQueue.length ≤ Config.sittings ∧ u.walkQueue.Nodup ∧ (∀ k ∈ u.walkQueue, k < Config.sittings)
    ∧ ∀ w, u.walk = some w → w.sitting < Config.sittings ∧ w.sitting ∉ u.walkQueue

/-- No counter or queue stands beyond what the spec gives it, and a line's queue holds at most one CLOCK for a desk
(R39, R40, R74, R136, R137, R148, R173, R178, R198, R200). -/
def State.WithinCapacity (s : State) : Prop :=
  s.hall.time ≤ Config.lastSecond ∧ s.port.lockout ≤ Config.lockoutSeconds ∧ s.port.wrongEntries ≤ 2
    ∧ (∀ k, (s.notice k).count ≤ 255) ∧ (∀ z, (s.line z).queue.length ≤ Config.queued)
    ∧ (∀ z, (clockUnits (s.line z).queue).Nodup)
    ∧ s.placement.offers.length ≤ Config.offers ∧ s.placement.reseats.length ≤ Config.reseats
    ∧ s.sheet.replies.length ≤ Config.sheetReplies
    ∧ s.scoring.batch.accepted ≤ 255 ∧ s.scoring.batch.rejected ≤ 255 ∧ s.scoring.batch.outOfSequence ≤ 255
    ∧ (∀ r ∈ s.scoring.batch.reads, r ≤ 2) ∧ s.scoring.walksBounded

/-! ### The seat map, the roster and the sittings agree -/

/-- What a seat with an occupant says of its entry: a HELD seat waits for its candidate, an OCCUPIED one seats a
PRESENT candidate, a VACATED one awaits the tag of a script handed in (R21, R25, R26). -/
def seatedAs (x : Tenure) (e : Entry) : Prop :=
  match x with
  | .held p => p = e.slot ∧ (e.presence = .expected ∨ e.presence = .displaced)
  | .occupied p => p = e.slot ∧ e.presence = .present
  | .vacated p tag => p = e.slot ∧ e.presence = .finished ∧ e.custody = .handedIn ∧ e.tag = some tag
  | _ => False

/-- What an entry's presence says of its clock and its script (R4, R84, R105). -/
def Entry.lawful (e : Entry) : Prop :=
  match e.presence with
  | .expected => e.custody = .none
  | .present => e.seat.isSome = true ∧ e.clock ≠ .ended ∧ e.custody = .issued ∧ e.tag.isSome = true
  | .displaced => e.clock ≠ .ended ∧ e.custody = .issued ∧ e.tag.isSome = true
  | .finished => e.clock = .ended ∧ e.custody ≠ .issued
  | .absent => e.clock = .ended ∧ e.custody = .none

/-- What the phase of an entry's sitting says of it: no script before OPEN, no candidate awaited once the late limit
has come, no clock open from COLLECTING on, no script left in the hall once CLOSED (R69–R71, R90, R113). -/
def Sitting.admits (r : Sitting) (e : Entry) : Prop :=
  match r.phase with
  | .empty => False
  | .defined => e.custody = .none
  | .opened | .reading => True
  | .writing => r.defn.lateLimit ≤ r.elapsed → e.presence ≠ .expected
  | .overtime => e.presence ≠ .expected
  | .collecting => e.clock = .ended ∧ e.presence ≠ .expected
  | .closed | .released => e.clock = .ended ∧ e.presence ≠ .expected ∧ e.custody ≠ .handedIn

/-- An entry's seat is held for it, and an offer to it stands on an OFFERED seat and in the offer table (R5, R21,
R39). -/
def State.places (s : State) (e : Entry) : Prop :=
  (∀ d, e.seat = some d → seatedAs (s.seat d).tenure e)
    ∧ ∀ d, e.offer = some d → (s.seat d).tenure = .offered e.slot ∧ e.seat = none
      ∧ (e.presence = .expected ∨ e.presence = .displaced) ∧ ∃ o ∈ s.placement.offers, o.seat = d ∧ o.slot = e.slot

/-- The seat map, the offer table, with at most one entry for a seat, the roster and the sittings agree on who sits
where (R5, R21, R39). -/
def State.SeatsAgree (s : State) : Prop :=
  (∀ d p, occupant (s.seat d).tenure = some p → ∃ e, s.entry? p = some e ∧ e.seat = some d)
    ∧ (∀ d p, (s.seat d).tenure = .offered p → ∃ e, s.entry? p = some e ∧ e.offer = some d)
    ∧ (∀ o ∈ s.placement.offers, (s.seat o.seat).tenure = .offered o.slot)
    ∧ (s.placement.offers.map Offer.seat).Nodup
    ∧ (∀ k, (s.sitting k).defn.lateLimit ≤ (s.sitting k).defn.writing)
    ∧ ∀ e ∈ s.roster.entries, s.places e ∧ e.lawful ∧ (s.sitting e.sitting).admits e

/-- The count of the entries of sitting `k` that meet `p`. -/
def State.tally (s : State) (k : Nat) (p : Entry → Bool) : Nat := ((s.entriesOf k).filter p).length

/-- The six counts of a sitting are the counts of the entries that meet them (R81). -/
def State.CountsAgree (s : State) : Prop :=
  ∀ k, (s.sitting k).enrolled = s.tally k (fun _ => true)
    ∧ (s.sitting k).placed = s.tally k (fun e => e.seat.isSome)
    ∧ (s.sitting k).present = s.tally k (fun e => decide (e.presence = .present ∨ e.presence = .displaced))
    ∧ (s.sitting k).awaiting = s.tally k (fun e => decide (e.custody = .handedIn))
    ∧ (s.sitting k).collected = s.tally k (fun e => isCollected e.custody)
    ∧ (s.sitting k).final = s.tally k (fun e => isFinal e.custody)

/-- A clock within its bounds (R3, R84–R86, R96, R99). -/
def Entry.clockBounded (e : Entry) : Prop :=
  e.used ≤ e.budget ∧ e.budget ≤ Config.lastBudget ∧ e.restUsed ≤ e.restAllowance ∧ e.restAllowance ≤ 3600
    ∧ e.allowance ≤ 100 ∧ -Config.lastAdjustSum ≤ e.adjustSum ∧ e.adjustSum ≤ Config.lastAdjustSum
    ∧ (e.clock = .running → e.used < e.budget) ∧ (e.resting = true → e.restUsed < e.restAllowance)
    ∧ (e.clock = .ended → e.resting = false ∧ e.displacedCause = false)

/-- Every clock is within its bounds, and RUNNING only in WRITING and OVERTIME (R84, R87). -/
def State.ClocksBounded (s : State) : Prop :=
  ∀ e ∈ s.roster.entries, e.clockBounded
    ∧ (e.clock = .running → (s.sitting e.sitting).phase = .writing ∨ (s.sitting e.sitting).phase = .overtime)

/-- The seats that a spacing rule keeps free of the same sitting (R42). -/
def seatNeighbours (x : Spacing) (d : Nat) : List Nat :=
  match x with
  | .open => []
  | .side => rowNeighbours d
  | .cross => rowNeighbours d ++ columnNeighbours d

/-- No two candidates of one sitting sit at, or are offered, neighbouring seats under its spacing rule (R42). -/
def State.Spaced (s : State) : Prop :=
  ∀ d j e f, s.sitter? d = some e → s.sitter? j = some f → e.sitting = f.sitting →
    j ∉ seatNeighbours (s.sitting e.sitting).defn.spacing d

end Sys2Proof.Machine
end

