-- ==== Sys2Proof/Certificates/Slice0/Obligations.lean ====
section
/-!
DEFINITION. The statements for the provers. A completion statement concludes that its command answers a next state;
`OnlyChanges` says what else stays.
-/

open Sys2Proof Sys2Proof.Machine

/-! ### The machine -/

/-- A step carries out the command at the front of the queue with the queue's rest (the queue is the model's own, log
entry 2). -/
def Obligations.StepRunsFrontCommand : Prop :=
  ∀ (c : Instr) (rest : List Instr) (s : State), s.pending = c :: rest → step s = exec c { s with pending := rest }

/-- The frame of every command: the parts of the state it may change are those listed, and every other part stays. -/
def Obligations.FrameOfEveryCommand : Prop :=
  ∀ (c : Instr) (s t : State), s.Canonical → exec c s = .next t → OnlyChanges (mayChange c) s t

/-- A task the port does not permit changes nothing but the mailbox, which holds DENIED (R199). A RUNNING mailbox
ignores a task and sets the ignored-write flag; a part that is not running ignores it whole (R195, R203). -/
def Obligations.PortTurnsTasksAway : Prop :=
  (∀ (c : Instr) (k : Task) (s : State), taskOf c = some k → s.Idle → s.permits k = false →
      exec c s = .next (s.completed .denied false .nothing))
  ∧ (∀ (c : Instr) (k : Task) (s : State), taskOf c = some k →
      (s.power.power = .on → s.port.running.isSome = true →
        exec c s = .next { s with port := { s.port with ignoredWrite := true } })
      ∧ (s.power.power ≠ .on → exec c s = .next s))

/-! ### Invariants -/

/-- The part right after reset meets every invariant (the moment of reset is the model's choice, log entry 1). -/
def Obligations.ResetMeetsInvariants : Prop :=
  State.reset.SettingsInRange ∧ State.reset.RosterOrdered ∧ State.reset.LinksAgree ∧ State.reset.KeysFaithful
    ∧ State.reset.TraysLawful ∧ State.reset.Canonical ∧ State.reset.WithinCapacity ∧ State.reset.SeatsAgree
    ∧ State.reset.CountsAgree ∧ State.reset.ClocksBounded ∧ State.reset.Spaced

/-- Every step keeps the settings in the ranges of R80, R131, R132, R141, R151 and R153, a gain of 16 bits and LOW
below HIGH among them. -/
def Obligations.StepKeepsSettingsInRange : Prop :=
  ∀ s t : State, s.SettingsInRange → step s = .next t → t.SettingsInRange

/-- Every step keeps the roster in strictly ascending candidate number, with no slot held twice (R1). -/
def Obligations.StepKeepsRosterOrdered : Prop :=
  ∀ s t : State, s.RosterOrdered → step s = .next t → t.RosterOrdered

/-- Every step keeps the link state of each seat equal to that of its unit's link record (R21, R130). -/
def Obligations.StepKeepsLinksAgreed : Prop :=
  ∀ s t : State, s.Canonical → s.LinksAgree → step s = .next t → t.LinksAgree

/-- Every step keeps every question entry of a key in range, with no accepted option beyond its own (R160, R163), and
each locked key's view equal to its locked questions with its amendments in order, and its revision equal to the count
of them (R160, R161, R172). -/
def Obligations.StepKeepsKeysFaithful : Prop :=
  ∀ s t : State, s.KeysFaithful → step s = .next t → t.KeysFaithful

/-- Every step keeps each tray's state in step with its list and its sitting, and no tag twice in a list (R107, R108).
-/
def Obligations.StepKeepsTraysLawful : Prop :=
  ∀ s t : State, s.Canonical → s.TraysLawful → step s = .next t → t.TraysLawful

/-- Every step keeps every table in canonical form, so that equal contents are equal data (the tables are the model's
form of the records, log entry 33). -/
def Obligations.StepKeepsTablesCanonical : Prop :=
  ∀ s t : State, s.Canonical → step s = .next t → t.Canonical

/-- Every step keeps every queue and counter within its capacity, the walk queue and a batch's position reads among
them, and at most one CLOCK for a desk in a line's queue (R39, R40, R74, R136, R137, R148, R173, R178, R198, R200). A
message handed to a line goes into a queue with a free place by its class (R136; also ahead of an ORDINARY head in its
slot: log entry 47). A CLOCK for a desk with one queued replaces it in place, URGENT where either is (R137; log entry
12). With 32 entries, an URGENT message has the ORDINARY entry nearest the head, one being sent apart (its answer
window does not count as sending: log entry 14), evicted, and is itself dropped where there is none (with only the one
being sent: log entry 46), an ORDINARY one is dropped, each with QUEUE_DROP naming the message given up, and an OFFER
is not queued, without a notice (R138). -/
def Obligations.StepKeepsCapacities : Prop :=
  (∀ s t : State, s.WithinCapacity → step s = .next t → t.WithinCapacity)
  ∧ (∀ (s : State) (z u : Nat) (urgent : Bool) (m : Msg),
      let q := (s.line z).queue
      let t := s.hand z u urgent m
      let x : QEntry := { unit := u, urgent := urgent, msg := m }
      let replaces : Prop := isClock m = true ∧ u ∈ clockUnits q
      let stays (y : QEntry) : Prop := y.urgent = true ∨ (y.inSlot = true ∧ ∃ f, (s.line z).slot = .sending f)
      (isClock m = true → ∀ l y r, q = l ++ y :: r → y.unit = u → isClock y.msg = true → u ∉ clockUnits (l ++ r) →
        (t.line z).queue = l ++ { y with msg := m, urgent := y.urgent || urgent, replaced := y.inSlot } :: r
          ∧ OnlyChanges [.lines] s t)
      ∧ (¬ replaces → q.length < 32 → insertedByClass x q (t.line z).queue ∧ OnlyChanges [.lines] s t)
      ∧ (¬ replaces → 32 ≤ q.length → urgent = true → ∀ l y r, q = l ++ y :: r → ¬ stays y → (∀ w ∈ l, stays w) →
        insertedByClass x (l ++ r) (t.line z).queue ∧ s.Raised t .queueDrop (dropped z y))
      ∧ (¬ replaces → 32 ≤ q.length → (urgent = true ∧ ∀ y ∈ q, stays y) ∨ (urgent = false ∧ isOffer m = false) →
        s.Raised t .queueDrop (dropped z x) ∧ OnlyChanges [.notices] s t)
      ∧ (¬ replaces → 32 ≤ q.length → urgent = false → isOffer m = true → t = s)
      ∧ t.line z = { s.line z with queue := (t.line z).queue } ∧ (∀ y, y ≠ z → t.line y = s.line y)
      ∧ (∀ k, k ≠ .queueDrop → t.notice k = s.notice k) ∧ OnlyChanges [.lines, .notices] s t)

/-- Every step keeps the seat map, the offer table, the roster and the sittings in agreement: each seat's occupant and
offeree is an entry that names the seat, each entry's seat and offer stand in the seat map and the offer table, and
its presence, clock and custody fit each other and its sitting's phase (R4, R5, R21, R39, R70, R71, R84, R90, R105).
-/
def Obligations.StepKeepsSeatsAgreed : Prop :=
  ∀ s t : State, s.Canonical → s.RosterOrdered → s.SeatsAgree → step s = .next t → t.SeatsAgree

/-- Every step keeps the six counts of every sitting equal to the numbers of its roster entries that meet them (R81).
-/
def Obligations.StepKeepsCountsAgreed : Prop :=
  ∀ s t : State, s.Canonical → s.RosterOrdered → s.SeatsAgree → s.CountsAgree → step s = .next t → t.CountsAgree

/-- Every step keeps used at or below the budget and rest used at or below the rest allowance, an allowance, a budget
and an adjustment sum in range, and a clock RUNNING only in WRITING and OVERTIME (R3, R84, R85, R87, R96, R99). -/
def Obligations.StepKeepsClocksBounded : Prop :=
  ∀ s t : State, s.Canonical → s.RosterOrdered → s.SeatsAgree → s.ClocksBounded → step s = .next t → t.ClocksBounded

/-- Every step keeps the candidates of one sitting apart: no two seats HELD or OCCUPIED by, or OFFERED to, candidates
of one sitting are neighbours under its spacing rule (R20, R42). -/
def Obligations.StepKeepsSpacing : Prop :=
  ∀ s t : State, s.Canonical → s.RosterOrdered → s.SeatsAgree → s.Spaced → step s = .next t → t.Spaced

/-! ### The wire -/

/-- A frame of 2 to 14 octets before its check is received as those octets, and between its marks no frame holds six
1s in a row, so no mark stands inside it (R123, R124). Every frame of the part is one of these, its payload as long as
R204 says, and its control octet with bit 5 clear, the taken bit in bit 6 or the taken-none marker in bit 7 (R134,
R204); a capability set is read from its octet as it was sent (R204); and an answer's bits stand for the command of
its kind, its address, event number and fields, low octet first (R204; that the fields fill the payload in the order
in which the rules name them is the model's reading, log entry 50, and that a JOIN's kind stands before its capability
set its choice, log entry 59). -/
def Obligations.FramesReceivedAsSent : Prop :=
  (∀ l : List Octet, 2 ≤ l.length → l.length ≤ 14 → receive (frameBits l) = some l)
  ∧ (∀ l : List Octet, ¬ List.replicate 6 true <:+: frameBits l)
  ∧ (∀ f : Frame, (frameOctets f).length = 2 + payloadLength (bodyKind f.body)
      ∧ receive (frameBits (frameOctets f)) = some (frameOctets f)
      ∧ (let control := (frameOctets f).getD 1 0
        control.toNat % 32 = bodyKind f.body ∧ control.getLsbD 5 = false ∧ control.getLsbD 7 = f.taken.isNone
          ∧ ∀ b, f.taken = some b → control.getLsbD 6 = b))
  ∧ (∀ c : CapSet, capsOf (capsOctet c) = c)
  ∧ (∀ (z u number tag : Nat) (n : Bool) (code : Octet) (caps : CapSet), u < 256 → number < 2 ^ 32 → tag < 2 ^ 24 →
      let control (kind : Nat) : Octet := BitVec.ofNat 8 (kind + if n then 32 else 0)
      let command (kind : Nat) (payload : List Octet) : Option Instr :=
        lineCommand z (frameBits (BitVec.ofNat 8 u :: control kind :: payload))
      command 0x10 [] = some (.quiet z u)
        ∧ command 0x11 [code, capsOctet caps] = some (.join z u (Config.layoutValue UnitKind 0x11 code) caps)
        ∧ command 0x13 (octets 4 number ++ octets 3 tag) = some (.checkin z u n number tag)
        ∧ command 0x14 (octets 4 number) = some (.handin z u n number)
        ∧ command 0x16 [] = some (.help z u n)
        ∧ command 0x17 (octets 3 tag) = some (.tagRead z u n tag))

/-! ### The task port -/

/-- AREA_WRITE (R194, R195): in IDLE a write to PARAM lands octet by octet, the octets beyond the area ignored, a TASK
write of a task's code starts that task with some operands (the layout of the parameters is open: log entry 3), one of
no task's code completes with UNKNOWN_TASK, and 00h starts nothing; a RUNNING mailbox ignores both and says so; RESULT
and STATUS take no write (that one in RUNNING sets no ignored-write flag is log entry 27). The first octet of a
transaction names the area in bits 0–1 and in bit 7 a read; a write of two octets or more is that AREA_WRITE, and a
read changes nothing and has the output drive octet 0 of the status word, then 00h, then the area's octets from the
offset on (R194, R206). -/
def Obligations.AreaWriteReachesArea : Prop :=
  (  ∀ (s : State) (offset : Nat) (o : Octet) (rest : List Octet), s.power.power = .on →
      (s.port.running = none → offset < Config.areaOctets →
        ∃ t, exec (.areaWrite .param offset (o :: rest)) s = .next t ∧ t.port.param.length = s.port.param.length
          ∧ (∀ i, i < s.port.param.length → t.port.param.getD i 0 =
            if offset ≤ i then (o :: rest).getD (i - offset) (s.port.param.getD i 0) else s.port.param.getD i 0)
          ∧ t = { s with port := { s.port with param := t.port.param } })
      ∧ (s.port.running = none → ∀ k, taskOfCode o.toNat = some k →
        ∃ c, taskOf c = some k ∧ exec (.areaWrite .task 0 (o :: rest)) s = exec c s)
      ∧ (s.port.running = none → taskOfCode o.toNat = none → o ≠ 0 →
        exec (.areaWrite .task 0 (o :: rest)) s = .next (s.completed .unknownTask false .nothing))
      ∧ (s.port.running = none → o = 0 → exec (.areaWrite .task 0 (o :: rest)) s = .next s)
      ∧ (s.port.running.isSome = true → offset < Config.areaOctets →
        exec (.areaWrite .task 0 (o :: rest)) s = .next { s with port := { s.port with ignoredWrite := true } }
        ∧ exec (.areaWrite .param offset (o :: rest)) s = .next { s with port := { s.port with ignoredWrite := true } })
      ∧ exec (.areaWrite .result offset (o :: rest)) s = .next s
      ∧ exec (.areaWrite .status offset (o :: rest)) s = .next s)
  ∧ (∀ (s : State) (a o : Octet) (data : List Octet) (i : Nat), s.power.power = .on →
      let area : Area := if a.getLsbD 1 then (if a.getLsbD 0 then .status else .result)
        else (if a.getLsbD 0 then .param else .task)
      transactionCommand [] = none ∧ transactionCommand [a] = none
        ∧ (a.getLsbD 7 = false → transactionCommand (a :: o :: data) = some (.areaWrite area o.toNat data))
        ∧ (a.getLsbD 7 = true → transactionCommand (a :: o :: data) = none
          ∧ s.outputOctet (a :: o :: data) (i + 2) = s.readOctet area (o.toNat + i))
        ∧ s.outputOctet (a :: o :: data) 0 = some (s.statusOctet 0) ∧ s.outputOctet (a :: o :: data) 1 = some 0)

/-- ENTER_LEVEL (R200): outside a lockout the passcode opens the level, a wrong one is counted and the third in a row
locks entry for 60 hall seconds; in a lockout every entry is denied. -/
def Obligations.EnterLevelCountsWrongEntries : Prop :=
  ∀ (s : State) (l : PassLevel) (passcode : BitVec 32), s.Idle →
    let stored := match l with
      | .invigilator => s.settings.working.invigilatorPasscode
      | .examiner => s.settings.working.examinerPasscode
    (s.port.lockout = 0 → stored = none ∨ stored = some passcode →
      exec (.enterLevel (some l) passcode) s = .next
        (({ s with port := { s.port with
            level := (match l with
              | .invigilator => .invigilator
              | .examiner => .examiner),
            wrongEntries := 0 } } : State).completed .ok false .nothing))
    ∧ (s.port.lockout = 0 → stored ≠ none → stored ≠ some passcode → s.port.wrongEntries < 2 →
      exec (.enterLevel (some l) passcode) s = .next
        (({ s with port := { s.port with wrongEntries := s.port.wrongEntries + 1 } } : State).completed .denied false
          .nothing))
    ∧ (s.port.lockout = 0 → stored ≠ none → stored ≠ some passcode → 2 ≤ s.port.wrongEntries →
      exec (.enterLevel (some l) passcode) s = .next
        (({ s with port := { s.port with wrongEntries := 0, lockout := 60 } } : State).completed .denied false .nothing))
    ∧ (0 < s.port.lockout → exec (.enterLevel (some l) passcode) s = .next (s.completed .denied false .nothing))

/-- LEAVE_LEVEL, SET_PASSCODE and SET_GRANTS write the level, the passcode of the level given, and the grant set
(R200, R201); that SET_GRANTS takes one octet in the bit order of R206, and refuses one of 64 or more, is the model's
reading (log entry 26). SET_LINE_LIMITS, SET_CALIBRATION and SET_SIGNAL write the working settings with the clamps of
R141 and R152, and SET_SIGNAL ends a pulse of its output (R80; that an output newly assigned BELL is low is log entry
42). -/
def Obligations.AccessAndSettingsWritten : Prop :=
  (∀ s : State,
      (s.Idle → exec .leaveLevel s = .next
        (({ s with port := { s.port with level := .none } } : State).completed .ok false .nothing))
      ∧ (s.Ready .setPasscode → ∀ v,
        exec (.setPasscode (some .invigilator) v) s = .next (({ s with settings := { s.settings with
            working := { s.settings.working with invigilatorPasscode := v } } } : State).completed .ok false
              (.passcode .invigilator v.isSome))
        ∧ exec (.setPasscode (some .examiner) v) s = .next (({ s with settings := { s.settings with
            working := { s.settings.working with examinerPasscode := v } } } : State).completed .ok false
              (.passcode .examiner v.isSome)))
      ∧ (s.Ready .setGrants → ∀ o : Octet,
        (o.toNat < 64 → ∃ g : Grants, exec (.setGrants o) s = .next (({ s with settings := { s.settings with
              working := { s.settings.working with grants := g } } } : State).completed .ok false (.grants g))
            ∧ g.roster = o.getLsbD 0 ∧ g.seats = o.getLsbD 1 ∧ g.placement = o.getLsbD 2
            ∧ g.sittingControl = o.getLsbD 3 ∧ g.time = o.getLsbD 4 ∧ g.review = o.getLsbD 5)
        ∧ (64 ≤ o.toNat → exec (.setGrants o) s = .next (s.completed .badParam false .nothing))))
  ∧ (∀ s : State,
      (s.Ready .setLineLimits → ∀ loss regain : Nat,
        exec (.setLineLimits loss regain) s = .next (({ s with settings := { s.settings with
          working := { s.settings.working with
            lossLimit := max 2 (min 15 loss), regainLimit := max 1 (min 31 regain) } } } : State).completed .ok
              (decide (max 2 (min 15 loss) ≠ loss) || decide (max 1 (min 31 regain) ≠ regain))
              (.limits (max 2 (min 15 loss)) (max 1 (min 31 regain)))))
      ∧ (s.Ready .setCalibration → ∀ (i : Nat) (gain : BitVec 16) (shift : Nat) (offset : Int), i < 5 ∨ i = 255 →
        ∃ t : State, exec (.setCalibration i gain shift offset) s = .next t
          ∧ t.Answered .ok (decide (min 7 shift ≠ shift) || decide (max (-512) (min 511 offset) ≠ offset))
              (.calibration t.settings.working.calibration)
          ∧ (∀ j, j < 5 → channelOf t.settings.working.calibration j =
            if i = j ∨ i = 255 then
              { gain := gain.toNat, shift := min 7 shift, offset := max (-512) (min 511 offset) }
            else channelOf s.settings.working.calibration j)
          ∧ t.settings = { s.settings with working := { s.settings.working with
              calibration := t.settings.working.calibration } }
          ∧ OnlyChanges [.mailbox, .settings] s t)
      ∧ (s.Ready .setSignal → ∀ (o : Nat) (c : SignalCond), o < 4 → badCond c = false →
        ∃ (t : State) (level : Bool), exec (.setSignal o (some c)) s = .next t
          ∧ t.Answered .ok false (.signal o c level) ∧ level = t.signalLevel o
          ∧ signalOf t.settings.working.signals o = c
          ∧ (∀ j, j < 4 → j ≠ o → signalOf t.settings.working.signals j = signalOf s.settings.working.signals j)
          ∧ t.bell o = 0 ∧ (∀ j, j ≠ o → t.bell j = s.bell j)
          ∧ OnlyChanges [.mailbox, .settings, .bells] s t))

/-- SET_THRESHOLDS clamps HIGH to 1–1023, then LOW to 0 through HIGH − 1, and E to 1–1023, and writes the three
together in the working settings alone; the clamped flag is set when any clamp changed a value, and the result block
carries the three values as written; without the examiner level it is DENIED. With HIGH at 1 a darkness of 0 is EMPTY
and every other FILLED; with HIGH at 1023 only 1023 is FILLED (R154). -/
def Obligations.ThresholdsWritten : Prop :=
  ∀ (s : State) (high low e : Nat),
    let h := max 1 (min 1023 high)
    let l := min (h - 1) low
    let m := max 1 (min 1023 e)
    (s.Idle → s.port.level = .examiner →
      exec (.setThresholds high low e) s = .next (({ s with settings := { s.settings with
        working := { s.settings.working with thresholds := { high := h, low := l, margin := m } } } } : State).completed
          .ok (decide (h ≠ high ∨ l ≠ low ∨ m ≠ e)) (.thresholds { high := h, low := l, margin := m })))
    ∧ (s.Idle → s.port.level ≠ .examiner →
      exec (.setThresholds high low e) s = .next (s.completed .denied false .nothing))
    ∧ (h = 1 → l = 0 ∧ ∀ d, classify { high := h, low := l, margin := m } d = if d = 0 then .empty else .filled)
    ∧ (h = 1023 → ∀ d, d ≤ 1023 → (classify { high := h, low := l, margin := m } d = .filled ↔ d = 1023))

/-- READ_NOTICES carries the pending kinds in ascending code with their counts and subjects, and empties the set; the
attention output is then deasserted (R198). -/
def Obligations.NoticesReadAndCleared : Prop :=
  ∀ s : State, s.Ready .readNotices →
    ∃ l : List (NoticeKind × Notice),
      exec .readNotices s = .next (({ s with port := { s.port with notices := [] } } : State).completed .ok false
        (.notices l))
      ∧ (∀ k n, (k, n) ∈ l ↔ n = s.notice k ∧ 0 < n.count)
      ∧ (l.map fun p => noticeCode p.1).Pairwise (· < ·)
      ∧ (({ s with port := { s.port with notices := [] } } : State).completed .ok false (.notices l)).attention = false

/-- SAVE_SETTINGS begins a write of the working settings and leaves the mailbox RUNNING with its code; the write's end
puts them in the image, or leaves the image bad with STORE_FAULT (R202). -/
def Obligations.SettingsSaved : Prop :=
  ∀ s : State,
    (s.Ready .saveSettings → exec .saveSettings s = .next { s with
      port := { s.port with running := some 0x06, result := {}, ignoredWrite := false },
      settings := { s.settings with writing := some s.settings.working } })
    ∧ (s.power.power = .on → ∀ w, s.settings.writing = some w →
      (∃ t, exec (.settingsWriteEnd true) s = .next t
        ∧ t.settings = { s.settings with image := w, imageGood := true, writing := none }
        ∧ t.port.running = none ∧ t.port.result = { code := .ok } ∧ OnlyChanges [.mailbox, .settings] s t)
      ∧ (∃ t, exec (.settingsWriteEnd false) s = .next t
        ∧ t.settings = { s.settings with imageGood := false, writing := none }
        ∧ t.port.running = none ∧ t.port.result = { code := .storeFault } ∧ OnlyChanges [.mailbox, .settings] s t))

/-! ### Starts -/

/-- REBOOT, RESETN and the return of the main supply begin a warm start: level NONE, no lockout, no run and no offer,
every sitting in OPEN through OVERTIME held for RESTART, an active run's sitting ABORTED with its counts, lines
without a queue or a frame, every known unit UP with its counters 0, its last taken number none and its JOIN awaited,
a READING tray DONE or, with an empty list, EMPTY, no walk and no batch. The reseat queue is the DISPLACED candidates
with no seat, up to 16 in roster order, which is ascending number (R1), and the walk queue the LOCKED keys with a
revision above 0. The roster's candidates, the tag index, the extents, the keys and hall time are kept (R19, R37, R61,
R83, R121, R143, R177, R193, R203). That the start cause is recorded as the start begins, and which buffer counts as
freed first, are the model's choices (log entries 69 and 13). -/
def Obligations.WarmStartBegins : Prop :=
  ∀ (s : State) (c : Instr) (cause : StartCause), s.Canonical →
    (c = .reboot ∧ cause = .reboot ∧ s.Ready .reboot)
      ∨ (c = .resetn ∧ cause = .resetn ∧ (s.power.power = .on ∨ s.power.power = .starting))
      ∨ (c = .mainSupplyReturn ∧ cause = .supply ∧ s.power.power = .standby) →
    ∃ t, exec c s = .next t
      ∧ t.power.power = .starting ∧ t.power.cause = cause
      ∧ t.settings.working = (if s.settings.imageGood = true ∧ s.settings.writing = none then s.settings.image else {})
      ∧ t.port.running = none ∧ t.port.level = .none ∧ t.port.lockout = 0 ∧ t.port.wrongEntries = 0
      ∧ t.placement.run = none ∧ t.placement.offers = [] ∧ (∀ e ∈ t.roster.entries, e.offer = none)
      ∧ t.placement.reseats =
        ((s.roster.entries.filter fun e => decide (e.presence = .displaced ∧ e.seat = none)).take 16).map
          (fun e => { slot := e.slot, former := none, excluded := none })
      ∧ (∀ r, s.placement.run = some r → (t.sitting r.sitting).alloc = .aborted
        ∧ (t.sitting r.sitting).runPlaced = r.placed ∧ (t.sitting r.sitting).runUnplaced = r.unplaced
        ∧ (t.sitting r.sitting).runPassed = r.passed)
      ∧ (∀ k, (∀ r, s.placement.run = some r → r.sitting ≠ k) → (t.sitting k).alloc = (s.sitting k).alloc)
      ∧ (∀ k, (t.sitting k).phase = (s.sitting k).phase
        ∧ (t.sitting k).holds = if holdPhase (s.sitting k).phase then
            { (s.sitting k).holds with
              restart := true, alarm := (s.sitting k).holds.alarm || s.hall.alarm }
          else (s.sitting k).holds)
      ∧ (∀ d, (t.seat d).link = (if (s.seat d).link = .unknown then .unknown else .up)
        ∧ (t.seat d).caps = (s.seat d).caps ∧ (t.seat d).disabled = (s.seat d).disabled
        ∧ (t.seat d).tenure = match (s.seat d).tenure with
          | .offered _ => .empty
          | x => x)
      ∧ (∀ z, (t.line z).queue = [] ∧ (t.line z).slot = .idle ∧ (t.line z).slotCount = 0
        ∧ (t.line z).ringPointer = 247 ∧ (t.line z).probePointer = 0)
      ∧ (∀ z u, t.linkRecord z u =
        if (s.linkRecord z u).state = .unknown then
          { state := .unknown, misses := 0, goods := 0, lastTaken := none, joinAwaited := false }
        else { state := .up, misses := 0, goods := 0, lastTaken := none, joinAwaited := true })
      ∧ (∀ u, ((s.tray u).state ≠ .reading → t.tray u = s.tray u)
        ∧ ((s.tray u).state = .reading → (s.tray u).tags ≠ [] → t.tray u = { s.tray u with state := .done })
        ∧ ((s.tray u).state = .reading → (s.tray u).tags = [] →
          t.tray u = { state := .empty, sitting := none, tags := [] }))
      ∧ t.sheet = {} ∧ t.scoring.walk = none ∧ t.scoring.batch = {}
      ∧ t.scoring.walkQueue.Pairwise (· < ·)
      ∧ (∀ k, k ∈ t.scoring.walkQueue ↔ k < 16 ∧ (s.key k).state = .locked ∧ 0 < (s.key k).revision)
      ∧ OnlyChanges warmParts s t

/-- The supplies: the loss of the main supply cuts a write of the store short and leaves the part in standby, or
without power where the standby supply was lost before it; the loss of the standby supply in standby leaves it without
power; the main supply then starts it cold with every record at its default (an EMPTY sitting's counters 0: log entry
55; buffer 0 freed before buffer 1: log entry 13) and the start cause recorded (log entry 69) and the image or the
factory settings loaded (which events the supplies admit is log entry 28, and that the standby supply returns with a
cold start log entry 51), and start-up ends with the start's notices pending (R202, R203). -/
def Obligations.SuppliesAndColdStart : Prop :=
  ∀ s : State,
    (s.power.power = .on ∨ s.power.power = .starting → exec .mainSupplyLoss s = .next { s with
      power := { s.power with power := if s.power.standby then .standby else .off },
      settings := { s.settings with
        imageGood := s.settings.imageGood && s.settings.writing.isNone, writing := none } })
    ∧ (s.power.power = .on ∨ s.power.power = .starting →
      exec .standbySupplyLoss s = .next { s with power := { s.power with standby := false } })
    ∧ (s.power.power = .standby →
      exec .standbySupplyLoss s = .next { s with power := { s.power with power := .off, standby := false } })
    ∧ (s.power.power = .off → exec .mainSupplyReturn s = .next s)
    ∧ (s.power.power = .off → ∃ good : Bool, good = (s.settings.imageGood && s.settings.writing.isNone)
      ∧ exec .coldStart s = .next
        { power := { power := .starting, standby := true, cause := .cold, settingsLost := !good,
                     alarmFound := if s.hall.alarm then some .none else none },
          hall := { alarm := s.hall.alarm },
          settings := { working := if good then s.settings.image else {}, image := s.settings.image,
                        imageGood := good, writing := none },
          pending := s.pending })
    ∧ (s.power.power = .starting → ∃ t, exec .startupComplete s = .next t
      ∧ t.power = { power := .on, standby := s.power.standby, cause := s.power.cause }
      ∧ (∀ k, t.notice k =
        match k with
        | .coldStart => if s.power.cause = .cold then { count := 1 } else {}
        | .warmStart => if s.power.cause = .cold then {} else { count := 1, subject := .cause s.power.cause }
        | .settingsLost => if s.power.settingsLost then { count := 1 } else {}
        | .alarm => (match s.power.alarmFound with
          | some x => { count := 1, subject := x }
          | none => {})
        | _ => {})
      ∧ OnlyChanges [.power, .notices, .walks] s t)

/-! ### The roster -/

/-- ENROL, with room for every entry: each valid candidate number not in the roster gets an entry of the sitting in a
free slot with its clamped allowances and its budget; the candidates in the roster are untouched, and the enrolled
count rises by those taken (R1, R3, R4, R6, R7). WITHDRAW of an EXPECTED candidate deletes its entry and no other,
frees its slot and a seat held for it, and lowers the enrolled count (R9, R10). -/
def Obligations.EnrolAndWithdraw : Prop :=
  (∀ (s : State) (k : Nat) (l : List EnrolEntry), s.Ready .enrol → k < Config.sittings → l ≠ [] → l.length ≤ 8 →
      (s.sitting k).phase = .defined ∨ (s.sitting k).phase = .opened ∨ (s.sitting k).phase = .reading →
      s.roster.entries.length + l.length ≤ Config.slots →
      ∃ (t : State) (codes : List ResultCode), exec (.enrol k l) s = .next t
        ∧ codes.length = l.length ∧ t.port.running = none
        ∧ t.port.result.report = .enrolled (codes.filter (· == .ok)).length codes
        ∧ t.sitting k = { s.sitting k with enrolled := (s.sitting k).enrolled + (codes.filter (· == .ok)).length }
        ∧ (∀ j, j ≠ k → t.sitting j = s.sitting j)
        ∧ (∀ n e, s.byNumber? n = some e → t.byNumber? n = some e)
        ∧ (∀ n, s.byNumber? n = none →
          match l.find? fun p => p.number == n && !badNumber n with
          | none => t.byNumber? n = none
          | some p => ∃ slot, slot < Config.slots ∧ s.entry? slot = none ∧ t.byNumber? n = some
            { slot := slot, number := n, sitting := k, needs := p.needs, allowance := min 100 p.allowance,
              restAllowance := min 3600 p.restAllowance,
              budget := min 57600 ((s.sitting k).defn.writing
                + ((s.sitting k).defn.writing * min 100 p.allowance + 99) / 100) })
        ∧ OnlyChanges [.mailbox, .identities, .entries, .sittings] s t)
  ∧ (∀ (s : State) (n : Nat) (e : Entry), s.Ready .withdraw → s.RosterOrdered → s.byNumber? n = some e →
      e.presence = .expected →
      ∃ t, exec (.withdraw n) s = .next t
        ∧ t.Answered .ok false (.withdrawn n (if e.seat.isSome then e.seat else e.offer))
        ∧ t.roster.entries.map identity = (s.roster.entries.map identity).filter (fun x => x.1 != e.slot)
        ∧ t.byNumber? n = none ∧ t.entry? e.slot = none
        ∧ (t.sitting e.sitting).enrolled = (s.sitting e.sitting).enrolled - 1
        ∧ (∀ d, e.seat = some d → (s.seat d).tenure = .held e.slot → (t.seat d).tenure = .empty)
        ∧ OnlyChanges (mayChange (.withdraw n)) s t)

/-- AMEND writes the values given, clamped, and recomputes the budget with a new allowance; used and rest used stay
(R12–R14, R85). -/
def Obligations.AmendWritesFacets : Prop :=
  ∀ (s : State) (n : Nat) (e : Entry) (needs : Option CapSet) (a r : Option Nat), s.Ready .amend → s.RosterOrdered →
    s.byNumber? n = some e → needs.isSome ∨ a.isSome ∨ r.isSome → (a.isSome ∨ r.isSome → e.clock ≠ .ended) →
    s.needsRefused e needs = false →
    ∃ t x, exec (.amend n needs a r) s = .next t ∧ t.port.running = none ∧ t.port.result.code = .ok
      ∧ t.byNumber? n = some x ∧ identity x = identity e
      ∧ x.needs = needs.getD e.needs
      ∧ x.allowance = (a.map fun v => min 100 v).getD e.allowance
      ∧ x.restAllowance = (r.map fun v => max e.restUsed (min 3600 v)).getD e.restAllowance
      ∧ x.budget = (if a.isSome then budgetOf (s.sitting e.sitting).defn.writing x.allowance e.adjustSum e.used
          else e.budget)
      ∧ x.used = e.used ∧ x.restUsed = e.restUsed ∧ x.adjustSum = e.adjustSum
      ∧ OnlyChanges (mayChange (.amend n needs a r)) s t

/-- The budget is W + ceil(W × a / 100) + the adjustment sum, clamped to the range from used to 57,600 (R85). -/
def Obligations.BudgetFollowsFormula : Prop :=
  ∀ (w a used : Nat) (sum : Int), used ≤ 57600 →
    let extra := (w * a + 99) / 100
    (extra * 100 ≥ w * a ∧ (0 < extra → (extra - 1) * 100 < w * a))
    ∧ (((w : Int) + extra + sum < used → budgetOf w a sum used = used)
      ∧ (57600 < (w : Int) + extra + sum → budgetOf w a sum used = 57600)
      ∧ ((used : Int) ≤ w + extra + sum → (w : Int) + extra + sum ≤ 57600 →
        ((budgetOf w a sum used : Nat) : Int) = w + extra + sum))

/-- The tasks that only report complete with OK and change nothing but the mailbox; they report the record, the key
and the mark record as they stand (that a key in EMPTY reports its state for its amendments too is log entry 58), and
LIST the first eight entries that match in ascending candidate number (R15, R16, R32, R82, R120, R165, R191). -/
def Obligations.ReportsChangeNothing : Prop :=
  (∀ s : State,
      (s.Ready .lookup → ∀ n e, badNumber n = false → s.byNumber? n = some e →
        ∃ r, exec (.lookup (.number n)) s = .next (s.completed .ok false (.lookup r))
          ∧ r.number = e.number ∧ r.sitting = e.sitting ∧ r.seat = e.seat ∧ r.offer = e.offer ∧ r.presence = e.presence
          ∧ r.clock = e.clock ∧ r.budget = e.budget ∧ r.used = e.used ∧ r.remaining = e.budget - e.used
          ∧ r.tag = e.tag ∧ r.custody = e.custody ∧ r.tray = e.tray)
      ∧ (s.Ready .lookup → ∀ t e, badTag t = false → s.byTag? t = some e →
        ∃ r, exec (.lookup (.tag t)) s = .next (s.completed .ok false (.lookup r)) ∧ r.number = e.number)
      ∧ (s.Ready .list → ∀ k, k < Config.sittings → ∀ start, start ≤ Config.lastNumber →
        ∃ l more, exec (.list k .any start) s = .next (s.completed .ok false (.list l more))
          ∧ l.map ListLine.number = (((s.roster.entries.filter fun e => start ≤ e.number ∧ e.sitting = k).take 8).map
            Entry.number)
          ∧ (more = true ↔ 8 < (s.roster.entries.filter fun e => start ≤ e.number ∧ e.sitting = k).length))
      ∧ (s.Ready .seatInfo → ∀ d, d < Config.seats →
        ∃ r, exec (.seatInfo (.seat d)) s = .next (s.completed .ok false (.seat r))
          ∧ r.link = (s.seat d).link ∧ r.caps = (s.seat d).caps ∧ r.disabled = (s.seat d).disabled
          ∧ r.tenure = (s.seat d).tenure.kind
          ∧ r.occupant = (occupant (s.seat d).tenure).bind s.numberOf
          ∧ r.offeree = (offeree (s.seat d).tenure).bind s.numberOf ∧ r.awaiting = awaitingTag (s.seat d).tenure
          ∧ r.zone = d / 240 ∧ r.row = d % 240 / 15 ∧ r.column = d % 240 % 15)
      ∧ (s.Ready .seatInfo → ∀ z, z < Config.zones →
        ∃ r, exec (.seatInfo (.zone z)) s = .next (s.completed .ok false (.zone r))
          ∧ r.empty + r.offered + r.held + r.occupied + r.vacated = 240 ∧ r.unknown + r.up + r.down = 240)
      ∧ (s.Ready .seatInfo → exec (.seatInfo .other) s = .next (s.completed .badParam false .nothing))
      ∧ (s.Ready .sittingInfo → ∀ k, k < Config.sittings →
        ∃ r, exec (.sittingInfo k) s = .next (s.completed .ok false (.sitting r))
          ∧ r.record = s.sitting k ∧ r.keyState = (s.key k).state ∧ r.keyRevision = (s.key k).revision
          ∧ r.hallTime = s.hall.time ∧ r.hallTimeSet = s.hall.timeSet)
      ∧ (s.Ready .trayInfo → ∀ u start, u < Config.trays → 1 ≤ start → start ≤ Config.trayTags →
        ∃ r, exec (.trayInfo u start) s = .next (s.completed .ok false (.tray r))
          ∧ r.state = (s.tray u).state ∧ r.sitting = (s.tray u).sitting ∧ r.count = (s.tray u).tags.length
          ∧ r.entries.map TrayLine.tag = ((s.tray u).tags.drop (start - 1)).take 20))
  ∧ (∀ s : State,
      (s.Ready .readKey → ∀ k, k < Config.sittings → beingSat (s.sitting k).phase = false →
        (∀ start, 1 ≤ start → start ≤ 120 →
          ∃ r, exec (.readKey k (some .headerAndQuestions) start) s = .next (s.completed .ok false (.key r))
            ∧ r.state = (s.key k).state ∧ r.q = (s.key k).q ∧ r.revision = (s.key k).revision
            ∧ r.questions.map QuestionLine.question
              = ((List.range' start ((s.key k).q + 1 - start)).take 20)
            ∧ ∀ x ∈ r.questions, x.accepted = ((s.key k).question x.question).accepted
              ∧ x.weight = ((s.key k).question x.question).weight ∧ x.void = ((s.key k).question x.question).void)
        ∧ (∀ start, 1 ≤ start → start ≤ 31 →
          ∃ l more, exec (.readKey k (some .amendments) start) s = .next (s.completed .ok false
              (.amendments (if (s.key k).state = .empty then some .empty else none) l more))
            ∧ l = ((s.key k).amendments.filter fun a => start ≤ a.revision).take 20))
      ∧ (s.Ready .readMark → ∀ n e m, badNumber n = false → s.byNumber? n = some e → e.mark = some m →
        (∃ r, exec (.readMark (.number n) (some .summary)) s = .next (s.completed .ok false (.mark r))
          ∧ r.number = e.number ∧ r.custody = e.custody ∧ r.totals = m.totals ∧ r.queries = m.queries
          ∧ r.disputes = m.disputes ∧ r.hasSecond = m.second.isSome)
        ∧ exec (.readMark (.number n) (some .first)) s = .next (s.completed .ok false (.vector (some m.first)))
        ∧ exec (.readMark (.number n) (some .second)) s = .next (s.completed .ok false (.vector m.second))
        ∧ exec (.readMark (.number n) (some .working)) s = .next (s.completed .ok false (.vector (some m.working)))))

/-! ### The seat map -/

/-- DISABLE_SEAT and ENABLE_SEAT write the DISABLED flag of their seat and no other (R31; that a refusal with CONFLICT
reports nothing more is log entry 60). RESERVE sets the extent of its side, where no test of R34 refuses it, and
UNRESERVE drops an unlocked one; the zone's other extent and the other zones stay (R34, R35). -/
def Obligations.SeatMapTasksWrite : Prop :=
  (∀ (s : State) (d : Nat), d < Config.seats →
      (s.Ready .disableSeat → (s.seat d).tenure = .empty →
        ∃ t, exec (.disableSeat d) s = .next t ∧ t.Answered .ok false (.flagged d .empty true)
          ∧ t.seat d = { s.seat d with disabled := true } ∧ (∀ j, j ≠ d → t.seat j = s.seat j)
          ∧ OnlyChanges (mayChange (.disableSeat d)) s t)
      ∧ (s.Ready .disableSeat → (s.seat d).tenure ≠ .empty →
        exec (.disableSeat d) s = .next (s.completed .conflict false .nothing))
      ∧ (s.Ready .enableSeat →
        ∃ t, exec (.enableSeat d) s = .next t ∧ t.Answered .ok false (.flagged d (s.seat d).tenure.kind false)
          ∧ t.seat d = { s.seat d with disabled := false } ∧ (∀ j, j ≠ d → t.seat j = s.seat j)
          ∧ OnlyChanges (mayChange (.enableSeat d)) s t))
  ∧ (∀ (s : State) (z : Nat) (side : Side), z < Config.zones → s.placement.run = none →
      (∀ x, extentOf (s.zoneExtents z) side = some x → s.locked x.owner = false) →
      (s.Ready .reserve → ∀ (code : Nat) (owner : Owner), 1 ≤ code → code ≤ 5 → badOwner owner = false →
        s.ownerPhaseRefused owner = false → s.ownerMaskLacks z owner = false →
        extentRows code + rowsHeld (extentOf (s.zoneExtents z) (otherSide side)) ≤ 16 →
        (∀ d ∈ extentSeats z side code, isOffered (s.seat d).tenure = false ∧ s.heldAgainst owner d = false) →
        ∃ t, exec (.reserve z (some side) code owner) s = .next t
          ∧ t.Answered .ok false (.reserved z side (extentSpan side code).1 (extentSpan side code).2 owner)
          ∧ extentOf (t.zoneExtents z) side = some { code := code, owner := owner }
          ∧ extentOf (t.zoneExtents z) (otherSide side) = extentOf (s.zoneExtents z) (otherSide side)
          ∧ (∀ y, y ≠ z → t.zoneExtents y = s.zoneExtents y) ∧ OnlyChanges [.mailbox, .extents] s t)
      ∧ (s.Ready .unreserve → extentOf (s.zoneExtents z) side ≠ none →
        ∃ t, exec (.unreserve z (some side)) s = .next t ∧ t.Answered .ok false .nothing
          ∧ extentOf (t.zoneExtents z) side = none
          ∧ extentOf (t.zoneExtents z) (otherSide side) = extentOf (s.zoneExtents z) (otherSide side)
          ∧ (∀ y, y ≠ z → t.zoneExtents y = s.zoneExtents y) ∧ OnlyChanges [.mailbox, .extents] s t))

/-! ### Placement -/

/-- ALLOCATE starts a run over the sitting's candidates that await a seat, in ascending candidate number; with none,
and no RUN offer outstanding, the run ends at once DONE with its notice (R38, R44, R47). ABORT_ALLOCATION ends the run
with no RUN offer left (R48). MOVE releases the candidate's seat and offers it the seat named, or appends it to the
reseat queue, ahead of the stranded candidates its old seat brings back (that they join last is log entry 21); a
PRESENT candidate becomes DISPLACED (R59, R60, R97). -/
def Obligations.RunsAndMoves : Prop :=
  (∀ (s : State) (k : Nat), k < Config.sittings →
      (s.Ready .allocate → s.placement.run = none →
        (s.sitting k).phase = .defined ∨ (s.sitting k).phase = .opened ∨ (s.sitting k).phase = .reading →
        ∃ t, exec (.allocate k) s = .next t
          ∧ t.Answered .started false (.runStarted k (s.slotsOf k (awaitsPlacement k)).length)
          ∧ (s.slotsOf k (awaitsPlacement k) ≠ [] →
            t.placement.run = some { sitting := k, list := s.slotsOf k (awaitsPlacement k), position := 0, retry := [],
                                     skip := [], placed := 0, unplaced := 0, passed := 0 }
            ∧ (t.sitting k).alloc = .running)
          ∧ (s.slotsOf k (awaitsPlacement k) = [] → (∀ o ∈ s.placement.offers, o.purpose ≠ .run) →
            t.placement.run = none ∧ (t.sitting k).alloc = .done ∧ 0 < (t.notice .allocDone).count)
          ∧ (∀ j, j ≠ k → t.sitting j = s.sitting j) ∧ OnlyChanges (mayChange (.allocate k)) s t)
      ∧ (s.Ready .abortAllocation → ∀ r, s.placement.run = some r → r.sitting = k → (s.sitting k).alloc = .running →
        ∃ t, exec (.abortAllocation k) s = .next t
          ∧ t.Answered .ok false (.runAborted k r.placed r.unplaced ((r.list.length - r.position) + r.retry.length)
              (s.placement.offers.filter fun o => o.purpose = .run).length)
          ∧ t.placement.run = none ∧ (t.sitting k).alloc = .aborted ∧ (∀ o ∈ t.placement.offers, o.purpose ≠ .run)
          ∧ OnlyChanges (mayChange (.abortAllocation k)) s t))
  ∧ (∀ (s : State) (n : Nat) (e : Entry) (d0 : Nat), s.Ready .move → s.RosterOrdered → badNumber n = false →
      s.byNumber? n = some e → e.presence = .expected ∨ e.presence = .present → s.placementBusy e = false →
      e.seat = some d0 → occupant (s.seat d0).tenure = some e.slot →
      (∀ d, d < Config.seats → s.suits e d = true → s.placement.offers.length < Config.offers →
        ∃ t x, exec (.move n (.seat d)) s = .next t ∧ t.Answered .started false (.moved n (.seat d) (some d0))
          ∧ (t.seat d0).tenure = .empty ∧ (t.seat d).tenure = .offered e.slot
          ∧ t.placement.offers = s.placement.offers
              ++ [{ seat := d, slot := e.slot, purpose := .move, origin := some d0, stage := .waiting }]
          ∧ t.byNumber? n = some x ∧ x.seat = none ∧ x.offer = some d
          ∧ (e.presence = .expected → x.presence = .expected)
          ∧ (e.presence = .present → x.presence = .displaced ∧ x.displacedCause = true ∧ x.resting = false)
          ∧ OnlyChanges (mayChange (.move n (.seat d))) s t)
      ∧ (s.placement.reseats.length < Config.reseats →
        ∃ t x, exec (.move n .anySeat) s = .next t ∧ t.Answered .started false (.moved n .anySeat (some d0))
          ∧ (t.seat d0).tenure = .empty
          ∧ s.placement.reseats ++ [{ slot := e.slot, former := none, excluded := some d0 }] <+: t.placement.reseats
          ∧ t.byNumber? n = some x ∧ x.seat = none ∧ x.offer = none
          ∧ (e.presence = .expected → x.presence = .expected)
          ∧ (e.presence = .present → x.presence = .displaced ∧ x.displacedCause = true ∧ x.resting = false)
          ∧ OnlyChanges (mayChange (.move n .anySeat)) s t))

/-- PLACEMENT_STEP serves the head of the reseat queue first, then the retry list, then the run's list: the candidate
is offered the seat its search finds; a run candidate with no seat counts as unplaced, a reseat candidate with none
raises RESEAT_FAILED; with 16 offers outstanding nothing is served (R45, R46, R49, R57). A search finds a seat that is
usable, in the zone mask and in a group that is used, with the capabilities needed, obeying the spacing rule and not
left out, the first by group and then by seat number; a candidate without needs takes a STEP_FREE seat only where no
other is found; none is found only where no seat may be taken (R22, R33, R41, R42, R43; that a run's search reads the
extents as they stand then is log entry 62). A search from the reseat queue takes the former seat where it may, and
leaves out the excluded seat (R43). -/
def Obligations.PlacementStepOffersSeat : Prop :=
  ∀ s : State, s.power.power = .on →
    (Config.offers ≤ s.placement.offers.length → exec .placementStep s = .next s)
    ∧ (∀ (r : Reseat) (rest : List Reseat) (e : Entry), s.placement.offers.length < Config.offers →
      s.placement.reseats = r :: rest → s.entry? r.slot = some e → awaitsReseat e = true →
      (∀ d, s.searchReseat e r = some d →
        ∃ t, exec .placementStep s = .next t ∧ (t.seat d).tenure = .offered r.slot
          ∧ t.placement.offers = s.placement.offers
            ++ [{ seat := d, slot := r.slot, purpose := .reseat, origin := r.former, stage := .waiting }]
          ∧ t.placement.reseats = rest ∧ (∀ j, j ≠ d → t.seat j = s.seat j) ∧ OnlyChanges placementParts s t)
      ∧ (s.searchReseat e r = none →
        ∃ t, exec .placementStep s = .next t ∧ t.placement.offers = s.placement.offers
          ∧ t.placement.reseats = rest ∧ 0 < (t.notice .reseatFailed).count
          ∧ OnlyChanges [.reseats, .run, .sittings, .notices] s t))
    ∧ (∀ (r : Run) (c : Nat) (e : Entry), s.placement.offers.length < Config.offers → s.placement.reseats = [] →
      s.placement.run = some r →
      (∃ l, r.retry = c :: l) ∨ (r.retry = [] ∧ r.list[r.position]? = some c) →
      s.entry? c = some e → awaitsPlacement r.sitting e = true →
      (∀ d, (s.search e fun j => !r.skip.contains j) = some d →
        ∃ t, exec .placementStep s = .next t ∧ (t.seat d).tenure = .offered c
          ∧ t.placement.offers = s.placement.offers
            ++ [{ seat := d, slot := c, purpose := .run, origin := none, stage := .waiting }]
          ∧ (∀ j, j ≠ d → t.seat j = s.seat j) ∧ OnlyChanges placementParts s t)
      ∧ ((s.search e fun j => !r.skip.contains j) = none →
        ∃ t, exec .placementStep s = .next t
          ∧ (∀ x, t.placement.run = some x → x.unplaced = r.unplaced + 1)
          ∧ (t.placement.run = none → (t.sitting r.sitting).runUnplaced = r.unplaced + 1)
          ∧ OnlyChanges [.run, .sittings, .notices] s t))
    ∧ (∀ (e : Entry) (p : Nat → Bool), s.Searched e (fun d => p d = true) (s.search e p))
    ∧ (∀ (e : Entry) (r : Reseat),
      let former (f : Nat) : Prop := r.former = some f ∧ r.excluded ≠ some f ∧ ∃ g, s.Suits e g f
      (∀ f, former f → s.searchReseat e r = some f)
      ∧ ((∀ f, ¬ former f) → s.Searched e (fun d => r.excluded ≠ some d) (s.searchReseat e r)))
    ∧ (∀ code, 1 ≤ code → code ≤ 5 →
      extentSpan .front code = (0, 2 ^ (code - 1) - 1) ∧ extentSpan .back code = (16 - 2 ^ (code - 1), 15))

/-- A matching ACCEPT of a SENT offer makes its seat HELD by the candidate; a matching REFUSE makes it EMPTY with the
capabilities the desk states; any other reply leaves seats and offers alone (R51–R53). -/
def Obligations.OfferRepliesDecideOffer : Prop :=
  ∀ (s : State) (z u : Nat) (n : Bool) (number : Nat), u < Config.zoneSeats → s.Hears z u n →
    (∀ o slot, s.matching (seatOf z u) number = some o → (s.seat (seatOf z u)).tenure = .offered slot →
      (∃ t, exec (.offerReplyAccept z u n number) s = .next t ∧ t.Heard z u n
        ∧ (t.seat (seatOf z u)).tenure = .held slot ∧ t.offerOn? (seatOf z u) = none
        ∧ (∀ e, s.entry? slot = some e → ∃ x, t.entry? slot = some x ∧ x.seat = some (seatOf z u) ∧ x.offer = none
          ∧ (t.sitting e.sitting).placed = (s.sitting e.sitting).placed + 1)
        ∧ (∀ j, j ≠ seatOf z u → t.seat j = s.seat j)
        ∧ OnlyChanges (mayChange (.offerReplyAccept z u n number)) s t)
      ∧ (∀ caps, ∃ t, exec (.offerReplyRefuse z u n number caps) s = .next t ∧ t.Heard z u n
        ∧ (t.seat (seatOf z u)).tenure = .empty ∧ (t.seat (seatOf z u)).caps = caps
        ∧ t.offerOn? (seatOf z u) = none
        ∧ (∀ e, s.entry? slot = some e → ∃ x, t.entry? slot = some x ∧ x.offer = none ∧ x.seat = e.seat)
        ∧ (∀ j, j ≠ seatOf z u → t.seat j = s.seat j)
        ∧ OnlyChanges (mayChange (.offerReplyRefuse z u n number caps)) s t))
    ∧ (s.matching (seatOf z u) number = none →
      (∃ t, exec (.offerReplyAccept z u n number) s = .next t ∧ t.Heard z u n
        ∧ OnlyChanges [.lines, .notices] s t)
      ∧ (∀ caps, ∃ t, exec (.offerReplyRefuse z u n number caps) s = .next t ∧ t.Heard z u n
        ∧ OnlyChanges [.lines, .notices] s t))

/-- RESTART_LINE leaves its line idle with its counters at their start and no offer in its zone, the frame being sent
given up with ten 1s and more (R123; the model's count of ten is log entry 33). Its queue then holds the WITHDRAWs of
the zone's SENT offers in ascending seat number, and behind them one PHASE for each sitting in OPEN through COLLECTING
with the zone in its mask, in ascending index, all URGENT; the other lines are untouched, and the result counts the
entries removed and the offers failed (R54, R79, R142, R143). -/
def Obligations.RestartLineClearsLine : Prop :=
  ∀ (s : State) (z : Nat), s.Ready .restartLine → s.Canonical → z < Config.zones →
    ∃ t, exec (.restartLine z) s = .next t
      ∧ (s.SeatsAgree → t.Answered .ok false (.lineRestarted z (s.line z).queue.length
        (s.placement.offers.filter fun o => zoneOf o.seat == z).length))
      ∧ t.port.running = none ∧ t.port.result.code = .ok
      ∧ (t.line z).slot = .idle ∧ (t.line z).slotCount = 0 ∧ (t.line z).ringPointer = 247
      ∧ (∀ f, (s.line z).slot = .sending f → ∀ n, (t.line z).output n = List.replicate (10 + n) true)
      ∧ (t.line z).probePointer = 0
      ∧ (∀ u, t.linkRecord z u = { s.linkRecord z u with misses := 0, goods := 0, lastTaken := none })
      ∧ (∀ o ∈ t.placement.offers, zoneOf o.seat ≠ z) ∧ (∀ y, y ≠ z → t.line y = s.line y)
      ∧ (∀ (sent : List Offer) (told : List Nat), s.SeatsAgree → s.WithinCapacity →
        sent.Pairwise (fun a b => a.seat < b.seat) →
        (∀ o, o ∈ sent ↔ o ∈ s.placement.offers ∧ zoneOf o.seat = z ∧ o.stage ≠ .waiting) →
        told.Pairwise (· < ·) →
        (∀ k, k ∈ told ↔ k < 16 ∧ hasZone (s.sitting k).defn.zones z = true
          ∧ (s.sitting k).phase ∈ [Phase.opened, .reading, .writing, .overtime, .collecting]) →
        (t.line z).queue =
          (sent.map fun o => { unit := deskOf o.seat, urgent := true,
                               msg := .withdraw ((s.numberOf o.slot).getD 0) })
          ++ told.map fun k => { unit := 255, urgent := true,
                                 msg := .phase { sitting := k, phase := (s.sitting k).phase, holds := (s.sitting k).holds,
                                                 writing := (s.sitting k).defn.writing,
                                                 readingLeft := (s.sitting k).readingLeft,
                                                 elapsed := (s.sitting k).elapsed } })
      ∧ OnlyChanges (mayChange (.restartLine z)) s t

/-! ### Sittings -/

/-- DEFINE_SITTING writes the definition, clamped, to an EMPTY sitting, which becomes DEFINED with every count 0; a
DEFINED one that no test of R64 refuses keeps its counts and has its candidates' budgets recomputed (R4, R63, R64). -/
def Obligations.DefinitionWritten : Prop :=
  ∀ (s : State) (k : Nat) (p : DefineParams) (spacing : Spacing), s.Ready .defineSitting → k < Config.sittings →
    badDefinition p = false → p.spacing = some spacing →
    let d : Definition :=
      { paper := p.paper, zones := p.zones, spacing := spacing, confined := p.confined, openTime := p.openTime,
        startTime := p.startTime, reading := min 3600 p.reading, writing := p.writing,
        lateLimit := min p.writing (min 3600 p.lateLimit), earlyBar := min p.writing (min 7200 p.earlyBar),
        lastBar := min 3600 p.lastBar, warning1 := min 21600 p.warning1, warning2 := min 21600 p.warning2 }
    ((s.sitting k).phase = .empty →
      ∃ t, exec (.defineSitting k p) s = .next t
        ∧ t.Answered .ok (decide (d ≠ { d with
            reading := p.reading, lateLimit := p.lateLimit, earlyBar := p.earlyBar, lastBar := p.lastBar,
            warning1 := p.warning1, warning2 := p.warning2 })) (.defined d)
        ∧ t.sitting k = { phase := .defined, defn := d, readingLeft := d.reading }
        ∧ (∀ j, j ≠ k → t.sitting j = s.sitting j) ∧ t.roster = s.roster
        ∧ OnlyChanges (mayChange (.defineSitting k p)) s t)
    ∧ ((s.sitting k).phase = .defined → (s.sitting k).alloc ≠ .running → s.redefinitionRefused k d = none →
      ∃ t, exec (.defineSitting k p) s = .next t ∧ t.port.result.code = .ok ∧ t.port.result.report = .defined d
        ∧ t.sitting k = { s.sitting k with defn := d, readingLeft := d.reading, elapsed := 0 }
        ∧ (∀ j, j ≠ k → t.sitting j = s.sitting j)
        ∧ t.roster.entries = (if d.writing = (s.sitting k).defn.writing then s.roster.entries
            else s.roster.entries.map fun e => if e.sitting = k then
              { e with budget := budgetOf d.writing e.allowance e.adjustSum e.used } else e)
        ∧ OnlyChanges [.mailbox, .sittings, .entries] s t)

/-- OPEN_NOW opens a DEFINED sitting, taking ALARM while the input is asserted, and starts an OPEN one that is not
held; OPEN_TIME and START_TIME do so at the owed hall second (log entry 4; with the hall time that stands then, log
entry 63) when hall time is set and at or past the scheduled time (R65–R68). -/
def Obligations.SittingsOpenAndStart : Prop :=
  ∀ (s : State) (k : Nat), k < Config.sittings → s.RosterOrdered →
    (s.Ready .openNow → (s.sitting k).phase = .defined →
      ∃ t, exec (.openNow k) s = .next t ∧ t.Answered .ok false (.phase .opened)
        ∧ t.sitting k = { s.sitting k with phase := .opened, holds := { (s.sitting k).holds with
            alarm := (s.sitting k).holds.alarm || s.hall.alarm } }
        ∧ (∀ j, j ≠ k → t.sitting j = s.sitting j) ∧ 0 < (t.notice .phase).count
        ∧ OnlyChanges (mayChange (.openNow k)) s t)
    ∧ (s.Ready .openNow → (s.sitting k).phase = .opened → (s.sitting k).holds = {} →
      ∃ t, exec (.openNow k) s = .next t ∧ t.port.running = none ∧ t.port.result.code = .ok
        ∧ s.Started t k ∧ OnlyChanges (mayChange (.openNow k)) s t)
    ∧ (s.power.power = .on → s.owes (.sitting k) = true → (s.sitting k).phase = .defined → ∀ v,
      (s.sitting k).defn.openTime = some v → s.hall.timeSet = true → v ≤ s.hall.time →
      ∃ t, exec (.openTime k) s = .next t ∧ (t.sitting k).phase = .opened
        ∧ (t.sitting k).holds.alarm = ((s.sitting k).holds.alarm || s.hall.alarm)
        ∧ (∀ j, j ≠ k → t.sitting j = s.sitting j) ∧ t.roster = s.roster
        ∧ OnlyChanges (mayChange (.openTime k)) s t)
    ∧ (s.power.power = .on → s.owes (.sitting k) = true → (s.sitting k).phase = .opened → (s.sitting k).holds = {} →
      ∀ v, (s.sitting k).defn.startTime = some v → s.hall.timeSet = true → v ≤ s.hall.time →
      ∃ t, exec (.startTime k) s = .next t ∧ s.Started t k ∧ t.owes (.sitting k) = false
        ∧ OnlyChanges (mayChange (.startTime k)) s t)

/-- HOLD adds HOST and RESUME clears every reason, of the sitting named or of every sitting in OPEN through OVERTIME;
RESUME is refused with ALARM_ACTIVE where ALARM stands and the input is asserted (R76, R78). An assertion of the alarm
input adds ALARM to every such sitting and raises its notice; its release changes the input alone (R77). -/
def Obligations.HoldsSetAndCleared : Prop :=
  (∀ s : State,
      (s.Ready .hold →
        (∀ k, k < Config.sittings → holdPhase (s.sitting k).phase = true →
          ∃ t, exec (.hold (.one k)) s = .next t ∧ t.port.running = none ∧ t.port.result.code = .ok
            ∧ t.sitting k = { s.sitting k with holds := { (s.sitting k).holds with host := true } }
            ∧ (∀ j, j ≠ k → t.sitting j = s.sitting j) ∧ OnlyChanges (mayChange (.hold (.one k))) s t)
        ∧ ∃ t, exec (.hold .all) s = .next t ∧ t.port.running = none ∧ t.port.result.code = .ok
            ∧ (∀ k, t.sitting k = if k < Config.sittings ∧ holdPhase (s.sitting k).phase = true then
                { s.sitting k with holds := { (s.sitting k).holds with host := true } } else s.sitting k)
            ∧ OnlyChanges (mayChange (.hold .all)) s t)
      ∧ (s.Ready .resume →
        (∀ k, k < Config.sittings → holdPhase (s.sitting k).phase = true →
          ((s.sitting k).holds.alarm = true → s.hall.alarm = true →
            exec (.resume (.one k)) s = .next (s.completed .alarmActive false .nothing))
          ∧ ((s.sitting k).holds.alarm = false ∨ s.hall.alarm = false →
            ∃ t, exec (.resume (.one k)) s = .next t ∧ t.port.running = none ∧ t.port.result.code = .ok
              ∧ t.sitting k = { s.sitting k with holds := {} }
              ∧ (∀ j, j ≠ k → t.sitting j = s.sitting j) ∧ OnlyChanges (mayChange (.resume (.one k))) s t))
        ∧ (s.hall.alarm = false →
          ∃ t, exec (.resume .all) s = .next t ∧ t.port.running = none ∧ t.port.result.code = .ok
            ∧ (∀ k, t.sitting k = if k < Config.sittings ∧ holdPhase (s.sitting k).phase = true then
                { s.sitting k with holds := {} } else s.sitting k)
            ∧ OnlyChanges (mayChange (.resume .all)) s t)))
  ∧ (∀ s : State,
      (s.power.power = .on → s.hall.alarm = false →
        ∃ t, exec .alarmAssert s = .next t ∧ t.hall.alarm = true ∧ 0 < (t.notice .alarm).count
          ∧ (∀ k, t.sitting k = if k < Config.sittings ∧ holdPhase (s.sitting k).phase = true then
              { s.sitting k with holds := { (s.sitting k).holds with alarm := true } } else s.sitting k)
          ∧ OnlyChanges [.alarm, .sittings, .bells, .lines, .notices] s t)
      ∧ exec .alarmRelease s = .next { s with hall := { s.hall with alarm := false } })

/-- CLOSE_COLLECTION closes a COLLECTING sitting: every script still HANDED_IN is MISSING, and no other custody
changes (R71, R113). RETIRE_SITTING, of a RELEASED sitting that no tray names and no walk concerns or of a DEFINED one
with no run active (also while its key is walked: log entry 49), deletes its entries and no others, empties its key,
drops its extents and leaves it EMPTY, its counters at 0 (log entry 55) (R10, R36, R72, R73). -/
def Obligations.SittingsClosedAndRetired : Prop :=
  (∀ (s : State) (k : Nat), s.Ready .closeCollection → s.RosterOrdered → k < Config.sittings →
      (s.sitting k).phase = .collecting →
      ∃ t, exec (.closeCollection k) s = .next t
        ∧ t.Answered .ok false (.closed (s.slotsOf k fun e => e.custody = .handedIn).length)
        ∧ (t.sitting k).phase = .closed
        ∧ (∀ n e, s.byNumber? n = some e → ∃ x, t.byNumber? n = some x ∧ identity x = identity e ∧
            x.custody = if e.sitting = k ∧ e.custody = .handedIn then .missing else e.custody)
        ∧ (∀ j, j ≠ k → (t.sitting j).phase = (s.sitting j).phase)
        ∧ OnlyChanges (mayChange (.closeCollection k)) s t)
  ∧ (∀ (s : State) (k : Nat), s.Ready .retireSitting → s.RosterOrdered → k < Config.sittings →
      ((s.sitting k).phase = .released ∧ s.trayNames k = false ∧ s.walkBusy k = false)
        ∨ ((s.sitting k).phase = .defined ∧ (s.sitting k).alloc ≠ .running) →
      ∃ t, exec (.retireSitting k) s = .next t ∧ t.port.running = none ∧ t.port.result.code = .ok
        ∧ t.roster.entries.map identity = (s.roster.entries.map identity).filter (fun x => x.2.2 != k)
        ∧ t.sitting k = {} ∧ t.key k = {} ∧ (∀ j, j ≠ k → t.key j = s.key j)
        ∧ (∀ z, z < Config.zones → ownedBy k (t.zoneExtents z).front = false ∧ ownedBy k (t.zoneExtents z).back = false)
        ∧ OnlyChanges (mayChange (.retireSitting k)) s t)

/-- SET_HALL_TIME is refused with WRONG_PHASE, changing nothing, while any sitting is in READING, WRITING or OVERTIME,
and otherwise writes the value and the set flag and nothing else, the deadlines of SENT offers included, its result
carrying the former value and flag; at the invigilator level it is DENIED without the SITTING_CONTROL grant (R75). -/
def Obligations.HallTimeSet : Prop :=
  ∀ (s : State) (v : BitVec 32), s.Idle →
    (s.permits .setHallTime = true →
      (∃ k, k < Config.sittings ∧ ((s.sitting k).phase = .reading ∨ (s.sitting k).phase = .writing
        ∨ (s.sitting k).phase = .overtime)) →
      exec (.setHallTime v) s = .next (s.completed .wrongPhase false .nothing))
    ∧ (s.permits .setHallTime = true →
      (∀ k, k < Config.sittings → (s.sitting k).phase ≠ .reading ∧ (s.sitting k).phase ≠ .writing
        ∧ (s.sitting k).phase ≠ .overtime) →
      exec (.setHallTime v) s = .next (({ s with hall := { s.hall with time := v.toNat, timeSet := true } } : State).completed
        .ok false (.hallTime s.hall.time s.hall.timeSet)))
    ∧ (s.port.level = .examiner ∨ (s.port.level = .invigilator ∧ s.settings.working.grants.sittingControl = true) →
      s.permits .setHallTime = true)
    ∧ (s.port.level = .invigilator → s.settings.working.grants.sittingControl = false →
      exec (.setHallTime v) s = .next (s.completed .denied false .nothing))

/-! ### The hall second -/

/-- HALL_SECOND (R65, R69, R74, R200; the items still owed a second are the model's own, log entry 4): hall time rises
by one and holds at its highest value, and in standby and start-up it alone moves (that no block takes a second in
start-up is the model's reading, log entry 8); with no second owed, the lockout falls by one and a READING sitting
that is not held has one second of reading less, or becomes WRITING at its last. -/
def Obligations.HallSecondCounts : Prop :=
  ∀ s : State,
    (s.power.power = .standby ∨ s.power.power = .starting → ∀ later, exec (.hallSecond later) s = .next
      { s with hall := { s.hall with time := min 4294967295 (s.hall.time + 1) } })
    ∧ (s.power.power = .on → ∀ later, ∃ t, exec (.hallSecond later) s = .next t
      ∧ t.hall.time = min 4294967295 (s.hall.time + 1) ∧ t.hall.timeSet = s.hall.timeSet
      ∧ OnlyChanges (mayChange (.hallSecond later)) s t
      ∧ (later = [] → s.hall.owed = [] → t.port.lockout = s.port.lockout - 1 ∧ t.hall.owed = []
        ∧ ∀ k, k < Config.sittings → (s.sitting k).phase = .reading → (s.sitting k).holds = {} →
          (1 < (s.sitting k).readingLeft →
            (t.sitting k).phase = .reading ∧ (t.sitting k).readingLeft = (s.sitting k).readingLeft - 1)
          ∧ ((s.sitting k).readingLeft ≤ 1 → (t.sitting k).phase = .writing ∧ (t.sitting k).elapsed = 0)))

/-- The owed second's ends of a sitting (R69, R70, R87, R90; what is owed is the model's own, log entry 4):
READING_END starts every WAITING clock; at LATE_LIMIT no candidate stays EXPECTED; WRITING_END leaves OVERTIME while a
clock is not ENDED, and else COLLECTING with no hold. -/
def Obligations.PhaseEnds : Prop :=
  ∀ (s : State) (k : Nat), s.power.power = .on → s.owes (.sitting k) = true → s.RosterOrdered → k < Config.sittings →
    (s.sitting k).holds = {} →
    ((s.sitting k).phase = .reading → (s.sitting k).readingLeft ≤ 1 →
      ∃ t, exec (.readingEnd k) s = .next t ∧ (t.sitting k).phase = .writing ∧ (t.sitting k).elapsed = 0
        ∧ (∀ e ∈ t.roster.entries, e.sitting = k → e.clock ≠ .waiting) ∧ t.owes (.sitting k) = false
        ∧ OnlyChanges (mayChange (.readingEnd k)) s t)
    ∧ ((s.sitting k).phase = .writing ∨ (s.sitting k).phase = .overtime →
      (s.sitting k).elapsed + 1 = (s.sitting k).defn.lateLimit → (s.sitting k).defn.lateLimit ≤ Config.lastSecond →
      ∃ t, exec (.lateLimit k) s = .next t ∧ (t.sitting k).elapsed = (s.sitting k).elapsed + 1
        ∧ (∀ e ∈ t.roster.entries, e.sitting = k → e.presence ≠ .expected) ∧ t.owes (.sitting k) = false
        ∧ OnlyChanges (mayChange (.lateLimit k)) s t)
    ∧ ((s.sitting k).phase = .writing → (s.sitting k).elapsed + 1 = (s.sitting k).defn.writing →
      (s.sitting k).defn.writing ≤ Config.lastSecond →
      ∃ t, exec (.writingEnd k) s = .next t ∧ (t.sitting k).elapsed = (s.sitting k).elapsed + 1
        ∧ (t.openClocks k = true → (t.sitting k).phase = .overtime)
        ∧ (t.openClocks k = false → (t.sitting k).phase = .collecting ∧ (t.sitting k).holds = {})
        ∧ t.owes (.sitting k) = false ∧ OnlyChanges (mayChange (.writingEnd k)) s t)

/-- The owed second's events of a RUNNING clock of a counting sitting (R86, R93, R96, R101; log entry 4): CLOCK_EXPIRY
ends it, REST_EXHAUSTED removes REST, WARNING_FIRE sets the flags of the warning marks reached. -/
def Obligations.ClockEvents : Prop :=
  ∀ (s : State) (n : Nat) (e : Entry), s.power.power = .on → s.owes (.clock n) = true → s.RosterOrdered →
    s.byNumber? n = some e → e.clock = .running → s.counting e.sitting = true → e.displacedCause = false →
    (e.resting = false → e.budget ≤ e.used + 1 →
      ∃ t x, exec (.clockExpiry n) s = .next t ∧ t.byNumber? n = some x ∧ x.clock = .ended ∧ x.used = e.used + 1
        ∧ x.resting = false ∧ x.displacedCause = false
        ∧ (e.presence = .present ∨ e.presence = .displaced → x.presence = .finished ∧ x.custody = .handedIn)
        ∧ t.owes (.clock n) = false ∧ OnlyChanges (mayChange (.clockExpiry n)) s t)
    ∧ (e.resting = true → e.restAllowance ≤ e.restUsed + 1 →
      ∃ t, exec (.restExhausted n) s = .next t
        ∧ t.byNumber? n = some { e with restUsed := e.restUsed + 1, resting := false }
        ∧ (∀ m, m ≠ n → t.byNumber? m = s.byNumber? m)
        ∧ t.owes (.clock n) = false ∧ OnlyChanges [.owed, .entries, .lines, .notices] s t)
    ∧ (e.resting = false → e.used + 1 < e.budget →
      let left := e.budget - (e.used + 1)
      let f := (s.sitting e.sitting).defn
      (f.warning1 ≠ 0 ∧ left ≤ f.warning1 ∧ e.warned1 = false) ∨ (f.warning2 ≠ 0 ∧ left ≤ f.warning2 ∧ e.warned2 = false) →
      ∃ t, exec (.warningFire n) s = .next t
        ∧ t.byNumber? n = some { e with
            used := e.used + 1
            warned1 := e.warned1 || decide (f.warning1 ≠ 0 ∧ left ≤ f.warning1)
            warned2 := e.warned2 || decide (f.warning2 ≠ 0 ∧ left ≤ f.warning2) }
        ∧ (∀ m, m ≠ n → t.byNumber? m = s.byNumber? m)
        ∧ t.owes (.clock n) = false ∧ OnlyChanges [.owed, .entries, .lines, .notices] s t)

/-- LOCKOUT_END and BELL_PULSE_END take the owed second (log entry 4) that ends the lockout or the pulse (R80, R200).
At the hall second the deadline of every SENT offer falls by one and the offers it brings to 0 fail, and no other: all
of them at HALL_SECOND with the rest deferred, and at OFFER_DEADLINE, with the second owed or taken, the one on the
lowest seat, which is EMPTY again (R50, R53). -/
def Obligations.TimersEnd : Prop :=
  (∀ s : State, s.power.power = .on →
      (s.owes .lockout = true → s.port.lockout = 1 → exec .lockoutEnd s = .next { s with
        hall := { s.hall with owed := s.hall.owed.filter (· != .lockout) }, port := { s.port with lockout := 0 } })
      ∧ (∀ o, s.owes (.bell o) = true → s.bell o = 1 →
        ∃ t, exec (.bellPulseEnd o) s = .next t ∧ t.bell o = 0 ∧ (∀ j, j ≠ o → t.bell j = s.bell j)
          ∧ t.owes (.bell o) = false ∧ OnlyChanges [.owed, .bells] s t))
  ∧ (∀ s : State, s.power.power = .on →
      let fallen : List Offer := s.placement.offers.map fun o => match o.stage with
        | .sent n => { o with stage := .sent (n - 1) }
        | .waiting => o
      let failsAt (offers : List Offer) (owed : List HallItem) (d slot : Nat) : Prop :=
        (∃ o ∈ offers, o.seat = d ∧ o.stage = .sent 0) → (∀ o ∈ offers, o.stage = .sent 0 → d ≤ o.seat) →
        (s.seat d).tenure = .offered slot →
        ∃ t, exec .offerDeadline s = .next t ∧ t.placement.offers = offers.filter (fun o => o.seat != d)
          ∧ t.hall.owed = owed ∧ (t.seat d).tenure = .empty ∧ (∀ j, j ≠ d → t.seat j = s.seat j)
          ∧ OnlyChanges (mayChange .offerDeadline) s t
      (∀ d slot, s.owes .offers = false → failsAt s.placement.offers s.hall.owed d slot)
      ∧ (∀ d slot, s.owes .offers = true → failsAt fallen (s.hall.owed.filter (· != .offers)) d slot)
      ∧ (s.owes .offers = false → (∀ o ∈ s.placement.offers, o.stage ≠ .sent 0) → exec .offerDeadline s = .next s)
      ∧ (∀ later, s.hall.owed = [] → .offers ∉ later → (∀ i ∈ s.hallItems, i ≠ .offers → i ∈ later) →
        (s.placement.offers.map Offer.seat).Nodup →
        ∃ t, exec (.hallSecond later) s = .next t
          ∧ t.placement.offers = fallen.filter (fun o => o.stage != .sent 0)
          ∧ t.hall.owed = s.hallItems.filter (· != .offers) ∧ OnlyChanges (mayChange (.hallSecond later)) s t))

/-! ### A candidate's time -/

/-- ADJUST_TIME adds the adjustment, clamped to ±3,600, to a sum held within ±14,400 and recomputes the budget (R85,
R99). END_CANDIDATE ends a clock that is not ENDED: the candidate is FINISHED, and one who was PRESENT or DISPLACED
has handed in (R94). -/
def Obligations.AdjustedAndEnded : Prop :=
  (∀ (s : State) (n : Nat) (e : Entry) (a : Int), s.Ready .adjustTime → s.RosterOrdered → badNumber n = false →
      s.byNumber? n = some e → e.clock ≠ .ended →
      let sum := max (-14400) (min 14400 (e.adjustSum + max (-3600) (min 3600 a)))
      ∃ t x, exec (.adjustTime n a) s = .next t ∧ t.byNumber? n = some x
        ∧ t.Answered .ok (decide (sum ≠ e.adjustSum + a) || decide (max (-3600) (min 3600 a) ≠ a))
            (.adjusted (sum - e.adjustSum) sum x.budget e.used (x.budget - e.used))
        ∧ identity x = identity e ∧ x.adjustSum = sum
        ∧ x.budget = budgetOf (s.sitting e.sitting).defn.writing e.allowance sum e.used
        ∧ x.used = e.used ∧ x.allowance = e.allowance ∧ x.needs = e.needs
        ∧ OnlyChanges (mayChange (.adjustTime n a)) s t)
  ∧ (∀ (s : State) (n : Nat) (e : Entry), s.Ready .endCandidate → s.RosterOrdered → badNumber n = false →
      s.byNumber? n = some e → e.clock ≠ .ended →
      ∃ t x, exec (.endCandidate n) s = .next t ∧ t.byNumber? n = some x ∧ t.port.running = none
        ∧ t.port.result.code = .ok ∧ identity x = identity e
        ∧ x.clock = .ended ∧ x.resting = false ∧ x.displacedCause = false ∧ x.presence = .finished
        ∧ x.custody = (if e.presence = .present ∨ e.presence = .displaced then .handedIn else e.custody)
        ∧ x.used = e.used ∧ x.budget = e.budget
        ∧ OnlyChanges (mayChange (.endCandidate n)) s t)

/-! ### Scripts and trays -/

/-- TAG_READ with verdict ACCEPT appends the tag to its tray's list, makes the script COLLECTED there and releases a
VACATED seat; with any other verdict no tray and no script changes (R108–R112). -/
def Obligations.TagReadCollects : Prop :=
  ∀ (s : State) (z u : Nat) (n : Bool) (tag : Nat), Config.zoneSeats ≤ u → s.Hears z u n → s.RosterOrdered →
    (∀ e, s.judgeTag (trayOf z u) tag = .accept → s.byTag? tag = some e →
      ∃ t x, exec (.tagRead z u n tag) s = .next t ∧ t.Heard z u n
        ∧ (t.tray (trayOf z u)).tags = (s.tray (trayOf z u)).tags ++ [tag]
        ∧ (t.tray (trayOf z u)).sitting =
          (if (s.tray (trayOf z u)).tags = [] then some e.sitting else (s.tray (trayOf z u)).sitting)
        ∧ ((t.tray (trayOf z u)).state = .full ↔ (s.tray (trayOf z u)).tags.length + 1 = Config.trayTags)
        ∧ (∀ v, v ≠ trayOf z u → t.tray v = s.tray v)
        ∧ t.byNumber? e.number = some x ∧ x.custody = .collected ∧ x.tray = some (trayOf z u) ∧ x.tag = e.tag
        ∧ (∀ d a, e.seat = some d → (s.seat d).tenure = .vacated e.slot a → (t.seat d).tenure = .empty ∧ x.seat = none)
        ∧ OnlyChanges (mayChange (.tagRead z u n tag)) s t)
    ∧ (s.judgeTag (trayOf z u) tag ≠ .accept →
      ∃ t, exec (.tagRead z u n tag) s = .next t ∧ t.Heard z u n ∧ OnlyChanges tellingParts s t)

/-- VOID_SCRIPT makes the script VOID: an issued one ends its candidate's clock, one in a tray leaves its list with
its mark record deleted (R115–R117). CLEAR_TRAY empties a tray whose scripts are all MARKED or RELEASED (R119). -/
def Obligations.ScriptsVoidedTraysCleared : Prop :=
  ∀ s : State, s.RosterOrdered →
    (s.Ready .voidScript → ∀ n e, badNumber n = false → s.byNumber? n = some e → voidRefused e.custody = false →
      ∃ t x, exec (.voidScript n) s = .next t ∧ t.byNumber? n = some x ∧ x.custody = .void ∧ identity x = identity e
        ∧ t.port.running = none ∧ t.port.result.code = .ok
        ∧ (e.custody = .issued → x.clock = .ended ∧ x.presence = .finished)
        ∧ (e.custody ≠ .issued → e.custody ≠ .handedIn → x.tray = none ∧ x.mark = none
          ∧ ∀ u a, e.tray = some u → e.tag = some a → a ∉ (t.tray u).tags)
        ∧ OnlyChanges (mayChange (.voidScript n)) s t)
    ∧ (s.Ready .clearTray → ∀ u, u < Config.trays → (s.tray u).state ≠ .reading → (s.tray u).state ≠ .empty →
      (∀ a ∈ (s.tray u).tags, s.tagMarked a = true) →
      ∃ t, exec (.clearTray u) s = .next t
        ∧ t.Answered .ok false (.cleared (s.tray u).tags.length (s.tray u).sitting)
        ∧ t.tray u = {} ∧ (∀ v, v ≠ u → t.tray v = s.tray v)
        ∧ (∀ e ∈ t.roster.entries, (s.tray u).tags.any (fun a => s.slotOfTag? a == some e.slot) = true → e.tray = none)
        ∧ OnlyChanges (mayChange (.clearTray u)) s t)

/-! ### The desk lines -/

/-- The life of a slot (R126–R129, R131): SLOT_START sends the deliverable head of the queue, or with an empty queue a
POLL of the next known unit; each sixteenth slot, and each with no unit known, probes the first UNKNOWN address from
the probe pointer on; FRAME_SENT opens the answer window, an OFFER's first transmission making its offer SENT with the
deadline 5 (R49), or ends the slot of a broadcast; the window's close counts a miss below the loss limit, and QUIET
sets the misses of an UP unit to 0. While the window is open the line sends nothing. -/
def Obligations.SlotsRun : Prop :=
  ∀ (s : State) (z : Nat), s.power.power = .on → z < Config.zones →
    let l := s.line z
    let probes : Prop := (l.slotCount + 1) % 16 = 0 ∧ ∃ u, u < Config.units ∧ (s.linkRecord z u).state = .unknown
    let probed (u : Nat) : Prop := ∃ t, exec (.slotStart z) s = .next t
      ∧ (t.line z).slot = .sending
        { unit := u, body := .poll true, taken := (s.linkRecord z u).lastTaken, fromQueue := false }
      ∧ (t.line z).probePointer = (u + 1) % Config.units ∧ (t.line z).slotCount = l.slotCount + 1
      ∧ (t.line z).queue = l.queue ∧ (t.line z).ringPointer = l.ringPointer
      ∧ (∀ y, y ≠ z → t.line y = s.line y) ∧ OnlyChanges [.lines] s t
    (∀ (x : QEntry) (q : List QEntry), l.slot = .idle → l.queue = x :: q → l.undeliverable x = false → ¬ probes →
      ∃ t taken, exec (.slotStart z) s = .next t
        ∧ (t.line z).slot = .sending { unit := x.unit, body := .msg x.msg, taken := taken, fromQueue := true }
        ∧ taken = (if x.unit = 255 then none else (s.linkRecord z x.unit).lastTaken)
        ∧ (t.line z).slotCount = l.slotCount + 1
        ∧ (t.line z).queue.map QEntry.msg = l.queue.map QEntry.msg
        ∧ (∀ y, y ≠ z → t.line y = s.line y) ∧ OnlyChanges [.lines] s t)
    ∧ (∀ u, l.slot = .idle → l.queue = [] → ¬ probes → l.nextInRing = some u →
      ∃ t, exec (.slotStart z) s = .next t
        ∧ (t.line z).slot = .sending
          { unit := u, body := if (s.linkRecord z u).joinAwaited then .msg .resync else .poll false,
            taken := (s.linkRecord z u).lastTaken, fromQueue := false }
        ∧ (t.line z).ringPointer = u ∧ OnlyChanges [.lines] s t)
    ∧ (∀ i, i < Config.units → l.slot = .idle → (∀ x, l.queue.head? = some x → l.undeliverable x = false) →
      (l.slotCount + 1) % 16 = 0 ∨ (l.queue = [] ∧ ∀ u, u < Config.units → (s.linkRecord z u).state = .unknown) →
      (s.linkRecord z ((l.probePointer + i) % Config.units)).state = .unknown →
      (∀ j, j < i → (s.linkRecord z ((l.probePointer + j) % Config.units)).state ≠ .unknown) →
      probed ((l.probePointer + i) % Config.units))
    ∧ (∀ f, l.slot = .sending f →
      ∃ t, exec (.frameSent z) s = .next t
        ∧ (f.unit ≠ 255 → (t.line z).slot = .window f
          ∧ (t.line z).queue = l.queue.map (fun x => if x.inSlot then { x with transmitted := true } else x)
          ∧ ((∃ x ∈ l.queue, x.inSlot = true ∧ isOffer x.msg = true ∧ x.transmitted = false) →
            t.placement.offers = s.placement.offers.map fun o =>
              if o.seat = seatOf z f.unit ∧ o.stage = .waiting then { o with stage := .sent 5 } else o)
          ∧ ((∀ x ∈ l.queue, x.inSlot = true → isOffer x.msg = true → x.transmitted = true) →
            t.placement.offers = s.placement.offers))
        ∧ (f.unit = 255 → (t.line z).slot = .idle ∧
          (s.placement.offers = [] → (t.line z).queue = l.queue.filter fun x => !x.inSlot))
        ∧ OnlyChanges (mayChange (.frameSent z)) s t)
    ∧ (∀ f, l.slot = .window f → isProbe f = false → (s.linkRecord z f.unit).state = .up →
      (s.linkRecord z f.unit).misses + 1 < s.settings.working.lossLimit →
      ∃ t, exec (.answerWindowClose z) s = .next t ∧ (t.line z).slot = .idle
        ∧ t.linkRecord z f.unit = { s.linkRecord z f.unit with misses := (s.linkRecord z f.unit).misses + 1 }
        ∧ (t.line z).queue.map QEntry.msg = l.queue.map QEntry.msg ∧ OnlyChanges [.lines] s t)
    ∧ (∀ f, l.slot = .window f → isProbe f = false → (s.linkRecord z f.unit).state = .up →
      ∃ t, exec (.quiet z f.unit) s = .next t ∧ (t.line z).slot = .idle
        ∧ t.linkRecord z f.unit = { s.linkRecord z f.unit with misses := 0 } ∧ OnlyChanges tellingParts s t)
    ∧ (∀ f n, l.slot = .window f → l.output n = [])

/-- LINK_LOSS brings a unit DOWN at its loss limit, its HELD or OCCUPIED seat EMPTY and a sitter DISPLACED;
LINK_REGAIN brings it UP at its regain limit with its JOIN awaited (R28, R29, R131, R132). JOIN of a desk: a probe's
answer makes an UNKNOWN address UP; the JOIN of a known UP unit ends the wait for it and forgets the last taken event
number; either replaces the seat's capabilities; a tray's JOIN does the same to its link alone (R30, R129, R133). -/
def Obligations.LinksLostRegainedJoined : Prop :=
  (∀ (s : State) (z u : Nat) (f : Frame), s.power.power = .on → (s.line z).slot = .window f → f.unit = u →
      isProbe f = false →
      ((s.linkRecord z u).state = .up → s.settings.working.lossLimit ≤ (s.linkRecord z u).misses + 1 →
        ∃ t, exec (.linkLoss z) s = .next t
          ∧ t.linkRecord z u = { s.linkRecord z u with state := .down, misses := 0, goods := 0, joinAwaited := false }
          ∧ 0 < (t.notice .deskLost).count ∧ (t.line z).slot = .idle
          ∧ (u < Config.zoneSeats → (t.seat (seatOf z u)).link = .down
            ∧ (∀ p, (s.seat (seatOf z u)).tenure = .held p ∨ (s.seat (seatOf z u)).tenure = .occupied p →
              (t.seat (seatOf z u)).tenure = .empty ∧ 0 < (t.notice .displaced).count)
            ∧ (∀ p e, (s.seat (seatOf z u)).tenure = .occupied p → s.entry? p = some e →
              ∃ x, t.entry? p = some x ∧ x.presence = .displaced ∧ x.displacedCause = true ∧ x.seat = none))
          ∧ OnlyChanges (mayChange (.linkLoss z)) s t)
      ∧ ((s.linkRecord z u).state = .down → s.settings.working.regainLimit ≤ (s.linkRecord z u).goods + 1 →
        ∃ t, exec (.linkRegain z u) s = .next t
          ∧ t.linkRecord z u = { s.linkRecord z u with state := .up, misses := 0, goods := 0, joinAwaited := true }
          ∧ 0 < (t.notice .deskRegained).count ∧ (t.line z).slot = .idle
          ∧ (u < Config.zoneSeats → (t.seat (seatOf z u)).link = .up
            ∧ (t.seat (seatOf z u)).tenure = (s.seat (seatOf z u)).tenure)
          ∧ OnlyChanges (mayChange (.linkRegain z u)) s t))
  ∧ (∀ (s : State) (z u : Nat) (f : Frame) (caps : CapSet), s.power.power = .on → (s.line z).slot = .window f →
      f.unit = u →
      ((s.linkRecord z u).state = .unknown → isProbe f = true →
        ∃ t, exec (.join z u (kindOf u) caps) s = .next t ∧ t.linkRecord z u = { state := .up }
          ∧ (t.line z).slot = .idle
          ∧ (u < Config.zoneSeats → (t.seat (seatOf z u)).link = .up ∧ (t.seat (seatOf z u)).caps = caps)
          ∧ (Config.zoneSeats ≤ u → ∀ d, t.seat d = s.seat d)
          ∧ OnlyChanges (mayChange (.join z u (kindOf u) caps)) s t)
      ∧ ((s.linkRecord z u).state = .up → isProbe f = false →
        ∃ t, exec (.join z u (kindOf u) caps) s = .next t
          ∧ t.linkRecord z u = { s.linkRecord z u with misses := 0, joinAwaited := false, lastTaken := none }
          ∧ (t.line z).slot = .idle
          ∧ (u < Config.zoneSeats → (t.seat (seatOf z u)).caps = caps
            ∧ (t.seat (seatOf z u)).link = (s.seat (seatOf z u)).link)
          ∧ (Config.zoneSeats ≤ u → ∀ d, t.seat d = s.seat d)
          ∧ OnlyChanges (mayChange (.join z u (kindOf u) caps)) s t))

/-- CHECKIN with verdict ACCEPTED: an EXPECTED candidate is PRESENT with the tag issued to it, a DISPLACED one is
PRESENT again and no longer paused for it, and the seat is OCCUPIED; with any other verdict neither the roster nor a
seat changes (R17, R25, R88, R89). -/
def Obligations.CheckinAdmits : Prop :=
  ∀ (s : State) (z u : Nat) (n : Bool) (number tag : Nat) (e : Entry), u < Config.zoneSeats → s.Hears z u n →
    s.RosterOrdered → s.byNumber? number = some e →
    (s.judgeCheckin (seatOf z u) e tag = .accepted →
      ∃ t x, exec (.checkin z u n number tag) s = .next t ∧ t.Heard z u n ∧ t.byNumber? number = some x
        ∧ x.presence = .present ∧ (e.presence = .expected → x.tag = some tag ∧ x.custody = .issued
          ∧ t.slotOfTag? tag = some e.slot ∧ (t.sitting e.sitting).present = (s.sitting e.sitting).present + 1)
        ∧ (e.presence = .displaced → x.displacedCause = false ∧ x.tag = e.tag ∧ x.custody = e.custody)
        ∧ (∀ p, (s.seat (seatOf z u)).tenure = .held p → (t.seat (seatOf z u)).tenure = .occupied p)
        ∧ (∀ m, m ≠ number → t.byNumber? m = s.byNumber? m)
        ∧ OnlyChanges (mayChange (.checkin z u n number tag)) s t)
    ∧ (s.judgeCheckin (seatOf z u) e tag ≠ .accepted →
      ∃ t, exec (.checkin z u n number tag) s = .next t ∧ t.Heard z u n ∧ OnlyChanges tellingParts s t)

/-- HANDIN with verdict ACCEPTED ends the candidate's clock: FINISHED, the script HANDED_IN, the seat VACATED and
awaiting its tag; with any other verdict neither the roster nor a seat changes (R91, R92, R106). REST begin and REST
end with verdict ACCEPTED add and remove the pause cause REST and change nothing else of the roster; HELP raises its
notice for the seat (R95, R96, R103). -/
def Obligations.HandinRestAndHelp : Prop :=
  (∀ (s : State) (z u : Nat) (n : Bool) (number : Nat) (e : Entry), u < Config.zoneSeats → s.Hears z u n →
      s.RosterOrdered → s.byNumber? number = some e →
      (s.judgeHandin (seatOf z u) e = .accepted →
        ∃ t x, exec (.handin z u n number) s = .next t ∧ t.Heard z u n ∧ t.byNumber? number = some x
          ∧ x.clock = .ended ∧ x.resting = false ∧ x.displacedCause = false ∧ x.presence = .finished
          ∧ x.custody = .handedIn ∧ x.used = e.used
          ∧ (∀ tag, e.seat = some (seatOf z u) → e.tag = some tag → (s.seat (seatOf z u)).tenure = .occupied e.slot →
            (t.seat (seatOf z u)).tenure = .vacated e.slot tag)
          ∧ (∀ m, m ≠ number → t.byNumber? m = s.byNumber? m)
          ∧ OnlyChanges (mayChange (.handin z u n number)) s t)
      ∧ (s.judgeHandin (seatOf z u) e ≠ .accepted →
        ∃ t, exec (.handin z u n number) s = .next t ∧ t.Heard z u n ∧ OnlyChanges tellingParts s t))
  ∧ (∀ (s : State) (z u : Nat) (n : Bool), u < Config.zoneSeats → s.Hears z u n →
      (s.RosterOrdered → ∀ number e, s.byNumber? number = some e →
        (s.judgeRest (seatOf z u) e = .accepted →
          ∃ t, exec (.restBegin z u n number) s = .next t ∧ t.Heard z u n
            ∧ t.byNumber? number = some { e with resting := true }
            ∧ (∀ m, m ≠ number → t.byNumber? m = s.byNumber? m) ∧ OnlyChanges (.entries :: tellingParts) s t)
        ∧ (s.judgeRestEnd (seatOf z u) e = .accepted →
          ∃ t, exec (.restEnd z u n number) s = .next t ∧ t.Heard z u n
            ∧ t.byNumber? number = some { e with resting := false }
            ∧ (∀ m, m ≠ number → t.byNumber? m = s.byNumber? m) ∧ OnlyChanges (.entries :: tellingParts) s t))
      ∧ ∃ t, exec (.help z u n) s = .next t ∧ t.Heard z u n ∧ 0 < (t.notice .help).count
        ∧ ((s.notice .help).count = 0 →
          t.notice .help = { count := 1, subject := .seat (seatOf z u) })
        ∧ OnlyChanges tellingParts s t)

/-- The verdicts of R88, R91, R95 and R96 and of R109: on a line whose queue is not full, an event that its first
failing test refuses is answered with that test's verdict, queued URGENT to its unit, and changes nothing else (R103,
R112). -/
def Obligations.VerdictsFollowTables : Prop :=
  (∀ (s : State) (z u : Nat) (n : Bool) (number : Nat), u < Config.zoneSeats → s.Hears z u n →
      (s.line z).queue.length < Config.queued →
      let refuses (c : Instr) (k : EventKind) (v : DeskVerdict) : Prop := v ≠ .accepted →
        ∃ t, exec c s = .next t ∧ t.Heard z u n
          ∧ ({ unit := u, urgent := true, msg := .verdict k number v } : QEntry) ∈ (t.line z).queue
          ∧ OnlyChanges [.lines] s t
      let x := (s.seat (seatOf z u)).tenure
      (s.byNumber? number = none →
        (∀ tag, refuses (.checkin z u n number tag) .checkin .notYourSeat)
        ∧ refuses (.handin z u n number) .handin .notYourSeat ∧ refuses (.restBegin z u n number) .rest .notYourSeat
        ∧ refuses (.restEnd z u n number) .rest .notYourSeat)
      ∧ (∀ e, s.byNumber? number = some e →
        let r := s.sitting e.sitting
        let elsewhere : Prop := occupant x ≠ some e.slot ∨ (x.kind ≠ .occupied ∧ x.kind ≠ .vacated)
        (∀ tag, refuses (.checkin z u n number tag) .checkin
          (if e.presence = .absent ∨ e.presence = .finished ∨ e.clock = .ended then .tooLate
          else if r.phase = .defined then .tooEarly
          else if e.seat ≠ some (seatOf z u) ∨ (e.presence = .present ∧ x.kind ≠ .occupied)
            ∨ (e.presence ≠ .present ∧ x.kind ≠ .held) then .notYourSeat
          else if e.presence = .expected ∧ (tag = 0 ∨ 999999 < tag ∨ (s.slotOfTag? tag).isSome = true) then .tagInUse
          else if e.presence ≠ .expected ∧ e.tag ≠ some tag then .tagMismatch
          else .accepted))
        ∧ refuses (.handin z u n number) .handin
          (if elsewhere then .notYourSeat else if e.clock = .ended then .alreadyEnded
          else if r.holds ≠ {} then .held
          else if r.phase = .opened ∨ r.phase = .reading then .reading
          else if r.elapsed < r.defn.earlyBar then .earlyBar
          else if 0 < e.budget - e.used ∧ e.budget - e.used ≤ r.defn.lastBar then .lastBar
          else .accepted)
        ∧ refuses (.restBegin z u n number) .rest
          (if elsewhere then .notYourSeat else if e.clock = .ended then .alreadyEnded
          else if r.holds ≠ {} then .held
          else if r.phase = .opened ∨ r.phase = .reading then .reading
          else if e.restUsed = e.restAllowance then .noRestLeft
          else .accepted)
        ∧ refuses (.restEnd z u n number) .rest
          (if elsewhere then .notYourSeat else if e.clock = .ended then .alreadyEnded else .accepted)))
  ∧ (∀ (s : State) (z u : Nat) (n : Bool) (tag : Nat), Config.zoneSeats ≤ u → u < Config.units → s.Hears z u n →
      (s.line z).queue.length < Config.queued →
      let y := s.tray (trayOf z u)
      let v : TrayVerdict := match s.byTag? tag with
        | none => .stray
        | some e =>
          if tag = 0 ∨ 999999 < tag then .stray
          else if e.custody = .issued then .premature
          else if e.custody = .void then .void
          else if tag ∈ y.tags then .ack
          else if ∃ w ∈ List.range Config.trays, w ≠ trayOf z u ∧ tag ∈ (s.tray w).tags then .duplicate
          else if y.state = .reading ∨ y.state = .done then .trayBusy
          else if y.state = .full then .trayFull
          else if y.sitting ≠ none ∧ y.sitting ≠ some e.sitting then .mixedSitting
          else if e.custody = .handedIn ∨ (e.custody = .missing ∧ (s.sitting e.sitting).phase = .closed) then .accept
          else .duplicate
      v ≠ .accept →
        ∃ t, exec (.tagRead z u n tag) s = .next t ∧ t.Heard z u n
          ∧ ({ unit := u, urgent := true, msg := .trayVerdict tag v y.state y.tags.length } : QEntry) ∈ (t.line z).queue
          ∧ (v = .stray → 0 < (t.notice .strayTag).count) ∧ (v = .premature → 0 < (t.notice .premature).count)
          ∧ OnlyChanges [.lines, .notices] s t)

/-! ### Keys and scoring -/

/-- LOAD_KEY: a header sets Q and the policies and keeps the questions up to Q, a question chunk of good entries loads
them in order with their weights clamped, a clear empties the key (R162, R163). LOCK_KEY locks a key whose questions
are all loaded, at revision 0 with no amendment (R164). -/
def Obligations.KeysLoadedAndLocked : Prop :=
  ∀ (s : State) (k : Nat), k < Config.sittings →
    (s.Ready .loadKey → (s.key k).state ≠ .locked →
      (∀ q p m f r, 1 ≤ q → q ≤ 120 →
        ∃ t, exec (.loadKey k (some (.header q (some p) (some m) (some f) (some r)))) s = .next t
          ∧ t.port.running = none ∧ t.port.result.code = .ok
          ∧ (t.key k).state = .loading ∧ (t.key k).q = q ∧ (t.key k).penalty = p ∧ (t.key k).multiple = m
          ∧ (t.key k).floor = f ∧ (t.key k).read = r
          ∧ (∀ i, (t.key k).question i = if i ≤ q then (s.key k).question i else {})
          ∧ (∀ j, j ≠ k → t.key j = s.key j) ∧ OnlyChanges [.mailbox, .keys] s t)
      ∧ (∀ start l, (s.key k).state = .loading → l ≠ [] → l.length ≤ 20 → 1 ≤ start →
        start + l.length ≤ (s.key k).q + 1 →
        (∀ p ∈ l, 2 ≤ p.options ∧ p.options ≤ 5 ∧ p.accepted ≠ {} ∧ choicesBeyond p.accepted p.options = false) →
        ∃ t, exec (.loadKey k (some (.questions start l))) s = .next t
          ∧ t.Answered .ok (l.any fun p => decide (max 1 (min 40 p.weight) ≠ p.weight))
              (.keyQuestions l.length (List.replicate l.length .ok) (t.key k).loadedCount)
          ∧ (∀ i, (t.key k).question i =
            match if start ≤ i then l[i - start]? else none with
            | some p => { loaded := true, options := p.options, accepted := p.accepted,
                          weight := max 1 (min 40 p.weight), void := p.void }
            | none => (s.key k).question i)
          ∧ (∀ j, j ≠ k → t.key j = s.key j) ∧ OnlyChanges [.mailbox, .keys] s t)
      ∧ ∃ t, exec (.loadKey k (some .clear)) s = .next t ∧ t.Answered .ok false (.keyState .empty) ∧ t.key k = {}
          ∧ (∀ j, j ≠ k → t.key j = s.key j) ∧ OnlyChanges [.mailbox, .keys] s t)
    ∧ (s.Ready .lockKey → (s.key k).state = .loading →
      (∀ i, 1 ≤ i → i ≤ (s.key k).q → ((s.key k).question i).loaded = true) →
      ∃ t, exec (.lockKey k) s = .next t ∧ t.port.running = none ∧ t.port.result.code = .ok
        ∧ t.key k = { s.key k with state := .locked, revision := 0, amendments := [], base := (s.key k).questions }
        ∧ (∀ j, j ≠ k → t.key j = s.key j) ∧ OnlyChanges [.mailbox, .keys] s t)

/-- AMEND_KEY, where no test of R171 refuses it, raises the revision, records the amendment, changes its question
alone and sees that a walk of the sitting is queued or starts from the front (R172, R173). WALK_VISIT visits the next
mark record of the walked sitting, rescoring one scored at an earlier revision, and ends the walk when none is left
(R174, R175). -/
def Obligations.AmendmentsRescored : Prop :=
  (∀ (s : State) (k q : Nat) (a : AmendKind), s.Ready .amendKey → k < Config.sittings → (s.key k).state = .locked →
      (s.sitting k).phase ≠ .released → amendOutOfRange (s.key k) q a = false → (s.key k).revision < 31 →
      ((s.key k).question q).void = false → alreadyAccepted ((s.key k).question q) a = false →
      ∃ t, exec (.amendKey k q (some a)) s = .next t ∧ t.port.running = none ∧ t.port.result.code = .started
        ∧ (t.key k).revision = (s.key k).revision + 1
        ∧ (t.key k).amendments = (s.key k).amendments ++ [{ revision := (s.key k).revision + 1, question := q, kind := a }]
        ∧ (t.key k).question q = (match a with
          | .void => { (s.key k).question q with void := true }
          | .addAlternative o =>
            { (s.key k).question q with accepted := addChoice ((s.key k).question q).accepted o })
        ∧ (∀ i, i ≠ q → (t.key k).question i = (s.key k).question i) ∧ (t.key k).base = (s.key k).base
        ∧ t.walkBusy k = true ∧ (∀ w, t.scoring.walk = some w → w.sitting = k → w.position = none)
        ∧ (∀ j, j ≠ k → t.key j = s.key j) ∧ OnlyChanges [.mailbox, .keys, .walks] s t)
  ∧ (∀ (s : State) (w : Walk), s.power.power = .on → s.RosterOrdered → s.scoring.walk = some w →
      (∀ e m, s.nextVisit w = some e → e.mark = some m →
        ∃ t, exec .walkVisit s = .next t ∧ t.scoring.walk = some { w with position := some e.number }
          ∧ t.byNumber? e.number = some (if staleRecord (s.key w.sitting) e m then
              { e with mark := some (scored (s.key w.sitting) m) } else e)
          ∧ (∀ n, n ≠ e.number → t.byNumber? n = s.byNumber? n) ∧ OnlyChanges [.entries, .walks] s t)
      ∧ (s.nextVisit w = none →
        ∃ t, exec .walkVisit s = .next t ∧ (∀ k, t.walkBusy k = true → s.walkBusy k = true)
          ∧ 0 < (t.notice .rescoreDone).count
          ∧ (s.scoring.walkQueue = [] → t.scoring.walk = none ∧ t.scoring.walkQueue = [])
          ∧ (∀ k q, s.scoring.walkQueue = k :: q →
            t.scoring.walk = some { sitting := k, position := none } ∧ t.scoring.walkQueue = q)
          ∧ OnlyChanges [.walks, .notices] s t))

/-- RESOLVE_QUERY writes the responses given for questions on the query list and scores the record, MARKED when no
query is left, and reports the custody, the questions left, the revision, T, the rounded mark and the percent;
RESOLVE_DISPUTE takes the read chosen as the working vector (R184, R188, R189). MANUAL_MARK writes a total within −M
to M, or 0 to M under floor ZERO, and the script is MARKED; RELEASE_RESULTS of a CLOSED sitting with no candidate
pending releases its MARKED scripts and no other (R190, R192). -/
def Obligations.ReviewsAndReleases : Prop :=
  (∀ (s : State) (n : Nat) (e : Entry) (m : MarkRecord), s.RosterOrdered → badNumber n = false →
      s.byNumber? n = some e → e.mark = some m →
      (s.Ready .resolveQuery → e.custody = .provisional → ∀ l : List (Nat × Mark), l ≠ [] → l.length ≤ 8 →
        (l.map Prod.fst).Nodup → (∀ p ∈ l, 1 ≤ p.1 ∧ p.1 ∈ m.queries ∧ badResponse (s.key e.sitting) p = false) →
        ∃ t x y, exec (.resolveQuery n l) s = .next t ∧ t.port.running = none ∧ t.port.result.code = .ok
          ∧ t.port.result.report = .queriesResolved x.custody y.queries (y.totals.map Totals.score)
          ∧ t.byNumber? n = some x ∧ x.mark = some y ∧ y.first = m.first ∧ y.second = m.second
          ∧ y.working.length = m.working.length
          ∧ (∀ i, 1 ≤ i → i ≤ m.working.length → markAt y.working i = ((l.find? fun p => p.1 == i).map Prod.snd).getD
              (markAt m.working i))
          ∧ y.queries = m.queries.filter (fun q => !(l.map Prod.fst).contains q)
          ∧ y.totals = some ((s.key e.sitting).totalsFor ((s.key e.sitting).total y.working))
          ∧ x.custody = (if y.queries = [] then .marked else .provisional)
          ∧ (∀ j, j ≠ n → t.byNumber? j = s.byNumber? j) ∧ OnlyChanges [.mailbox, .entries, .sittings] s t)
      ∧ (s.Ready .resolveDispute → e.custody = .disputed → ∀ v, m.second = some v →
        ∀ choice, choice = 1 ∨ choice = 2 →
        ∃ t x y, exec (.resolveDispute n choice) s = .next t ∧ t.port.running = none ∧ t.port.result.code = .ok
          ∧ t.byNumber? n = some x ∧ x.mark = some y ∧ y.working = (if choice = 1 then m.first else v)
          ∧ y.disputes = [] ∧ y.many = false
          ∧ (doubtfuls y.working = [] → x.custody = .marked
            ∧ y.totals = some ((s.key e.sitting).totalsFor ((s.key e.sitting).total y.working)))
          ∧ (doubtfuls y.working ≠ [] → (doubtfuls y.working).length ≤ 8 →
            x.custody = .provisional ∧ y.queries = doubtfuls y.working)
          ∧ (8 < (doubtfuls y.working).length → x.custody = .manual ∧ y.totals = none)
          ∧ (∀ j, j ≠ n → t.byNumber? j = s.byNumber? j)
          ∧ OnlyChanges [.mailbox, .entries, .sittings, .notices] s t))
  ∧ (∀ s : State, s.RosterOrdered →
      (s.Ready .manualMark → ∀ n e m total, badNumber n = false → s.byNumber? n = some e → e.mark = some m →
        e.custody = .manual ∨ e.custody = .disputed →
        let key := s.key e.sitting
        let v : Int := if key.floor = .zero then max 0 (min key.maximum total)
          else max (-(key.maximum : Int)) (min key.maximum total)
        ∃ t x y, exec (.manualMark n total) s = .next t
          ∧ t.Answered .ok (decide (v ≠ total)) (.manualMark (key.totalsFor v))
          ∧ t.byNumber? n = some x ∧ x.custody = .marked ∧ x.mark = some y ∧ y.totals = some (key.totalsFor v)
          ∧ y.manual = true ∧ y.queries = [] ∧ y.disputes = [] ∧ y.working = m.working
          ∧ (t.sitting e.sitting).final = (s.sitting e.sitting).final + 1
          ∧ (∀ j, j ≠ n → t.byNumber? j = s.byNumber? j) ∧ OnlyChanges [.mailbox, .entries, .sittings] s t)
      ∧ (s.Ready .releaseResults → ∀ k, k < Config.sittings → (s.sitting k).phase = .closed → s.walkBusy k = false →
        s.pendingOf k = [] →
        ∃ t, exec (.releaseResults k) s = .next t ∧ t.port.running = none ∧ t.port.result.code = .ok
          ∧ (t.sitting k).phase = .released
          ∧ t.roster.entries = s.roster.entries.map (fun e =>
              if e.sitting = k ∧ e.custody = .marked then { e with custody := .released } else e)
          ∧ (∀ j, j ≠ k → t.sitting j = s.sitting j) ∧ OnlyChanges (mayChange (.releaseResults k)) s t))

/-- The maximum M is the sum of 12w over the questions that are not void, the total T the sum of the questions'
values, each between −12w and 12w, so T lies between −M and M; under floor ZERO a T below 0 becomes 0 with the floored
flag (R168). The rounded mark is (T + 6) / 12 and the percent (2,000 T + M) / (2 M), both rounded down; with M 0 the
percent is 0 and the no-maximum flag set; every percent lies in −1000..1000, and in 0..1000 under floor ZERO (R169).
The value of a question of weight w is 0 where it is void, 12w for an accepted option, −p for another, −p for MULTIPLE
under WRONG and 0 under ZERO, and 0 for BLANK and DOUBTFUL, p being 0, 3w, 4w, 6w or 12w by the penalty ratio; an
option beyond the first n of a question that is in range is not accepted and scores −p (R167). -/
def Obligations.ScoresAndPercents : Prop :=
  (∀ (k : Key) (m : MarkRecord),
      let x (i : Nat) : Question := k.question (i + 1)
      let sum : Int := ∑ i ∈ Finset.range k.q, scoreOf k (x i) (markAt m.working (i + 1))
      k.maximum = ∑ i ∈ Finset.range k.q, (if (x i).void = true then 0 else 12 * (x i).weight)
      ∧ (k.q ≤ 120 → (∀ i, (x i).weight ≤ 40) → k.maximum ≤ 57600)
      ∧ (∀ q o, -(12 * (q.weight : Int)) ≤ scoreOf k q o ∧ scoreOf k q o ≤ 12 * (q.weight : Int))
      ∧ -(k.maximum : Int) ≤ sum ∧ sum ≤ k.maximum
      ∧ ∃ t : Totals, (scored k m).totals = some t ∧ t.maximum = k.maximum
        ∧ (k.floor = .zero ∧ sum < 0 → t.total = 0 ∧ (scored k m).floored = true)
        ∧ (k.floor ≠ .zero ∨ 0 ≤ sum → t.total = sum ∧ (scored k m).floored = false)
        ∧ -(k.maximum : Int) ≤ t.total ∧ t.total ≤ k.maximum ∧ (k.floor = .zero → 0 ≤ t.total)
        ∧ t.mark = roundedMark t.total ∧ t.percent = percentOf t.total k.maximum
        ∧ -1000 ≤ t.percent ∧ t.percent ≤ 1000 ∧ (k.floor = .zero → 0 ≤ t.percent)
        ∧ ((scored k m).noMaximum = true ↔ k.maximum = 0)
        ∧ (k.maximum = 0 → t.total = 0 ∧ t.percent = 0))
  ∧ (∀ (t : Int) (m : Nat),
      12 * roundedMark t ≤ t + 6 ∧ t + 6 < 12 * roundedMark t + 12
      ∧ (0 < m → 2 * m * percentOf t m ≤ 2000 * t + m ∧ 2000 * t + m < 2 * m * percentOf t m + 2 * m)
      ∧ (-(m : Int) ≤ t → t ≤ m → -1000 ≤ percentOf t m ∧ percentOf t m ≤ 1000 ∧ (0 ≤ t → 0 ≤ percentOf t m))
      ∧ (0 < m → percentOf m m = 1000 ∧ percentOf (-m) m = -1000))
  ∧ (∀ (k : Key) (x : Question) (w p : Int), w = x.weight →
      p = (match k.penalty with
        | .none => 0
        | .quarter => 3 * w
        | .third => 4 * w
        | .half => 6 * w
        | .whole => 12 * w) →
      (x.void = true → ∀ o, scoreOf k x o = 0)
      ∧ (x.void = false →
        (∀ c, (hasChoice x.accepted c = true → scoreOf k x (.option c) = 12 * w)
          ∧ (hasChoice x.accepted c = false → scoreOf k x (.option c) = -p))
        ∧ (k.multiple = .wrong → scoreOf k x .multiple = -p) ∧ (k.multiple = .zero → scoreOf k x .multiple = 0)
        ∧ scoreOf k x .blank = 0 ∧ scoreOf k x .doubtful = 0
        ∧ (∀ c, x.lawful → x.options ≤ choiceIndex c → scoreOf k x (.option c) = -p)))

/-! ### Sheets and batches -/

/-- A darkness is floor(s × G / 2^(12 + S)) + O clamped to 0–1023 (R151). A bubble at HIGH or above is FILLED, one at
LOW or below EMPTY, one strictly between FAINT; the factory values are HIGH 600, LOW 350 and E 200, under which and
the factory calibration a raw sample of 150 or more is FILLED, one of 87 or less EMPTY and one from 88 to 149 FAINT
(R153). -/
def Obligations.DarknessAndClass : Prop :=
  (∀ (c : Channel) (x : Nat),
      let v : Int := ((x * c.gain / 2 ^ (12 + c.shift) : Nat) : Int) + c.offset
      ((darkness c x : Nat) : Int) = max 0 (min 1023 v))
  ∧ (∀ (t : Thresholds) (d : Nat), t.low < t.high →
      (classify t d = .filled ↔ t.high ≤ d) ∧ (classify t d = .empty ↔ d ≤ t.low)
      ∧ (classify t d = .faint ↔ t.low < d ∧ d < t.high))
  ∧ (∀ (t : Thresholds), t = State.reset.settings.working.thresholds → t.high = 600 ∧ t.low = 350 ∧ t.margin = 200
      ∧ ∀ (i x : Nat), x ≤ 255 →
        let d := darkness (channelOf State.reset.settings.working.calibration i) x
        d = 4 * x ∧ (150 ≤ x → classify t d = .filled) ∧ (x ≤ 87 → classify t d = .empty)
          ∧ (88 ≤ x → x ≤ 149 → classify t d = .faint))

/-- The outcome of a question looks only at its first n bubbles, and follows the table of R156 row by row: which
bubbles are FILLED and which FAINT, and whether the darkest stands E or more above the next. A decoded read has the
outcome of its row for each question of the shape that has one and BLANK for the others; its erasures count the rows
resolved, its stray fill a bubble that is not EMPTY beyond a row's options, its extra rows a FILLED one in a row
beyond the shape (R155–R158). -/
def Obligations.OutcomesFollowTable : Prop :=
  (∀ (t : Thresholds) (n : Nat) (d d' : List Nat), n ≤ 5 → t.low < t.high → 1 ≤ t.margin →
      ((∀ i, i < n → d.getD i 0 = d'.getD i 0) → outcomeOf t n d = outcomeOf t n d')
      ∧ ((∀ i, i < n → d.getD i 0 ≤ t.low) → outcomeOf t n d = (.blank, false))
      ∧ ((∀ i, i < n → d.getD i 0 < t.high) → (∃ i, i < n ∧ t.low < d.getD i 0) →
        outcomeOf t n d = (.doubtful, false))
      ∧ (∀ i, i < n → t.high ≤ d.getD i 0 →
        ((∀ j, j < n → j ≠ i → d.getD j 0 ≤ t.low) → outcomeOf t n d = (.option (choiceOf i), false))
        ∧ ((∀ j, j < n → j ≠ i → d.getD j 0 < t.high) →
          (∃ j, j < n ∧ j ≠ i ∧ t.low < d.getD j 0 ∧ d.getD i 0 < d.getD j 0 + t.margin) →
          outcomeOf t n d = (.doubtful, false))
        ∧ ((∀ j, j < n → j ≠ i → t.low < d.getD j 0 → d.getD j 0 + t.margin ≤ d.getD i 0) →
          (∃ j, j < n ∧ j ≠ i ∧ t.low < d.getD j 0) → outcomeOf t n d = (.option (choiceOf i), true))
        ∧ ((∀ j, j < n → d.getD j 0 ≤ d.getD i 0) →
          (∃ j, j < n ∧ j ≠ i ∧ t.high ≤ d.getD j 0 ∧ d.getD i 0 < d.getD j 0 + t.margin) →
          outcomeOf t n d = (.multiple, false))))
  ∧ (∀ (job : DecodeJob) (rows : List (List Nat)), job.thresholds.low < job.thresholds.high →
      let dark (i c : Nat) : Nat := darkness (channelOf job.calibration c) ((rows.getD i []).getD c 0)
      let outcome (i : Nat) : Mark × Bool :=
        outcomeOf job.thresholds (job.shape.getD i 0) ((List.range 5).map (dark i))
      let r := decode job rows
      r.marks.length = job.shape.length
        ∧ (∀ i, i < job.shape.length → markAt r.marks (i + 1) = if i < rows.length then (outcome i).1 else .blank)
        ∧ r.erasures = ((List.range (min job.shape.length rows.length)).filter fun i => (outcome i).2).length
        ∧ (r.strayFill = true ↔ ∃ i c, i < job.shape.length ∧ i < rows.length ∧ job.shape.getD i 0 ≤ c ∧ c < 5
          ∧ job.thresholds.low < dark i c)
        ∧ (r.extraRows = true ↔ ∃ i c, job.shape.length ≤ i ∧ i < rows.length ∧ c < 5
          ∧ job.thresholds.high ≤ dark i c))

/-- The reception of a sheet (R144–R148, R159, R205): on the input an octet A5h outside a message and no other begins
a sheet, and the message ends at its length or at a gap; SHEET_BEGIN takes a FREE buffer, of two the one freed first
(at the first sheet of a start buffer 0, log entry 13), or none when neither is FREE; SHEET_MESSAGE keeps a whole
sheet that passes its tests for the decoder and answers any other; SHEET_GAP answers BAD_CHECK to a cut one; before a
gap has been seen nothing is received; SHEET_VERDICT_SEND sends the oldest answer. -/
def Obligations.SheetsReceived : Prop :=
  (∀ s : State, s.power.power = .on →
      (s.sheet.ignoring = true → exec .sheetBegin s = .next s)
      ∧ exec .sheetInputGapSeen s = .next { s with sheet := { s.sheet with ignoring := false } }
      ∧ (s.sheet.ignoring = false → s.sheet.receiving = none →
        (∀ i, (s.buffer i).state = .free → i < 2 → (∀ j, j < 2 → j ≠ i → (s.buffer j).state ≠ .free) →
          ∃ t, exec .sheetBegin s = .next t ∧ t.sheet.receiving = some (.buffer i) ∧ (t.buffer i).state = .receiving
            ∧ t.sheet.freed = s.sheet.freed.filter (· ≠ i)
            ∧ (∀ j, j ≠ i → t.buffer j = s.buffer j) ∧ OnlyChanges [.sheet] s t)
        ∧ ((s.buffer 0).state = .free → (s.buffer 1).state = .free → ∀ i later, s.sheet.freed = i :: later →
          ∃ t, exec .sheetBegin s = .next t ∧ t.sheet.receiving = some (.buffer i) ∧ (t.buffer i).state = .receiving
            ∧ t.sheet.freed = later.filter (· ≠ i)
            ∧ (∀ j, j ≠ i → t.buffer j = s.buffer j) ∧ OnlyChanges [.sheet] s t)
        ∧ ((s.buffer 0).state ≠ .free → (s.buffer 1).state ≠ .free →
          exec .sheetBegin s = .next { s with sheet := { s.sheet with receiving := some .overrun } }))
      ∧ (∀ i l, s.sheet.receiving = some (.buffer i) → wholeSheet l = true →
        (receptionVerdict l = none →
          ∃ t, exec (.sheetMessage l) s = .next t ∧ t.sheet.receiving = none
            ∧ t.buffer i = { state := .waiting, sheet := sheetNumber l, tag := sheetTag l, rowCount := sheetRowCount l,
                             rows := storedRows l }
            ∧ t.sheet.filled = s.sheet.filled ++ [i] ∧ OnlyChanges [.sheet] s t)
        ∧ (∀ v, receptionVerdict l = some v →
          ∃ t, exec (.sheetMessage l) s = .next t ∧ t.sheet.receiving = none ∧ t.buffer i = {}
            ∧ t.sheet.freed = s.sheet.freed ++ [i]
            ∧ t.sheet.replies.getLast? = some { sheet := sheetNumber l, tag := sheetTag l, verdict := v }
            ∧ 0 < (t.notice .sheetRejected).count ∧ OnlyChanges [.sheet, .batch, .notices] s t))
      ∧ (∀ i l, s.sheet.receiving = some (.buffer i) → cutSheet l = true →
        ∃ t, exec (.sheetGap l) s = .next t ∧ t.sheet.receiving = none ∧ t.buffer i = {}
          ∧ t.sheet.freed = s.sheet.freed ++ [i]
          ∧ t.sheet.replies.getLast? = some { sheet := sheetNumber l, tag := sheetTag l, verdict := .badCheck }
          ∧ OnlyChanges [.sheet, .batch, .notices] s t)
      ∧ (∀ l, s.sheet.receiving = some .overrun → wholeSheet l = true →
        ∃ t, exec (.sheetMessage l) s = .next t ∧ t.sheet.receiving = none
          ∧ t.sheet.replies.getLast? = some { sheet := sheetNumber l, tag := sheetTag l, verdict := .overrun }
          ∧ OnlyChanges [.sheet, .batch, .notices] s t)
      ∧ (∀ r rest, s.sheet.replies = r :: rest →
        exec .sheetVerdictSend s = .next { s with sheet := { s.sheet with sent := some r, replies := rest } }))
  ∧ (({} : SheetPort).freed = [0, 1] ∧ ∀ i, (Table.read {} ({} : SheetPort).buffers i).state = .free)
  ∧ (∀ (n : Nat) (l rest : List Octet),
      ((∀ o ∈ l, o ≠ 0xA5) → sheetCommands n l = [])
      ∧ (wholeSheet l = true →
        sheetCommands (n + 1) (0xA5 :: (l ++ rest)) = .sheetBegin :: .sheetMessage l :: sheetCommands n rest)
      ∧ (cutSheet l = true → sheetCommands (n + 1) (0xA5 :: l) = [.sheetBegin, .sheetGap l]))

/-- The decoder takes the sheet that became WAITING first: with no batch open it is answered NO_BATCH, and otherwise
it is DECODING by the settings and the key's shape of that moment (R149); at its hand-over its buffer is FREE and it
has the verdict of the first test of R180 that holds, VOIDED, FOREIGN, REPEAT by the read policy (R186) or ACCEPTED; a
refused read changes no entry and no sitting, and an open batch counts the verdict and matches its position (R150,
R180, R181). -/
def Obligations.SheetsDecoded : Prop :=
  ∀ s : State, s.power.power = .on →
    (∀ i, s.sheet.job = none → (s.sheet.filled.find? fun i => (s.buffer i).state == .waiting) = some i →
      (s.scoring.batch.state = .none →
        ∃ t, exec .decoderTake s = .next t ∧ t.sheet.job = none ∧ t.buffer i = {}
          ∧ t.sheet.freed = s.sheet.freed ++ [i]
          ∧ t.sheet.replies.getLast? = some { sheet := (s.buffer i).sheet, tag := (s.buffer i).tag, verdict := .noBatch }
          ∧ OnlyChanges [.sheet, .batch, .notices] s t)
      ∧ (∀ k, s.scoring.batch.state = .open → (s.tray s.scoring.batch.tray).sitting = some k →
        ∃ t, exec .decoderTake s = .next t ∧ t.buffer i = { s.buffer i with state := .decoding }
          ∧ t.sheet.job = some { buffer := i, calibration := s.settings.working.calibration,
                                 thresholds := s.settings.working.thresholds, shape := (s.key k).shape }
          ∧ OnlyChanges [.sheet] s t))
    ∧ (∀ job, s.sheet.job = some job →
      let tag := (s.buffer job.buffer).tag
      let batch := s.scoring.batch
      let tags := (s.tray batch.tray).tags
      let v : SheetVerdict := match s.byTag? tag with
        | none => .foreign
        | some e =>
          if e.custody = .void then .voided
          else if tag ∉ tags then .foreign
          else if e.custody = .collected ∨ (e.custody = .readOnce ∧ (s.key e.sitting).read = .double) then .accepted
          else .repeated
      ∃ t : State, exec .sheetHandover s = .next t ∧ t.sheet.job = none
        ∧ t.buffer job.buffer = {} ∧ t.sheet.freed = s.sheet.freed ++ [job.buffer]
        ∧ t.sheet.replies.getLast? = some { sheet := (s.buffer job.buffer).sheet, tag := tag, verdict := v }
        ∧ (v ≠ .accepted → t.roster = s.roster ∧ t.control = s.control ∧ 0 < (t.notice .sheetRejected).count)
        ∧ (batch.state = .open → ∃ reads out, t.scoring.batch = { batch with
              accepted := if v = .accepted then min 255 (batch.accepted + 1) else batch.accepted,
              rejected := if v = .accepted then batch.rejected else min 255 (batch.rejected + 1),
              reads := reads, outOfSequence := out }
          ∧ s.Matched tag v reads out)
        ∧ OnlyChanges (mayChange .sheetHandover) s t)

/-- An accepted read is stored (R183–R185): the first of a COLLECTED script makes its mark record, READ_ONCE and
scored under DOUBLE and settled under SINGLE; the second of a READ_ONCE script under DOUBLE stands beside the first,
and the record is settled where they agree and DISPUTED, with the first eight differing questions, where they do not.
No other entry and no other sitting changes. -/
def Obligations.ReadsStored : Prop :=
  ∀ (s : State) (job : DecodeJob) (e : Entry) (p : Nat), s.power.power = .on → s.RosterOrdered →
    s.sheet.job = some job → s.byTag? (s.buffer job.buffer).tag = some e → 1 ≤ p →
    (s.tray s.scoring.batch.tray).tags[p - 1]? = some (s.buffer job.buffer).tag →
    (s.buffer job.buffer).tag ∉ (s.tray s.scoring.batch.tray).tags.take (p - 1) →
    let key := s.key e.sitting
    let r := decode job (s.buffer job.buffer).rows
    let out : Bool := decide (0 ∈ s.scoring.batch.reads.take (p - 1))
    let stores (holds : State → Entry → MarkRecord → Prop) : Prop :=
      ∃ t x y, exec .sheetHandover s = .next t ∧ t.byNumber? e.number = some x ∧ x.mark = some y
        ∧ x = { e with custody := x.custody, mark := x.mark } ∧ holds t x y
        ∧ (x.custody = .marked → t.sitting e.sitting = addFinal (s.sitting e.sitting))
        ∧ (x.custody ≠ .marked → t.sitting e.sitting = s.sitting e.sitting)
        ∧ (∀ n, n ≠ e.number → t.byNumber? n = s.byNumber? n)
        ∧ (∀ k, k ≠ e.sitting → t.sitting k = s.sitting k) ∧ OnlyChanges (mayChange .sheetHandover) s t
    (e.custody = .collected → stores fun t x y =>
      y.first = r.marks ∧ y.second = none ∧ y.working = r.marks ∧ y.strayFill = r.strayFill
        ∧ y.extraRows = r.extraRows ∧ y.erasures = r.erasures ∧ y.outOfSequence = out ∧ y.manual = false
        ∧ y.disputes = []
        ∧ (key.read = .double → x.custody = .readOnce ∧ y.queries = []
          ∧ y.totals = some (key.totalsFor (key.total y.working)))
        ∧ (key.read = .single → Settled key t x y))
    ∧ (e.custody = .readOnce → key.read = .double → ∀ m, e.mark = some m → stores fun t x y =>
      y.first = m.first ∧ y.second = some r.marks ∧ y.working = m.working
        ∧ y.strayFill = (m.strayFill || r.strayFill) ∧ y.extraRows = (m.extraRows || r.extraRows)
        ∧ y.erasures = max m.erasures r.erasures ∧ y.outOfSequence = (m.outOfSequence || out)
        ∧ ((∀ i, markAt m.first i = markAt r.marks i) → Settled key t x y ∧ y.disputes = m.disputes)
        ∧ (∀ l : List Nat, l ≠ [] → l.Pairwise (· < ·) → (∀ i, i ∈ l ↔ markAt m.first i ≠ markAt r.marks i) →
          x.custody = .disputed ∧ y.disputes = l.take 8 ∧ y.many = decide (8 < l.length)
            ∧ y.totals = some (key.totalsFor (key.total y.working)) ∧ 0 < (t.notice .dispute).count))

/-- BEGIN_BATCH opens the batch of a tray whose key is locked, every position unread, and the tray is READING;
END_BATCH closes it at once when no sheet is in decode and else waits, RUNNING, for those sheets; the verdict on one
of them takes its buffer from those owed, and the verdict on the last closes the batch, which is BATCH_CLOSE: the tray
DONE or, with an empty list, EMPTY, BATCH_DONE raised, and the result the counts and the positions not read (R178,
R179, R187). -/
def Obligations.BatchesOpenAndClose : Prop :=
  ∀ s : State,
    let batch := s.scoring.batch
    (s.Ready .beginBatch → ∀ u, u < Config.trays → batch.state = .none → (s.tray u).state ≠ .empty →
      (s.tray u).state ≠ .reading → (s.trayKey u).state = .locked →
      ∃ t, exec (.beginBatch u) s = .next t
        ∧ t.Answered .ok false (.batchOpen u (s.tray u).sitting (s.tray u).tags.length (s.trayKey u).q
            (s.trayKey u).revision)
        ∧ t.scoring.batch = { state := .open, tray := u, reads := List.replicate (s.tray u).tags.length 0 }
        ∧ t.tray u = { s.tray u with state := .reading } ∧ (∀ v, v ≠ u → t.tray v = s.tray v)
        ∧ OnlyChanges (mayChange (.beginBatch u)) s t)
    ∧ (s.Ready .endBatch → batch.state = .open →
      (s.inDecode ≠ [] → exec .endBatch s = .next { s with
        port := { s.port with running := some 0x58, result := {}, ignoredWrite := false },
        scoring := { s.scoring with batch := { batch with state := .closing, owed := s.inDecode } } })
      ∧ (s.inDecode = [] → ∃ t, exec .endBatch s = .next t
        ∧ s.BatchClosed t batch.accepted batch.rejected batch.outOfSequence batch.reads
        ∧ OnlyChanges batchParts s t))
    ∧ (s.power.power = .on → batch.state = .closing →
      (batch.owed = [] → ∃ t, exec .batchClose s = .next t
        ∧ s.BatchClosed t batch.accepted batch.rejected batch.outOfSequence batch.reads
        ∧ OnlyChanges batchParts s t)
      ∧ (∀ job, s.sheet.job = some job → job.buffer ∈ batch.owed →
        let tag := (s.buffer job.buffer).tag
        ((∀ i ∈ batch.owed, i = job.buffer) →
          ∃ t v reads out, exec .sheetHandover s = .next t ∧ exec .batchClose s = .next t
            ∧ t.sheet.replies.getLast? = some { sheet := (s.buffer job.buffer).sheet, tag := tag, verdict := v }
            ∧ s.Matched tag v reads out
            ∧ s.BatchClosed t (if v = .accepted then min 255 (batch.accepted + 1) else batch.accepted)
              (if v = .accepted then batch.rejected else min 255 (batch.rejected + 1)) out reads
            ∧ OnlyChanges (mayChange .sheetHandover) s t)
        ∧ ((∃ i ∈ batch.owed, i ≠ job.buffer) →
          exec .batchClose s = .next s
            ∧ ∃ t, exec .sheetHandover s = .next t ∧ t.scoring.batch.state = .closing
              ∧ t.scoring.batch.owed = batch.owed.filter (· != job.buffer) ∧ t.port.running = s.port.running
              ∧ t.trays = s.trays ∧ OnlyChanges (mayChange .sheetHandover) s t)))
end

