-- ==== Sys2Proof/Laws/Table.lean ====
section
/-!
SUPPORT. The laws of sparse tables: what is read after a write, and that every operation keeps the canonical form;
the bounds of clamped values.
-/

namespace Sys2Proof

variable {α : Type} {d : α}

theorem Table.read_append (t u : Table α) (k : Nat) :
    Table.read d (t ++ u) k = if (t.any fun p => p.1 == k) then Table.read d t k else Table.read d u k := by
  induction t with
  | nil => simp
  | cons p t ih =>
    obtain ⟨i, v⟩ := p
    by_cases h : i = k
    · simp [Table.read, h]
    · have hb : (i == k) = false := by simpa using h
      simp only [List.cons_append, Table.read, h, if_false, List.any_cons, hb, Bool.false_or]
      exact ih

theorem Table.read_of_absent {t : Table α} {k : Nat} (h : ∀ p ∈ t, p.1 ≠ k) : Table.read d t k = d := by
  induction t with
  | nil => rfl
  | cons p t ih =>
    obtain ⟨i, v⟩ := p
    have hi : i ≠ k := h (i, v) (by simp)
    simp only [Table.read, hi, if_false]
    exact ih fun q hq => h q (by simp [hq])

theorem Table.read_filter {t : Table α} {k : Nat} {p : Nat × α → Bool} (h : ∀ v, p (k, v) = true) :
    Table.read d (t.filter p) k = Table.read d t k := by
  induction t with
  | nil => rfl
  | cons q t ih =>
    obtain ⟨i, v⟩ := q
    by_cases hi : i = k
    · subst hi
      simp [h, Table.read]
    · by_cases hp : p (i, v)
      · simp [hp, Table.read, hi, ih]
      · simp [hp, Table.read, hi, ih]

variable [DecidableEq α]

/-- A record written is read back. -/
@[simp] theorem Table.read_write_same (t : Table α) (k : Nat) (v : α) : Table.read d (Table.write d t k v) k = v := by
  have h1 : ((t.filter fun p => decide (p.1 < k)).any fun p => p.1 == k) = false := by
    simp only [List.any_eq_false, List.mem_filter]
    intro p hp
    simp only [beq_iff_eq]
    have := hp.2
    simp at this
    omega
  have h2 : ∀ p ∈ t.filter (fun p => decide (k < p.1)), p.1 ≠ k := by
    intro p hp
    have := (List.mem_filter.1 hp).2
    simp at this
    omega
  unfold Table.write
  rw [List.append_assoc, Table.read_append, h1]
  simp only [Bool.false_eq_true, if_false]
  by_cases hv : v = d
  · simp only [hv, if_true, List.nil_append]
    exact Table.read_of_absent h2
  · simp [hv, Table.read]

/-- Every other index reads as before a write. -/
theorem Table.read_write_other (t : Table α) {k j : Nat} (v : α) (h : j ≠ k) :
    Table.read d (Table.write d t k v) j = Table.read d t j := by
  unfold Table.write
  rcases Nat.lt_or_gt_of_ne h with hlt | hgt
  · rw [List.append_assoc, Table.read_append]
    have hf : Table.read d (t.filter fun p => decide (p.1 < k)) j = Table.read d t j :=
      Table.read_filter (by simp [hlt])
    split
    · exact hf
    · next hn =>
      have habs : ∀ p ∈ t.filter (fun p => decide (p.1 < k)), p.1 ≠ j := by
        intro p hp he
        exact hn (by simp only [List.any_eq_true]; exact ⟨p, hp, by simp [he]⟩)
      have hd : Table.read d t j = d := by rw [← hf]; exact Table.read_of_absent habs
      rw [hd]
      apply Table.read_of_absent
      intro p hp
      rcases List.mem_append.1 hp with hp | hp
      · split at hp
        · simp at hp
        · simp only [List.mem_singleton] at hp
          subst hp
          simpa using Ne.symm h
      · have := (List.mem_filter.1 hp).2
        simp at this
        omega
  · rw [List.append_assoc, Table.read_append]
    have h1 : ((t.filter fun p => decide (p.1 < k)).any fun p => p.1 == j) = false := by
      simp only [List.any_eq_false, List.mem_filter]
      intro p hp
      simp only [beq_iff_eq]
      have := hp.2
      simp at this
      omega
    rw [h1]
    simp only [Bool.false_eq_true, if_false]
    rw [Table.read_append]
    have h2 : ((if v = d then [] else [(k, v)]).any fun p : Nat × α => p.1 == j) = false := by
      split
      · simp
      · simp; omega
    rw [h2]
    simp only [Bool.false_eq_true, if_false]
    exact Table.read_filter (by simp [hgt])

/-- A read after a write, at any index. -/
theorem Table.read_write (t : Table α) (k j : Nat) (v : α) :
    Table.read d (Table.write d t k v) j = if j = k then v else Table.read d t j := by
  by_cases h : j = k
  · subst h; simp
  · simp [h, Table.read_write_other t v h]

theorem Table.wf_cons {i : Nat} {v : α} {t : Table α} :
    Table.wf d ((i, v) :: t) = true ↔ v ≠ d ∧ (∀ p ∈ t, i < p.1) ∧ Table.wf d t = true := by
  simp [Table.wf, and_assoc]

theorem Table.wf_iff (t : Table α) :
    Table.wf d t = true ↔ (t.Pairwise fun p q => p.1 < q.1) ∧ ∀ p ∈ t, p.2 ≠ d := by
  induction t with
  | nil => simp [Table.wf]
  | cons p t ih =>
    obtain ⟨i, v⟩ := p
    rw [Table.wf_cons, ih, List.pairwise_cons]
    constructor
    · rintro ⟨hv, hi, hp, hd⟩
      exact ⟨⟨hi, hp⟩, by
        intro q hq
        rcases List.mem_cons.1 hq with rfl | hq
        · exact hv
        · exact hd q hq⟩
    · rintro ⟨⟨hi, hp⟩, hd⟩
      exact ⟨hd (i, v) (by simp), hi, hp, fun q hq => hd q (by simp [hq])⟩

/-- A write keeps the canonical form. -/
theorem Table.write_wf {t : Table α} (h : Table.wf d t = true) (k : Nat) (v : α) :
    Table.wf d (Table.write d t k v) = true := by
  rw [Table.wf_iff] at h ⊢
  unfold Table.write
  constructor
  · rw [List.append_assoc, List.pairwise_append]
    refine ⟨h.1.filter _, ?_, ?_⟩
    · rw [List.pairwise_append]
      refine ⟨by split <;> simp, h.1.filter _, ?_⟩
      intro p hp q hq
      split at hp
      · simp at hp
      · simp only [List.mem_singleton] at hp
        subst hp
        simpa using (List.mem_filter.1 hq).2
    · intro p hp q hq
      have hpk : p.1 < k := by simpa using (List.mem_filter.1 hp).2
      rcases List.mem_append.1 hq with hq | hq
      · split at hq
        · simp at hq
        · simp only [List.mem_singleton] at hq
          subst hq
          exact hpk
      · have : k < q.1 := by simpa using (List.mem_filter.1 hq).2
        omega
  · intro p hp
    rcases List.mem_append.1 hp with hp | hp
    · rcases List.mem_append.1 hp with hp | hp
      · exact h.2 p (List.mem_filter.1 hp).1
      · split at hp
        · simp at hp
        · next hv => simp only [List.mem_singleton] at hp; subst hp; exact hv
    · exact h.2 p (List.mem_filter.1 hp).1

/-- Changing every record keeps the canonical form. -/
theorem Table.mapRecords_wf {t : Table α} (h : Table.wf d t = true) (f : α → α) :
    Table.wf d (Table.mapRecords d f t) = true := by
  rw [Table.wf_iff] at h ⊢
  unfold Table.mapRecords
  constructor
  · apply List.Pairwise.filter
    rw [List.pairwise_map]
    exact h.1
  · intro p hp
    simpa using (List.mem_filter.1 hp).2

/-- Filtering keeps the canonical form. -/
theorem Table.filter_wf {t : Table α} (h : Table.wf d t = true) (p : Nat × α → Bool) :
    Table.wf d (t.filter p) = true := by
  rw [Table.wf_iff] at h ⊢
  exact ⟨h.1.filter _, fun q hq => h.2 q (List.mem_filter.1 hq).1⟩

/-- What is read after every record has changed, in a table whose indices rise; the default record must stay so. -/
theorem Table.read_mapRecords {t : Table α} (h : Table.wf d t = true) {f : α → α} (hf : f d = d) (k : Nat) :
    Table.read d (Table.mapRecords d f t) k = f (Table.read d t k) := by
  induction t with
  | nil => simp [Table.mapRecords, Table.read, hf]
  | cons p t ih =>
    obtain ⟨i, v⟩ := p
    rw [Table.wf_cons] at h
    have ih' := ih h.2.2
    unfold Table.mapRecords at ih' ⊢
    rw [List.map_cons, List.filter_cons]
    by_cases hi : i = k
    · subst hi
      by_cases hv : f v = d
      · simp only [hv, ne_eq, not_true_eq_false, decide_false, Bool.false_eq_true, if_false]
        rw [ih']
        have : Table.read d t i = d := Table.read_of_absent fun q hq => by have := h.2.1 q hq; omega
        simp [this, Table.read, hv, hf]
      · simp [hv, Table.read]
    · by_cases hv : f v = d
      · simp only [hv, ne_eq, not_true_eq_false, decide_false, Bool.false_eq_true, if_false]
        rw [ih']
        simp [Table.read, hi]
      · simp only [hv, ne_eq, not_false_eq_true, decide_true, if_true, Table.read, hi, if_false]
        exact ih'

/-! ### Clamping -/

theorem clampNat_bounds {lo hi : Nat} (h : lo ≤ hi) (v : Nat) : lo ≤ clampNat lo hi v ∧ clampNat lo hi v ≤ hi := by
  unfold clampNat; omega

theorem clampNat_of_mem {lo hi v : Nat} (h1 : lo ≤ v) (h2 : v ≤ hi) : clampNat lo hi v = v := by
  unfold clampNat; omega

theorem clampInt_bounds {lo hi : Int} (h : lo ≤ hi) (v : Int) : lo ≤ clampInt lo hi v ∧ clampInt lo hi v ≤ hi := by
  unfold clampInt; omega

theorem clampInt_of_mem {lo hi v : Int} (h1 : lo ≤ v) (h2 : v ≤ hi) : clampInt lo hi v = v := by
  unfold clampInt; omega

end Sys2Proof
end

