-- ==== Sys2Proof/Laws/State.lean ====
section
/-!
SUPPORT. One lemma per block per updater of State, true by rfl, and what each record reads after an updater: no
proof unfolds a record update.
-/

namespace Sys2Proof.Machine

variable (s : State)

@[simp] theorem State.setSeat_power (d : Nat) (v : Seat) : (s.setSeat d v).power = s.power := rfl
@[simp] theorem State.setSeat_hall (d : Nat) (v : Seat) : (s.setSeat d v).hall = s.hall := rfl
@[simp] theorem State.setSeat_port (d : Nat) (v : Seat) : (s.setSeat d v).port = s.port := rfl
@[simp] theorem State.setSeat_settings (d : Nat) (v : Seat) : (s.setSeat d v).settings = s.settings := rfl
@[simp] theorem State.setSeat_roster (d : Nat) (v : Seat) : (s.setSeat d v).roster = s.roster := rfl
@[simp] theorem State.setSeat_placement (d : Nat) (v : Seat) : (s.setSeat d v).placement = s.placement := rfl
@[simp] theorem State.setSeat_control (d : Nat) (v : Seat) : (s.setSeat d v).control = s.control := rfl
@[simp] theorem State.setSeat_trays (d : Nat) (v : Seat) : (s.setSeat d v).trays = s.trays := rfl
@[simp] theorem State.setSeat_lines (d : Nat) (v : Seat) : (s.setSeat d v).lines = s.lines := rfl
@[simp] theorem State.setSeat_sheet (d : Nat) (v : Seat) : (s.setSeat d v).sheet = s.sheet := rfl
@[simp] theorem State.setSeat_scoring (d : Nat) (v : Seat) : (s.setSeat d v).scoring = s.scoring := rfl
@[simp] theorem State.setSeat_pending (d : Nat) (v : Seat) : (s.setSeat d v).pending = s.pending := rfl
@[simp] theorem State.setSeat_seatMap (d : Nat) (v : Seat) :
    (s.setSeat d v).seatMap = { s.seatMap with seats := Table.write {} s.seatMap.seats d v } := rfl

@[simp] theorem State.setZoneExtents_power (z : Nat) (v : ZoneExtents) : (s.setZoneExtents z v).power = s.power := rfl
@[simp] theorem State.setZoneExtents_hall (z : Nat) (v : ZoneExtents) : (s.setZoneExtents z v).hall = s.hall := rfl
@[simp] theorem State.setZoneExtents_port (z : Nat) (v : ZoneExtents) : (s.setZoneExtents z v).port = s.port := rfl
@[simp] theorem State.setZoneExtents_settings (z : Nat) (v : ZoneExtents) : (s.setZoneExtents z v).settings = s.settings := rfl
@[simp] theorem State.setZoneExtents_roster (z : Nat) (v : ZoneExtents) : (s.setZoneExtents z v).roster = s.roster := rfl
@[simp] theorem State.setZoneExtents_placement (z : Nat) (v : ZoneExtents) : (s.setZoneExtents z v).placement = s.placement := rfl
@[simp] theorem State.setZoneExtents_control (z : Nat) (v : ZoneExtents) : (s.setZoneExtents z v).control = s.control := rfl
@[simp] theorem State.setZoneExtents_trays (z : Nat) (v : ZoneExtents) : (s.setZoneExtents z v).trays = s.trays := rfl
@[simp] theorem State.setZoneExtents_lines (z : Nat) (v : ZoneExtents) : (s.setZoneExtents z v).lines = s.lines := rfl
@[simp] theorem State.setZoneExtents_sheet (z : Nat) (v : ZoneExtents) : (s.setZoneExtents z v).sheet = s.sheet := rfl
@[simp] theorem State.setZoneExtents_scoring (z : Nat) (v : ZoneExtents) : (s.setZoneExtents z v).scoring = s.scoring := rfl
@[simp] theorem State.setZoneExtents_pending (z : Nat) (v : ZoneExtents) : (s.setZoneExtents z v).pending = s.pending := rfl
@[simp] theorem State.setZoneExtents_seatMap (z : Nat) (v : ZoneExtents) :
    (s.setZoneExtents z v).seatMap = { s.seatMap with extents := Table.write {} s.seatMap.extents z v } := rfl

@[simp] theorem State.setSitting_power (k : Nat) (v : Sitting) : (s.setSitting k v).power = s.power := rfl
@[simp] theorem State.setSitting_hall (k : Nat) (v : Sitting) : (s.setSitting k v).hall = s.hall := rfl
@[simp] theorem State.setSitting_port (k : Nat) (v : Sitting) : (s.setSitting k v).port = s.port := rfl
@[simp] theorem State.setSitting_settings (k : Nat) (v : Sitting) : (s.setSitting k v).settings = s.settings := rfl
@[simp] theorem State.setSitting_roster (k : Nat) (v : Sitting) : (s.setSitting k v).roster = s.roster := rfl
@[simp] theorem State.setSitting_seatMap (k : Nat) (v : Sitting) : (s.setSitting k v).seatMap = s.seatMap := rfl
@[simp] theorem State.setSitting_placement (k : Nat) (v : Sitting) : (s.setSitting k v).placement = s.placement := rfl
@[simp] theorem State.setSitting_trays (k : Nat) (v : Sitting) : (s.setSitting k v).trays = s.trays := rfl
@[simp] theorem State.setSitting_lines (k : Nat) (v : Sitting) : (s.setSitting k v).lines = s.lines := rfl
@[simp] theorem State.setSitting_sheet (k : Nat) (v : Sitting) : (s.setSitting k v).sheet = s.sheet := rfl
@[simp] theorem State.setSitting_scoring (k : Nat) (v : Sitting) : (s.setSitting k v).scoring = s.scoring := rfl
@[simp] theorem State.setSitting_pending (k : Nat) (v : Sitting) : (s.setSitting k v).pending = s.pending := rfl
@[simp] theorem State.setSitting_control (k : Nat) (v : Sitting) :
    (s.setSitting k v).control = { s.control with sittings := Table.write {} s.control.sittings k v } := rfl

@[simp] theorem State.setBell_power (o v : Nat) : (s.setBell o v).power = s.power := rfl
@[simp] theorem State.setBell_hall (o v : Nat) : (s.setBell o v).hall = s.hall := rfl
@[simp] theorem State.setBell_port (o v : Nat) : (s.setBell o v).port = s.port := rfl
@[simp] theorem State.setBell_settings (o v : Nat) : (s.setBell o v).settings = s.settings := rfl
@[simp] theorem State.setBell_roster (o v : Nat) : (s.setBell o v).roster = s.roster := rfl
@[simp] theorem State.setBell_seatMap (o v : Nat) : (s.setBell o v).seatMap = s.seatMap := rfl
@[simp] theorem State.setBell_placement (o v : Nat) : (s.setBell o v).placement = s.placement := rfl
@[simp] theorem State.setBell_trays (o v : Nat) : (s.setBell o v).trays = s.trays := rfl
@[simp] theorem State.setBell_lines (o v : Nat) : (s.setBell o v).lines = s.lines := rfl
@[simp] theorem State.setBell_sheet (o v : Nat) : (s.setBell o v).sheet = s.sheet := rfl
@[simp] theorem State.setBell_scoring (o v : Nat) : (s.setBell o v).scoring = s.scoring := rfl
@[simp] theorem State.setBell_pending (o v : Nat) : (s.setBell o v).pending = s.pending := rfl
@[simp] theorem State.setBell_control (o v : Nat) :
    (s.setBell o v).control = { s.control with bells := Table.write 0 s.control.bells o v } := rfl

@[simp] theorem State.setTray_power (u : Nat) (v : Tray) : (s.setTray u v).power = s.power := rfl
@[simp] theorem State.setTray_hall (u : Nat) (v : Tray) : (s.setTray u v).hall = s.hall := rfl
@[simp] theorem State.setTray_port (u : Nat) (v : Tray) : (s.setTray u v).port = s.port := rfl
@[simp] theorem State.setTray_settings (u : Nat) (v : Tray) : (s.setTray u v).settings = s.settings := rfl
@[simp] theorem State.setTray_roster (u : Nat) (v : Tray) : (s.setTray u v).roster = s.roster := rfl
@[simp] theorem State.setTray_seatMap (u : Nat) (v : Tray) : (s.setTray u v).seatMap = s.seatMap := rfl
@[simp] theorem State.setTray_placement (u : Nat) (v : Tray) : (s.setTray u v).placement = s.placement := rfl
@[simp] theorem State.setTray_control (u : Nat) (v : Tray) : (s.setTray u v).control = s.control := rfl
@[simp] theorem State.setTray_lines (u : Nat) (v : Tray) : (s.setTray u v).lines = s.lines := rfl
@[simp] theorem State.setTray_sheet (u : Nat) (v : Tray) : (s.setTray u v).sheet = s.sheet := rfl
@[simp] theorem State.setTray_scoring (u : Nat) (v : Tray) : (s.setTray u v).scoring = s.scoring := rfl
@[simp] theorem State.setTray_pending (u : Nat) (v : Tray) : (s.setTray u v).pending = s.pending := rfl
@[simp] theorem State.setTray_trays (u : Nat) (v : Tray) :
    (s.setTray u v).trays = Table.write {} s.trays u v := rfl

@[simp] theorem State.setLine_power (z : Nat) (v : Line) : (s.setLine z v).power = s.power := rfl
@[simp] theorem State.setLine_hall (z : Nat) (v : Line) : (s.setLine z v).hall = s.hall := rfl
@[simp] theorem State.setLine_port (z : Nat) (v : Line) : (s.setLine z v).port = s.port := rfl
@[simp] theorem State.setLine_settings (z : Nat) (v : Line) : (s.setLine z v).settings = s.settings := rfl
@[simp] theorem State.setLine_roster (z : Nat) (v : Line) : (s.setLine z v).roster = s.roster := rfl
@[simp] theorem State.setLine_seatMap (z : Nat) (v : Line) : (s.setLine z v).seatMap = s.seatMap := rfl
@[simp] theorem State.setLine_placement (z : Nat) (v : Line) : (s.setLine z v).placement = s.placement := rfl
@[simp] theorem State.setLine_control (z : Nat) (v : Line) : (s.setLine z v).control = s.control := rfl
@[simp] theorem State.setLine_trays (z : Nat) (v : Line) : (s.setLine z v).trays = s.trays := rfl
@[simp] theorem State.setLine_sheet (z : Nat) (v : Line) : (s.setLine z v).sheet = s.sheet := rfl
@[simp] theorem State.setLine_scoring (z : Nat) (v : Line) : (s.setLine z v).scoring = s.scoring := rfl
@[simp] theorem State.setLine_pending (z : Nat) (v : Line) : (s.setLine z v).pending = s.pending := rfl
@[simp] theorem State.setLine_lines (z : Nat) (v : Line) :
    (s.setLine z v).lines = Table.write {} s.lines z v := rfl

@[simp] theorem State.setKey_power (k : Nat) (v : Key) : (s.setKey k v).power = s.power := rfl
@[simp] theorem State.setKey_hall (k : Nat) (v : Key) : (s.setKey k v).hall = s.hall := rfl
@[simp] theorem State.setKey_port (k : Nat) (v : Key) : (s.setKey k v).port = s.port := rfl
@[simp] theorem State.setKey_settings (k : Nat) (v : Key) : (s.setKey k v).settings = s.settings := rfl
@[simp] theorem State.setKey_roster (k : Nat) (v : Key) : (s.setKey k v).roster = s.roster := rfl
@[simp] theorem State.setKey_seatMap (k : Nat) (v : Key) : (s.setKey k v).seatMap = s.seatMap := rfl
@[simp] theorem State.setKey_placement (k : Nat) (v : Key) : (s.setKey k v).placement = s.placement := rfl
@[simp] theorem State.setKey_control (k : Nat) (v : Key) : (s.setKey k v).control = s.control := rfl
@[simp] theorem State.setKey_trays (k : Nat) (v : Key) : (s.setKey k v).trays = s.trays := rfl
@[simp] theorem State.setKey_lines (k : Nat) (v : Key) : (s.setKey k v).lines = s.lines := rfl
@[simp] theorem State.setKey_sheet (k : Nat) (v : Key) : (s.setKey k v).sheet = s.sheet := rfl
@[simp] theorem State.setKey_pending (k : Nat) (v : Key) : (s.setKey k v).pending = s.pending := rfl
@[simp] theorem State.setKey_scoring (k : Nat) (v : Key) :
    (s.setKey k v).scoring = { s.scoring with keys := Table.write {} s.scoring.keys k v } := rfl

@[simp] theorem State.setBuffer_power (i : Nat) (v : Buffer) : (s.setBuffer i v).power = s.power := rfl
@[simp] theorem State.setBuffer_hall (i : Nat) (v : Buffer) : (s.setBuffer i v).hall = s.hall := rfl
@[simp] theorem State.setBuffer_port (i : Nat) (v : Buffer) : (s.setBuffer i v).port = s.port := rfl
@[simp] theorem State.setBuffer_settings (i : Nat) (v : Buffer) : (s.setBuffer i v).settings = s.settings := rfl
@[simp] theorem State.setBuffer_roster (i : Nat) (v : Buffer) : (s.setBuffer i v).roster = s.roster := rfl
@[simp] theorem State.setBuffer_seatMap (i : Nat) (v : Buffer) : (s.setBuffer i v).seatMap = s.seatMap := rfl
@[simp] theorem State.setBuffer_placement (i : Nat) (v : Buffer) : (s.setBuffer i v).placement = s.placement := rfl
@[simp] theorem State.setBuffer_control (i : Nat) (v : Buffer) : (s.setBuffer i v).control = s.control := rfl
@[simp] theorem State.setBuffer_trays (i : Nat) (v : Buffer) : (s.setBuffer i v).trays = s.trays := rfl
@[simp] theorem State.setBuffer_lines (i : Nat) (v : Buffer) : (s.setBuffer i v).lines = s.lines := rfl
@[simp] theorem State.setBuffer_scoring (i : Nat) (v : Buffer) : (s.setBuffer i v).scoring = s.scoring := rfl
@[simp] theorem State.setBuffer_pending (i : Nat) (v : Buffer) : (s.setBuffer i v).pending = s.pending := rfl
@[simp] theorem State.setBuffer_sheet (i : Nat) (v : Buffer) :
    (s.setBuffer i v).sheet = { s.sheet with buffers := Table.write {} s.sheet.buffers i v } := rfl

@[simp] theorem State.setBatch_power (b : Batch) : (s.setBatch b).power = s.power := rfl
@[simp] theorem State.setBatch_hall (b : Batch) : (s.setBatch b).hall = s.hall := rfl
@[simp] theorem State.setBatch_port (b : Batch) : (s.setBatch b).port = s.port := rfl
@[simp] theorem State.setBatch_settings (b : Batch) : (s.setBatch b).settings = s.settings := rfl
@[simp] theorem State.setBatch_roster (b : Batch) : (s.setBatch b).roster = s.roster := rfl
@[simp] theorem State.setBatch_seatMap (b : Batch) : (s.setBatch b).seatMap = s.seatMap := rfl
@[simp] theorem State.setBatch_placement (b : Batch) : (s.setBatch b).placement = s.placement := rfl
@[simp] theorem State.setBatch_control (b : Batch) : (s.setBatch b).control = s.control := rfl
@[simp] theorem State.setBatch_trays (b : Batch) : (s.setBatch b).trays = s.trays := rfl
@[simp] theorem State.setBatch_lines (b : Batch) : (s.setBatch b).lines = s.lines := rfl
@[simp] theorem State.setBatch_sheet (b : Batch) : (s.setBatch b).sheet = s.sheet := rfl
@[simp] theorem State.setBatch_pending (b : Batch) : (s.setBatch b).pending = s.pending := rfl
@[simp] theorem State.setBatch_scoring (b : Batch) :
    (s.setBatch b).scoring = { s.scoring with batch := b } := rfl

@[simp] theorem State.setOffers_power (l : List Offer) : (s.setOffers l).power = s.power := rfl
@[simp] theorem State.setOffers_hall (l : List Offer) : (s.setOffers l).hall = s.hall := rfl
@[simp] theorem State.setOffers_port (l : List Offer) : (s.setOffers l).port = s.port := rfl
@[simp] theorem State.setOffers_settings (l : List Offer) : (s.setOffers l).settings = s.settings := rfl
@[simp] theorem State.setOffers_roster (l : List Offer) : (s.setOffers l).roster = s.roster := rfl
@[simp] theorem State.setOffers_seatMap (l : List Offer) : (s.setOffers l).seatMap = s.seatMap := rfl
@[simp] theorem State.setOffers_control (l : List Offer) : (s.setOffers l).control = s.control := rfl
@[simp] theorem State.setOffers_trays (l : List Offer) : (s.setOffers l).trays = s.trays := rfl
@[simp] theorem State.setOffers_lines (l : List Offer) : (s.setOffers l).lines = s.lines := rfl
@[simp] theorem State.setOffers_sheet (l : List Offer) : (s.setOffers l).sheet = s.sheet := rfl
@[simp] theorem State.setOffers_scoring (l : List Offer) : (s.setOffers l).scoring = s.scoring := rfl
@[simp] theorem State.setOffers_pending (l : List Offer) : (s.setOffers l).pending = s.pending := rfl
@[simp] theorem State.setOffers_placement (l : List Offer) :
    (s.setOffers l).placement = { s.placement with offers := l } := rfl

@[simp] theorem State.setReseats_power (l : List Reseat) : (s.setReseats l).power = s.power := rfl
@[simp] theorem State.setReseats_hall (l : List Reseat) : (s.setReseats l).hall = s.hall := rfl
@[simp] theorem State.setReseats_port (l : List Reseat) : (s.setReseats l).port = s.port := rfl
@[simp] theorem State.setReseats_settings (l : List Reseat) : (s.setReseats l).settings = s.settings := rfl
@[simp] theorem State.setReseats_roster (l : List Reseat) : (s.setReseats l).roster = s.roster := rfl
@[simp] theorem State.setReseats_seatMap (l : List Reseat) : (s.setReseats l).seatMap = s.seatMap := rfl
@[simp] theorem State.setReseats_control (l : List Reseat) : (s.setReseats l).control = s.control := rfl
@[simp] theorem State.setReseats_trays (l : List Reseat) : (s.setReseats l).trays = s.trays := rfl
@[simp] theorem State.setReseats_lines (l : List Reseat) : (s.setReseats l).lines = s.lines := rfl
@[simp] theorem State.setReseats_sheet (l : List Reseat) : (s.setReseats l).sheet = s.sheet := rfl
@[simp] theorem State.setReseats_scoring (l : List Reseat) : (s.setReseats l).scoring = s.scoring := rfl
@[simp] theorem State.setReseats_pending (l : List Reseat) : (s.setReseats l).pending = s.pending := rfl
@[simp] theorem State.setReseats_placement (l : List Reseat) :
    (s.setReseats l).placement = { s.placement with reseats := l } := rfl

@[simp] theorem State.setRun_power (r : Option Run) : (s.setRun r).power = s.power := rfl
@[simp] theorem State.setRun_hall (r : Option Run) : (s.setRun r).hall = s.hall := rfl
@[simp] theorem State.setRun_port (r : Option Run) : (s.setRun r).port = s.port := rfl
@[simp] theorem State.setRun_settings (r : Option Run) : (s.setRun r).settings = s.settings := rfl
@[simp] theorem State.setRun_roster (r : Option Run) : (s.setRun r).roster = s.roster := rfl
@[simp] theorem State.setRun_seatMap (r : Option Run) : (s.setRun r).seatMap = s.seatMap := rfl
@[simp] theorem State.setRun_control (r : Option Run) : (s.setRun r).control = s.control := rfl
@[simp] theorem State.setRun_trays (r : Option Run) : (s.setRun r).trays = s.trays := rfl
@[simp] theorem State.setRun_lines (r : Option Run) : (s.setRun r).lines = s.lines := rfl
@[simp] theorem State.setRun_sheet (r : Option Run) : (s.setRun r).sheet = s.sheet := rfl
@[simp] theorem State.setRun_scoring (r : Option Run) : (s.setRun r).scoring = s.scoring := rfl
@[simp] theorem State.setRun_pending (r : Option Run) : (s.setRun r).pending = s.pending := rfl
@[simp] theorem State.setRun_placement (r : Option Run) :
    (s.setRun r).placement = { s.placement with run := r } := rfl

@[simp] theorem State.setSettings_power (w : Settings) : (s.setSettings w).power = s.power := rfl
@[simp] theorem State.setSettings_hall (w : Settings) : (s.setSettings w).hall = s.hall := rfl
@[simp] theorem State.setSettings_port (w : Settings) : (s.setSettings w).port = s.port := rfl
@[simp] theorem State.setSettings_roster (w : Settings) : (s.setSettings w).roster = s.roster := rfl
@[simp] theorem State.setSettings_seatMap (w : Settings) : (s.setSettings w).seatMap = s.seatMap := rfl
@[simp] theorem State.setSettings_placement (w : Settings) : (s.setSettings w).placement = s.placement := rfl
@[simp] theorem State.setSettings_control (w : Settings) : (s.setSettings w).control = s.control := rfl
@[simp] theorem State.setSettings_trays (w : Settings) : (s.setSettings w).trays = s.trays := rfl
@[simp] theorem State.setSettings_lines (w : Settings) : (s.setSettings w).lines = s.lines := rfl
@[simp] theorem State.setSettings_sheet (w : Settings) : (s.setSettings w).sheet = s.sheet := rfl
@[simp] theorem State.setSettings_scoring (w : Settings) : (s.setSettings w).scoring = s.scoring := rfl
@[simp] theorem State.setSettings_pending (w : Settings) : (s.setSettings w).pending = s.pending := rfl
@[simp] theorem State.setSettings_settings (w : Settings) :
    (s.setSettings w).settings = { s.settings with working := w } := rfl

@[simp] theorem State.setOwed_power (l : List HallItem) : (s.setOwed l).power = s.power := rfl
@[simp] theorem State.setOwed_port (l : List HallItem) : (s.setOwed l).port = s.port := rfl
@[simp] theorem State.setOwed_settings (l : List HallItem) : (s.setOwed l).settings = s.settings := rfl
@[simp] theorem State.setOwed_roster (l : List HallItem) : (s.setOwed l).roster = s.roster := rfl
@[simp] theorem State.setOwed_seatMap (l : List HallItem) : (s.setOwed l).seatMap = s.seatMap := rfl
@[simp] theorem State.setOwed_placement (l : List HallItem) : (s.setOwed l).placement = s.placement := rfl
@[simp] theorem State.setOwed_control (l : List HallItem) : (s.setOwed l).control = s.control := rfl
@[simp] theorem State.setOwed_trays (l : List HallItem) : (s.setOwed l).trays = s.trays := rfl
@[simp] theorem State.setOwed_lines (l : List HallItem) : (s.setOwed l).lines = s.lines := rfl
@[simp] theorem State.setOwed_sheet (l : List HallItem) : (s.setOwed l).sheet = s.sheet := rfl
@[simp] theorem State.setOwed_scoring (l : List HallItem) : (s.setOwed l).scoring = s.scoring := rfl
@[simp] theorem State.setOwed_pending (l : List HallItem) : (s.setOwed l).pending = s.pending := rfl
@[simp] theorem State.setOwed_hall (l : List HallItem) :
    (s.setOwed l).hall = { s.hall with owed := l } := rfl

@[simp] theorem State.setEntries_power (l : List Entry) : (s.setEntries l).power = s.power := rfl
@[simp] theorem State.setEntries_hall (l : List Entry) : (s.setEntries l).hall = s.hall := rfl
@[simp] theorem State.setEntries_port (l : List Entry) : (s.setEntries l).port = s.port := rfl
@[simp] theorem State.setEntries_settings (l : List Entry) : (s.setEntries l).settings = s.settings := rfl
@[simp] theorem State.setEntries_seatMap (l : List Entry) : (s.setEntries l).seatMap = s.seatMap := rfl
@[simp] theorem State.setEntries_placement (l : List Entry) : (s.setEntries l).placement = s.placement := rfl
@[simp] theorem State.setEntries_control (l : List Entry) : (s.setEntries l).control = s.control := rfl
@[simp] theorem State.setEntries_trays (l : List Entry) : (s.setEntries l).trays = s.trays := rfl
@[simp] theorem State.setEntries_lines (l : List Entry) : (s.setEntries l).lines = s.lines := rfl
@[simp] theorem State.setEntries_sheet (l : List Entry) : (s.setEntries l).sheet = s.sheet := rfl
@[simp] theorem State.setEntries_scoring (l : List Entry) : (s.setEntries l).scoring = s.scoring := rfl
@[simp] theorem State.setEntries_pending (l : List Entry) : (s.setEntries l).pending = s.pending := rfl
@[simp] theorem State.setEntries_roster (l : List Entry) :
    (s.setEntries l).roster = { s.roster with entries := l } := rfl

@[simp] theorem State.finishTask_power (c : ResultCode) (b : Bool) (r : Report) : (s.finishTask c b r).power = s.power := rfl
@[simp] theorem State.finishTask_hall (c : ResultCode) (b : Bool) (r : Report) : (s.finishTask c b r).hall = s.hall := rfl
@[simp] theorem State.finishTask_settings (c : ResultCode) (b : Bool) (r : Report) : (s.finishTask c b r).settings = s.settings := rfl
@[simp] theorem State.finishTask_roster (c : ResultCode) (b : Bool) (r : Report) : (s.finishTask c b r).roster = s.roster := rfl
@[simp] theorem State.finishTask_seatMap (c : ResultCode) (b : Bool) (r : Report) : (s.finishTask c b r).seatMap = s.seatMap := rfl
@[simp] theorem State.finishTask_placement (c : ResultCode) (b : Bool) (r : Report) : (s.finishTask c b r).placement = s.placement := rfl
@[simp] theorem State.finishTask_control (c : ResultCode) (b : Bool) (r : Report) : (s.finishTask c b r).control = s.control := rfl
@[simp] theorem State.finishTask_trays (c : ResultCode) (b : Bool) (r : Report) : (s.finishTask c b r).trays = s.trays := rfl
@[simp] theorem State.finishTask_lines (c : ResultCode) (b : Bool) (r : Report) : (s.finishTask c b r).lines = s.lines := rfl
@[simp] theorem State.finishTask_sheet (c : ResultCode) (b : Bool) (r : Report) : (s.finishTask c b r).sheet = s.sheet := rfl
@[simp] theorem State.finishTask_scoring (c : ResultCode) (b : Bool) (r : Report) : (s.finishTask c b r).scoring = s.scoring := rfl
@[simp] theorem State.finishTask_pending (c : ResultCode) (b : Bool) (r : Report) : (s.finishTask c b r).pending = s.pending := rfl
@[simp] theorem State.finishTask_port (c : ResultCode) (b : Bool) (r : Report) :
    (s.finishTask c b r).port = { s.port with running := none, result := { code := c, clamped := b, report := r } } := rfl

@[simp] theorem State.startTask_power (c : Nat) : (s.startTask c).power = s.power := rfl
@[simp] theorem State.startTask_hall (c : Nat) : (s.startTask c).hall = s.hall := rfl
@[simp] theorem State.startTask_settings (c : Nat) : (s.startTask c).settings = s.settings := rfl
@[simp] theorem State.startTask_roster (c : Nat) : (s.startTask c).roster = s.roster := rfl
@[simp] theorem State.startTask_seatMap (c : Nat) : (s.startTask c).seatMap = s.seatMap := rfl
@[simp] theorem State.startTask_placement (c : Nat) : (s.startTask c).placement = s.placement := rfl
@[simp] theorem State.startTask_control (c : Nat) : (s.startTask c).control = s.control := rfl
@[simp] theorem State.startTask_trays (c : Nat) : (s.startTask c).trays = s.trays := rfl
@[simp] theorem State.startTask_lines (c : Nat) : (s.startTask c).lines = s.lines := rfl
@[simp] theorem State.startTask_sheet (c : Nat) : (s.startTask c).sheet = s.sheet := rfl
@[simp] theorem State.startTask_scoring (c : Nat) : (s.startTask c).scoring = s.scoring := rfl
@[simp] theorem State.startTask_pending (c : Nat) : (s.startTask c).pending = s.pending := rfl
@[simp] theorem State.startTask_port (c : Nat) :
    (s.startTask c).port = { s.port with running := some c, result := {}, ignoredWrite := false } := rfl

@[simp] theorem State.refuse_power (c : ResultCode) : (s.refuse c).power = s.power := rfl
@[simp] theorem State.refuse_hall (c : ResultCode) : (s.refuse c).hall = s.hall := rfl
@[simp] theorem State.refuse_settings (c : ResultCode) : (s.refuse c).settings = s.settings := rfl
@[simp] theorem State.refuse_roster (c : ResultCode) : (s.refuse c).roster = s.roster := rfl
@[simp] theorem State.refuse_seatMap (c : ResultCode) : (s.refuse c).seatMap = s.seatMap := rfl
@[simp] theorem State.refuse_placement (c : ResultCode) : (s.refuse c).placement = s.placement := rfl
@[simp] theorem State.refuse_control (c : ResultCode) : (s.refuse c).control = s.control := rfl
@[simp] theorem State.refuse_trays (c : ResultCode) : (s.refuse c).trays = s.trays := rfl
@[simp] theorem State.refuse_lines (c : ResultCode) : (s.refuse c).lines = s.lines := rfl
@[simp] theorem State.refuse_sheet (c : ResultCode) : (s.refuse c).sheet = s.sheet := rfl
@[simp] theorem State.refuse_scoring (c : ResultCode) : (s.refuse c).scoring = s.scoring := rfl
@[simp] theorem State.refuse_pending (c : ResultCode) : (s.refuse c).pending = s.pending := rfl
@[simp] theorem State.refuse_port (c : ResultCode) :
    (s.refuse c).port = { s.port with running := none, result := { code := c, clamped := false, report := .nothing } } := rfl

@[simp] theorem State.raise_power (k : NoticeKind) (x : Subject) : (s.raise k x).power = s.power := rfl
@[simp] theorem State.raise_hall (k : NoticeKind) (x : Subject) : (s.raise k x).hall = s.hall := rfl
@[simp] theorem State.raise_settings (k : NoticeKind) (x : Subject) : (s.raise k x).settings = s.settings := rfl
@[simp] theorem State.raise_roster (k : NoticeKind) (x : Subject) : (s.raise k x).roster = s.roster := rfl
@[simp] theorem State.raise_seatMap (k : NoticeKind) (x : Subject) : (s.raise k x).seatMap = s.seatMap := rfl
@[simp] theorem State.raise_placement (k : NoticeKind) (x : Subject) : (s.raise k x).placement = s.placement := rfl
@[simp] theorem State.raise_control (k : NoticeKind) (x : Subject) : (s.raise k x).control = s.control := rfl
@[simp] theorem State.raise_trays (k : NoticeKind) (x : Subject) : (s.raise k x).trays = s.trays := rfl
@[simp] theorem State.raise_lines (k : NoticeKind) (x : Subject) : (s.raise k x).lines = s.lines := rfl
@[simp] theorem State.raise_sheet (k : NoticeKind) (x : Subject) : (s.raise k x).sheet = s.sheet := rfl
@[simp] theorem State.raise_scoring (k : NoticeKind) (x : Subject) : (s.raise k x).scoring = s.scoring := rfl
@[simp] theorem State.raise_pending (k : NoticeKind) (x : Subject) : (s.raise k x).pending = s.pending := rfl
@[simp] theorem State.raise_port (k : NoticeKind) (x : Subject) :
    (s.raise k x).port = { s.port with notices := Table.write {} s.port.notices (noticeCode k) (raised (s.notice k) x) } := rfl

/-! ### What a record reads after it, or another of its kind, is written -/

theorem State.seat_setSeat (d : Nat) (v : Seat) (k : Nat) :
    (s.setSeat d v).seat k = if k = d then v else s.seat k := Table.read_write _ _ _ _

theorem State.zoneExtents_setZoneExtents (d : Nat) (v : ZoneExtents) (k : Nat) :
    (s.setZoneExtents d v).zoneExtents k = if k = d then v else s.zoneExtents k := Table.read_write _ _ _ _

theorem State.sitting_setSitting (d : Nat) (v : Sitting) (k : Nat) :
    (s.setSitting d v).sitting k = if k = d then v else s.sitting k := Table.read_write _ _ _ _

theorem State.bell_setBell (d v k : Nat) :
    (s.setBell d v).bell k = if k = d then v else s.bell k := Table.read_write _ _ _ _

theorem State.tray_setTray (d : Nat) (v : Tray) (k : Nat) :
    (s.setTray d v).tray k = if k = d then v else s.tray k := Table.read_write _ _ _ _

theorem State.line_setLine (d : Nat) (v : Line) (k : Nat) :
    (s.setLine d v).line k = if k = d then v else s.line k := Table.read_write _ _ _ _

theorem State.key_setKey (d : Nat) (v : Key) (k : Nat) :
    (s.setKey d v).key k = if k = d then v else s.key k := Table.read_write _ _ _ _

theorem State.buffer_setBuffer (d : Nat) (v : Buffer) (k : Nat) :
    (s.setBuffer d v).buffer k = if k = d then v else s.buffer k := Table.read_write _ _ _ _

/-- What a link record reads after a link record of some line is written. -/
theorem State.linkRecord_setLinkRecord (z u : Nat) (v : LinkRecord) (y w : Nat) :
    (s.setLinkRecord z u v).linkRecord y w = if y = z ∧ w = u then v else s.linkRecord y w := by
  unfold State.setLinkRecord State.linkRecord
  rw [State.line_setLine]
  by_cases hy : y = z
  · subst hy
    simp only [if_true, Table.read_write, true_and]
  · simp [hy]

end Sys2Proof.Machine
end

