-- ==== Sys2Proof/Laws/Only.lean ====
section
/-!
SUPPORT. The algebra of `OnlyChanges`, and what each updater of Ops changes.
-/

namespace Sys2Proof.Machine

variable {bs cs : List Part} {s t u : State}

theorem same.rfl (p : Part) (s : State) : same p s s := by cases p <;> simp [same]

theorem same.trans {p : Part} (h : same p s t) (g : same p t u) : same p s u := by
  cases p <;> simp_all [same]

theorem OnlyChanges.refl (bs : List Part) (s : State) : OnlyChanges bs s s := ⟨fun p _ => same.rfl p s⟩

theorem OnlyChanges.trans (h : OnlyChanges bs s t) (g : OnlyChanges bs t u) : OnlyChanges bs s u :=
  ⟨fun p hp => same.trans (h.rest p hp) (g.rest p hp)⟩

theorem OnlyChanges.mono (h : OnlyChanges bs s t) (hs : bs ⊆ cs) : OnlyChanges cs s t :=
  ⟨fun p hp => h.rest p fun hb => hp (hs hb)⟩

/-- One more operation, changing no more. -/
theorem OnlyChanges.next (h : OnlyChanges bs t u) (hs : bs ⊆ cs) (g : OnlyChanges cs s t) : OnlyChanges cs s u :=
  g.trans (h.mono hs)

/-- A choice between two ways on. -/
theorem OnlyChanges.ite {c : Prop} [Decidable c] (h : OnlyChanges bs s t) (g : OnlyChanges bs s u) :
    OnlyChanges bs s (if c then t else u) := by
  split
  · exact h
  · exact g

theorem OnlyChanges.foldl {β : Type} {f : State → β → State} {l : List β} (g : OnlyChanges bs s t)
    (h : ∀ u x, OnlyChanges bs u (f u x)) : OnlyChanges bs s (l.foldl f t) := by
  induction l generalizing t with
  | nil => exact g
  | cons x l ih => exact ih (g.trans (h t x))

theorem State.setSeat_only (s : State) (d : Nat) (v : Seat) (h : v.link = (s.seat d).link) (hs : [.seats] ⊆ bs)
    (g : OnlyChanges bs t s) : OnlyChanges bs t (s.setSeat d v) := by
  refine .next (bs := [.seats]) ?_ hs g
  refine ⟨fun p hp => ?_⟩
  cases p <;> first | rfl | (simp at hp; done) | skip
  case seatLinks => intro j; rw [State.seat_setSeat]; split <;> simp_all
  all_goals simp [same, State.linkRecord, State.line]

theorem State.setSeat_link_only (s : State) (d : Nat) (v : Seat) (hs : [.seats, .seatLinks] ⊆ bs)
    (g : OnlyChanges bs t s) : OnlyChanges bs t (s.setSeat d v) := by
  refine .next (bs := [.seats, .seatLinks]) ?_ hs g
  refine ⟨fun p hp => ?_⟩
  cases p <;> first | rfl | (simp at hp; done) | skip
  all_goals simp [same, State.linkRecord, State.line]

theorem State.setLine_only (s : State) (z : Nat) (v : Line) (h : v.links = (s.line z).links) (hs : [.lines] ⊆ bs)
    (g : OnlyChanges bs t s) : OnlyChanges bs t (s.setLine z v) := by
  refine .next (bs := [.lines]) ?_ hs g
  refine ⟨fun p hp => ?_⟩
  cases p <;> first | rfl | (simp at hp; done) | skip
  case linkStates =>
    intro y u
    simp only [State.linkRecord, State.line_setLine]
    split <;> simp_all
  all_goals simp [same, State.seat]

/-! ### Updates of one block written as a record -/

variable {s0 : State}

theorem only_sheet (s : State) (x : SheetPort) (hs : [.sheet] ⊆ bs) (g : OnlyChanges bs s0 s) :
    OnlyChanges bs s0 { s with sheet := x } := by
  refine .next (bs := [.sheet]) ?_ hs g
  refine ⟨fun p hp => ?_⟩
  cases p <;> first | rfl | (simp at hp; done) | simp [same, State.seat, State.linkRecord, State.line]

theorem only_walks (s : State) (q : List Nat) (w : Option Walk) (hs : [.walks] ⊆ bs) (g : OnlyChanges bs s0 s) :
    OnlyChanges bs s0 { s with scoring := { s.scoring with walkQueue := q, walk := w } } := by
  refine .next (bs := [.walks]) ?_ hs g
  refine ⟨fun p hp => ?_⟩
  cases p <;> first | rfl | (simp at hp; done) | simp [same, State.seat, State.linkRecord, State.line]

theorem only_access (s : State) (l : Level) (w k : Nat) (hs : [.access] ⊆ bs) (g : OnlyChanges bs s0 s) :
    OnlyChanges bs s0 { s with port := { s.port with level := l, wrongEntries := w, lockout := k } } := by
  refine .next (bs := [.access]) ?_ hs g
  refine ⟨fun p hp => ?_⟩
  cases p <;> first | rfl | (simp at hp; done) | simp [same, State.seat, State.linkRecord, State.line]

theorem only_notices (s : State) (n : Table Notice) (hs : [.notices] ⊆ bs) (g : OnlyChanges bs s0 s) :
    OnlyChanges bs s0 { s with port := { s.port with notices := n } } := by
  refine .next (bs := [.notices]) ?_ hs g
  refine ⟨fun p hp => ?_⟩
  cases p <;> first | rfl | (simp at hp; done) | simp [same, State.seat, State.linkRecord, State.line]

theorem only_param (s : State) (x : List Octet) (hs : [.mailbox] ⊆ bs) (g : OnlyChanges bs s0 s) :
    OnlyChanges bs s0 { s with port := { s.port with param := x } } := by
  refine .next (bs := [.mailbox]) ?_ hs g
  refine ⟨fun p hp => ?_⟩
  cases p <;> first | rfl | (simp at hp; done) | simp [same, State.seat, State.linkRecord, State.line]

theorem only_roster (s : State) (x : RosterStore) (hs : [.identities, .entries, .tags] ⊆ bs) (g : OnlyChanges bs s0 s) :
    OnlyChanges bs s0 { s with roster := x } := by
  refine .next (bs := [.identities, .entries, .tags]) ?_ hs g
  refine ⟨fun p hp => ?_⟩
  cases p <;> first | rfl | (simp at hp; done) | simp [same, State.seat, State.linkRecord, State.line]

theorem only_tags (s : State) (x : List (Nat × Nat)) (hs : [.tags] ⊆ bs) (g : OnlyChanges bs s0 s) :
    OnlyChanges bs s0 { s with roster := { s.roster with tags := x } } := by
  refine .next (bs := [.tags]) ?_ hs g
  refine ⟨fun p hp => ?_⟩
  cases p <;> first | rfl | (simp at hp; done) | simp [same, State.seat, State.linkRecord, State.line]

theorem only_settings (s : State) (x : SettingsStore) (hs : [.settings] ⊆ bs) (g : OnlyChanges bs s0 s) :
    OnlyChanges bs s0 { s with settings := x } := by
  refine .next (bs := [.settings]) ?_ hs g
  refine ⟨fun p hp => ?_⟩
  cases p <;> first | rfl | (simp at hp; done) | simp [same, State.seat, State.linkRecord, State.line]

theorem only_power (s : State) (x : PowerUnit) (hs : [.power] ⊆ bs) (g : OnlyChanges bs s0 s) :
    OnlyChanges bs s0 { s with power := x } := by
  refine .next (bs := [.power]) ?_ hs g
  refine ⟨fun p hp => ?_⟩
  cases p <;> first | rfl | (simp at hp; done) | simp [same, State.seat, State.linkRecord, State.line]

theorem only_alarm (s : State) (b : Bool) (hs : [.alarm] ⊆ bs) (g : OnlyChanges bs s0 s) :
    OnlyChanges bs s0 { s with hall := { s.hall with alarm := b } } := by
  refine .next (bs := [.alarm]) ?_ hs g
  refine ⟨fun p hp => ?_⟩
  cases p <;> first | rfl | (simp at hp; done) | simp [same, State.seat, State.linkRecord, State.line]

theorem only_hallTime (s : State) (n : Nat) (b : Bool) (hs : [.hallTime] ⊆ bs) (g : OnlyChanges bs s0 s) :
    OnlyChanges bs s0 { s with hall := { s.hall with time := n, timeSet := b } } := by
  refine .next (bs := [.hallTime]) ?_ hs g
  refine ⟨fun p hp => ?_⟩
  cases p <;> first | rfl | (simp at hp; done) | simp [same, State.seat, State.linkRecord, State.line]

end Sys2Proof.Machine
end

