-- ==== Sys2Proof/Laws/Frame.lean ====
section
/-!
SUPPORT. What each shared operation changes: one lemma per operation, by the parts of Safety.lean. The proof of each
is the composition of those of the operations it calls.
-/

namespace Sys2Proof.Machine

variable {bs : List Part} {s0 : State}

theorem State.startTask_only (s : State) (code : Nat) (hs : [.mailbox] ⊆ bs)
    (g : OnlyChanges bs s0 s) : OnlyChanges bs s0 (s.startTask code) := by
  refine .next (bs := [.mailbox]) ?_ hs g
  refine ⟨fun p hp => ?_⟩
  cases p <;> first | rfl | (simp at hp; done) | simp [same, State.seat, State.linkRecord, State.line, State.ignoreWrite, State.modSitting]

theorem State.ignoreWrite_only (s : State) (hs : [.mailbox] ⊆ bs)
    (g : OnlyChanges bs s0 s) : OnlyChanges bs s0 (s.ignoreWrite) := by
  refine .next (bs := [.mailbox]) ?_ hs g
  refine ⟨fun p hp => ?_⟩
  cases p <;> first | rfl | (simp at hp; done) | simp [same, State.seat, State.linkRecord, State.line, State.ignoreWrite, State.modSitting]

theorem State.finishTask_only (s : State) (code : ResultCode) (c : Bool) (r : Report) (hs : [.mailbox] ⊆ bs)
    (g : OnlyChanges bs s0 s) : OnlyChanges bs s0 (s.finishTask code c r) := by
  refine .next (bs := [.mailbox]) ?_ hs g
  refine ⟨fun p hp => ?_⟩
  cases p <;> first | rfl | (simp at hp; done) | simp [same, State.seat, State.linkRecord, State.line, State.ignoreWrite, State.modSitting]

theorem State.refuse_only (s : State) (code : ResultCode) (hs : [.mailbox] ⊆ bs)
    (g : OnlyChanges bs s0 s) : OnlyChanges bs s0 (s.refuse code) := by
  refine .next (bs := [.mailbox]) ?_ hs g
  refine ⟨fun p hp => ?_⟩
  cases p <;> first | rfl | (simp at hp; done) | simp [same, State.seat, State.linkRecord, State.line, State.ignoreWrite, State.modSitting]

theorem State.raise_only (s : State) (k : NoticeKind) (x : Subject) (hs : [.notices] ⊆ bs)
    (g : OnlyChanges bs s0 s) : OnlyChanges bs s0 (s.raise k x) := by
  refine .next (bs := [.notices]) ?_ hs g
  refine ⟨fun p hp => ?_⟩
  cases p <;> first | rfl | (simp at hp; done) | simp [same, State.seat, State.linkRecord, State.line, State.ignoreWrite, State.modSitting]

theorem State.setZoneExtents_only (s : State) (z : Nat) (v : ZoneExtents) (hs : [.extents] ⊆ bs)
    (g : OnlyChanges bs s0 s) : OnlyChanges bs s0 (s.setZoneExtents z v) := by
  refine .next (bs := [.extents]) ?_ hs g
  refine ⟨fun p hp => ?_⟩
  cases p <;> first | rfl | (simp at hp; done) | simp [same, State.seat, State.linkRecord, State.line, State.ignoreWrite, State.modSitting]

theorem State.setSitting_only (s : State) (k : Nat) (v : Sitting) (hs : [.sittings] ⊆ bs)
    (g : OnlyChanges bs s0 s) : OnlyChanges bs s0 (s.setSitting k v) := by
  refine .next (bs := [.sittings]) ?_ hs g
  refine ⟨fun p hp => ?_⟩
  cases p <;> first | rfl | (simp at hp; done) | simp [same, State.seat, State.linkRecord, State.line, State.ignoreWrite, State.modSitting]

theorem State.modSitting_only (s : State) (k : Nat) (f : Sitting → Sitting) (hs : [.sittings] ⊆ bs)
    (g : OnlyChanges bs s0 s) : OnlyChanges bs s0 (s.modSitting k f) := by
  refine .next (bs := [.sittings]) ?_ hs g
  refine ⟨fun p hp => ?_⟩
  cases p <;> first | rfl | (simp at hp; done) | simp [same, State.seat, State.linkRecord, State.line, State.ignoreWrite, State.modSitting]

theorem State.setBell_only (s : State) (o v : Nat) (hs : [.bells] ⊆ bs)
    (g : OnlyChanges bs s0 s) : OnlyChanges bs s0 (s.setBell o v) := by
  refine .next (bs := [.bells]) ?_ hs g
  refine ⟨fun p hp => ?_⟩
  cases p <;> first | rfl | (simp at hp; done) | simp [same, State.seat, State.linkRecord, State.line, State.ignoreWrite, State.modSitting]

theorem State.setTray_only (s : State) (u : Nat) (v : Tray) (hs : [.trays] ⊆ bs)
    (g : OnlyChanges bs s0 s) : OnlyChanges bs s0 (s.setTray u v) := by
  refine .next (bs := [.trays]) ?_ hs g
  refine ⟨fun p hp => ?_⟩
  cases p <;> first | rfl | (simp at hp; done) | simp [same, State.seat, State.linkRecord, State.line, State.ignoreWrite, State.modSitting]

theorem State.setKey_only (s : State) (k : Nat) (v : Key) (hs : [.keys] ⊆ bs)
    (g : OnlyChanges bs s0 s) : OnlyChanges bs s0 (s.setKey k v) := by
  refine .next (bs := [.keys]) ?_ hs g
  refine ⟨fun p hp => ?_⟩
  cases p <;> first | rfl | (simp at hp; done) | simp [same, State.seat, State.linkRecord, State.line, State.ignoreWrite, State.modSitting]

theorem State.setBuffer_only (s : State) (i : Nat) (v : Buffer) (hs : [.sheet] ⊆ bs)
    (g : OnlyChanges bs s0 s) : OnlyChanges bs s0 (s.setBuffer i v) := by
  refine .next (bs := [.sheet]) ?_ hs g
  refine ⟨fun p hp => ?_⟩
  cases p <;> first | rfl | (simp at hp; done) | simp [same, State.seat, State.linkRecord, State.line, State.ignoreWrite, State.modSitting]

theorem State.setBatch_only (s : State) (b : Batch) (hs : [.batch] ⊆ bs)
    (g : OnlyChanges bs s0 s) : OnlyChanges bs s0 (s.setBatch b) := by
  refine .next (bs := [.batch]) ?_ hs g
  refine ⟨fun p hp => ?_⟩
  cases p <;> first | rfl | (simp at hp; done) | simp [same, State.seat, State.linkRecord, State.line, State.ignoreWrite, State.modSitting]

theorem State.setOffers_only (s : State) (l : List Offer) (hs : [.offers] ⊆ bs)
    (g : OnlyChanges bs s0 s) : OnlyChanges bs s0 (s.setOffers l) := by
  refine .next (bs := [.offers]) ?_ hs g
  refine ⟨fun p hp => ?_⟩
  cases p <;> first | rfl | (simp at hp; done) | simp [same, State.seat, State.linkRecord, State.line, State.ignoreWrite, State.modSitting]

theorem State.setReseats_only (s : State) (l : List Reseat) (hs : [.reseats] ⊆ bs)
    (g : OnlyChanges bs s0 s) : OnlyChanges bs s0 (s.setReseats l) := by
  refine .next (bs := [.reseats]) ?_ hs g
  refine ⟨fun p hp => ?_⟩
  cases p <;> first | rfl | (simp at hp; done) | simp [same, State.seat, State.linkRecord, State.line, State.ignoreWrite, State.modSitting]

theorem State.setRun_only (s : State) (r : Option Run) (hs : [.run] ⊆ bs)
    (g : OnlyChanges bs s0 s) : OnlyChanges bs s0 (s.setRun r) := by
  refine .next (bs := [.run]) ?_ hs g
  refine ⟨fun p hp => ?_⟩
  cases p <;> first | rfl | (simp at hp; done) | simp [same, State.seat, State.linkRecord, State.line, State.ignoreWrite, State.modSitting]

theorem State.setSettings_only (s : State) (w : Settings) (hs : [.settings] ⊆ bs)
    (g : OnlyChanges bs s0 s) : OnlyChanges bs s0 (s.setSettings w) := by
  refine .next (bs := [.settings]) ?_ hs g
  refine ⟨fun p hp => ?_⟩
  cases p <;> first | rfl | (simp at hp; done) | simp [same, State.seat, State.linkRecord, State.line, State.ignoreWrite, State.modSitting]

theorem State.setOwed_only (s : State) (l : List HallItem) (hs : [.owed] ⊆ bs)
    (g : OnlyChanges bs s0 s) : OnlyChanges bs s0 (s.setOwed l) := by
  refine .next (bs := [.owed]) ?_ hs g
  refine ⟨fun p hp => ?_⟩
  cases p <;> first | rfl | (simp at hp; done) | simp [same, State.seat, State.linkRecord, State.line, State.ignoreWrite, State.modSitting]

theorem State.setEntries_only (s : State) (l : List Entry) (hs : [.identities, .entries] ⊆ bs)
    (g : OnlyChanges bs s0 s) : OnlyChanges bs s0 (s.setEntries l) := by
  refine .next (bs := [.identities, .entries]) ?_ hs g
  refine ⟨fun p hp => ?_⟩
  cases p <;> first | rfl | (simp at hp; done) | simp [same, State.seat, State.linkRecord, State.line, State.ignoreWrite, State.modSitting]

theorem State.setEntries_same_only (s : State) (l : List Entry)
    (h : l.map identity = s.roster.entries.map identity) (hs : [.entries] ⊆ bs) (g : OnlyChanges bs s0 s) :
    OnlyChanges bs s0 (s.setEntries l) := by
  refine .next (bs := [.entries]) ?_ hs g
  refine ⟨fun p hp => ?_⟩
  cases p <;> first | rfl | exact h | (simp at hp; done) | simp [same, State.seat, State.linkRecord, State.line]

theorem State.setEntries_map_only (s : State) (f : Entry → Entry) (h : ∀ e, identity (f e) = identity e)
    (hs : [.entries] ⊆ bs) (g : OnlyChanges bs s0 s) :
    OnlyChanges bs s0 (s.setEntries (s.roster.entries.map f)) := by
  refine State.setEntries_same_only s _ ?_ hs g
  rw [List.map_map]
  exact List.map_congr_left fun e _ => h e

theorem State.modEntry_only (s : State) (slot : Nat) (f : Entry → Entry) (h : ∀ e, identity (f e) = identity e)
    (hs : [.entries] ⊆ bs) (g : OnlyChanges bs s0 s) : OnlyChanges bs s0 (s.modEntry slot f) := by
  refine State.setEntries_same_only s _ ?_ hs g
  rw [List.map_map]
  refine List.map_congr_left fun e _ => ?_
  simp only [Function.comp]
  split
  · exact h e
  · rfl

theorem State.setSlot_only (s : State) (z : Nat) (v : Slot) (hs : [.lines] ⊆ bs) (g : OnlyChanges bs s0 s) :
    OnlyChanges bs s0 (s.setSlot z v) := State.setLine_only s z _ rfl hs g

theorem State.setQueue_only (s : State) (z : Nat) (q : List QEntry) (hs : [.lines] ⊆ bs) (g : OnlyChanges bs s0 s) :
    OnlyChanges bs s0 (s.setQueue z q) := State.setLine_only s z _ rfl hs g

theorem State.giveUp_only (s : State) (z : Nat) (hs : [.lines] ⊆ bs) (g : OnlyChanges bs s0 s) :
    OnlyChanges bs s0 (s.giveUp z) := State.setLine_only s z _ rfl hs g

theorem State.setLinkRecord_state_only (s : State) (z u : Nat) (v : LinkRecord) (hs : [.lines, .linkStates] ⊆ bs)
    (g : OnlyChanges bs s0 s) : OnlyChanges bs s0 (s.setLinkRecord z u v) := by
  refine .next (bs := [.lines, .linkStates]) ?_ hs g
  refine ⟨fun p hp => ?_⟩
  cases p <;> first | rfl | (simp at hp; done) | skip
  all_goals simp [same, State.seat, State.setLinkRecord]

theorem State.setLinkRecord_only (s : State) (z u : Nat) (v : LinkRecord) (h : v.state = (s.linkRecord z u).state)
    (hs : [.lines] ⊆ bs) (g : OnlyChanges bs s0 s) : OnlyChanges bs s0 (s.setLinkRecord z u v) := by
  refine .next (bs := [.lines]) ?_ hs g
  refine ⟨fun p hp => ?_⟩
  cases p <;> first | rfl | (simp at hp; done) | skip
  case linkStates => intro y w; rw [State.linkRecord_setLinkRecord]; split <;> simp_all
  all_goals simp [same, State.seat, State.setLinkRecord]

/-! ### Queue -/

theorem State.hand_only (s : State) (z u : Nat) (b : Bool) (m : Msg) (hs : tellingParts ⊆ bs)
    (g : OnlyChanges bs s0 s) : OnlyChanges bs s0 (s.hand z u b m) := by
  refine .next (bs := tellingParts) ?_ hs g
  unfold State.hand
  try dsimp only
  repeat' first
    | (with_reducible exact OnlyChanges.refl _ _)
    | decide
    | (with_reducible apply State.raise_only)
    | (with_reducible apply State.setQueue_only)
    | (with_reducible apply OnlyChanges.ite)
    | (intro e; first | rfl | (split <;> rfl))
    | rfl
    | split

theorem State.handOffer_only (s : State) (o : Offer) (hs : tellingParts ⊆ bs)
    (g : OnlyChanges bs s0 s) : OnlyChanges bs s0 (s.handOffer o) := by
  refine .next (bs := tellingParts) ?_ hs g
  unfold State.handOffer
  try dsimp only
  repeat' first
    | (with_reducible exact OnlyChanges.refl _ _)
    | decide
    | (with_reducible apply State.hand_only)
    | (with_reducible apply OnlyChanges.ite)
    | (intro e; first | rfl | (split <;> rfl))
    | rfl
    | split

theorem State.rehand_only (s : State) (z : Nat) (hs : tellingParts ⊆ bs)
    (g : OnlyChanges bs s0 s) : OnlyChanges bs s0 (s.rehand z) := by
  refine .next (bs := tellingParts) ?_ hs g
  unfold State.rehand
  try dsimp only
  repeat' first
    | (with_reducible exact OnlyChanges.refl _ _)
    | decide
    | (with_reducible apply State.handOffer_only)
    | (with_reducible apply OnlyChanges.foldl)
    | (with_reducible intro _ _; try dsimp only)
    | (with_reducible apply OnlyChanges.ite)
    | (intro e; first | rfl | (split <;> rfl))
    | rfl
    | split

theorem State.leaveQueue_only (s : State) (z : Nat) (q : List QEntry) (hs : tellingParts ⊆ bs)
    (g : OnlyChanges bs s0 s) : OnlyChanges bs s0 (s.leaveQueue z q) := by
  refine .next (bs := tellingParts) ?_ hs g
  unfold State.leaveQueue
  try dsimp only
  repeat' first
    | (with_reducible exact OnlyChanges.refl _ _)
    | decide
    | (with_reducible apply State.setQueue_only)
    | (with_reducible apply State.rehand_only)
    | (with_reducible apply OnlyChanges.ite)
    | (intro e; first | rfl | (split <;> rfl))
    | rfl
    | split

theorem State.removeQueued_only (s : State) (z : Nat) (p : QEntry → Bool) (hs : tellingParts ⊆ bs)
    (g : OnlyChanges bs s0 s) : OnlyChanges bs s0 (s.removeQueued z p) := by
  refine .next (bs := tellingParts) ?_ hs g
  unfold State.removeQueued
  try dsimp only
  repeat' first
    | (with_reducible exact OnlyChanges.refl _ _)
    | decide
    | (with_reducible apply State.leaveQueue_only)
    | (with_reducible apply OnlyChanges.ite)
    | (intro e; first | rfl | (split <;> rfl))
    | rfl
    | split

theorem State.removeOffer_only (s : State) (d : Nat) (hs : tellingParts ⊆ bs)
    (g : OnlyChanges bs s0 s) : OnlyChanges bs s0 (s.removeOffer d) := by
  refine .next (bs := tellingParts) ?_ hs g
  unfold State.removeOffer
  try dsimp only
  repeat' first
    | (with_reducible exact OnlyChanges.refl _ _)
    | decide
    | (with_reducible apply State.giveUp_only)
    | (with_reducible apply State.removeQueued_only)
    | (with_reducible apply OnlyChanges.ite)
    | (intro e; first | rfl | (split <;> rfl))
    | rfl
    | split

/-! ### Telling -/

theorem State.broadcast_only (s : State) (k : Nat) (m : ZoneSet) (hs : tellingParts ⊆ bs)
    (g : OnlyChanges bs s0 s) : OnlyChanges bs s0 (s.broadcast k m) := by
  refine .next (bs := tellingParts) ?_ hs g
  unfold State.broadcast
  try dsimp only
  repeat' first
    | (with_reducible exact OnlyChanges.refl _ _)
    | decide
    | (with_reducible apply State.hand_only)
    | (with_reducible apply OnlyChanges.foldl)
    | (with_reducible intro _ _; try dsimp only)
    | (with_reducible apply OnlyChanges.ite)
    | (intro e; first | rfl | (split <;> rfl))
    | rfl
    | split

theorem State.ringBells_only (s : State) (k : Nat) (hs : [.bells] ⊆ bs)
    (g : OnlyChanges bs s0 s) : OnlyChanges bs s0 (s.ringBells k) := by
  refine .next (bs := [.bells]) ?_ hs g
  unfold State.ringBells
  try dsimp only
  repeat' first
    | (with_reducible exact OnlyChanges.refl _ _)
    | decide
    | (with_reducible apply State.setBell_only)
    | (with_reducible apply OnlyChanges.foldl)
    | (with_reducible intro _ _; try dsimp only)
    | (with_reducible apply OnlyChanges.ite)
    | (intro e; first | rfl | (split <;> rfl))
    | rfl
    | split

theorem State.queueClock_only (s : State) (slot : Nat) (b : Bool) (hs : tellingParts ⊆ bs)
    (g : OnlyChanges bs s0 s) : OnlyChanges bs s0 (s.queueClock slot b) := by
  refine .next (bs := tellingParts) ?_ hs g
  unfold State.queueClock
  try dsimp only
  repeat' first
    | (with_reducible exact OnlyChanges.refl _ _)
    | decide
    | (with_reducible apply State.hand_only)
    | (with_reducible apply OnlyChanges.ite)
    | (intro e; first | rfl | (split <;> rfl))
    | rfl
    | split

theorem State.clockHoldUpdate_only (s : State) (k : Nat) (hs : tellingParts ⊆ bs)
    (g : OnlyChanges bs s0 s) : OnlyChanges bs s0 (s.clockHoldUpdate k) := by
  refine .next (bs := tellingParts) ?_ hs g
  unfold State.clockHoldUpdate
  try dsimp only
  repeat' first
    | (with_reducible exact OnlyChanges.refl _ _)
    | decide
    | (with_reducible apply State.queueClock_only)
    | (with_reducible apply OnlyChanges.foldl)
    | (with_reducible intro _ _; try dsimp only)
    | (with_reducible apply OnlyChanges.ite)
    | (intro e; first | rfl | (split <;> rfl))
    | rfl
    | split

theorem State.changeSitting_only (s : State) (k : Nat) (f : Sitting → Sitting) (hs : [.sittings, .bells, .lines, .notices] ⊆ bs)
    (g : OnlyChanges bs s0 s) : OnlyChanges bs s0 (s.changeSitting k f) := by
  refine .next (bs := [.sittings, .bells, .lines, .notices]) ?_ hs g
  unfold State.changeSitting
  try dsimp only
  repeat' first
    | (with_reducible exact OnlyChanges.refl _ _)
    | decide
    | (with_reducible apply State.raise_only)
    | (with_reducible apply State.setSitting_only)
    | (with_reducible apply State.broadcast_only)
    | (with_reducible apply State.ringBells_only)
    | (with_reducible apply State.clockHoldUpdate_only)
    | (with_reducible apply OnlyChanges.ite)
    | (intro e; first | rfl | (split <;> rfl))
    | rfl
    | split

theorem State.enterCollecting_only (s : State) (k : Nat) (hs : [.sittings, .bells, .lines, .notices] ⊆ bs)
    (g : OnlyChanges bs s0 s) : OnlyChanges bs s0 (s.enterCollecting k) := by
  refine .next (bs := [.sittings, .bells, .lines, .notices]) ?_ hs g
  unfold State.enterCollecting
  try dsimp only
  repeat' first
    | (with_reducible exact OnlyChanges.refl _ _)
    | decide
    | (with_reducible apply State.changeSitting_only)
    | (with_reducible apply OnlyChanges.ite)
    | (intro e; first | rfl | (split <;> rfl))
    | rfl
    | split

theorem State.clockEnded_only (s : State) (k : Nat) (hs : [.sittings, .bells, .lines, .notices] ⊆ bs)
    (g : OnlyChanges bs s0 s) : OnlyChanges bs s0 (s.clockEnded k) := by
  refine .next (bs := [.sittings, .bells, .lines, .notices]) ?_ hs g
  unfold State.clockEnded
  try dsimp only
  repeat' first
    | (with_reducible exact OnlyChanges.refl _ _)
    | decide
    | (with_reducible apply State.enterCollecting_only)
    | (with_reducible apply OnlyChanges.ite)
    | (intro e; first | rfl | (split <;> rfl))
    | rfl
    | split

/-! ### Seats -/

theorem State.showSeat_only (s : State) (d : Nat) (x : Shown) (hs : tellingParts ⊆ bs)
    (g : OnlyChanges bs s0 s) : OnlyChanges bs s0 (s.showSeat d x) := by
  refine .next (bs := tellingParts) ?_ hs g
  unfold State.showSeat
  try dsimp only
  repeat' first
    | (with_reducible exact OnlyChanges.refl _ _)
    | decide
    | (with_reducible apply State.hand_only)
    | (with_reducible apply OnlyChanges.ite)
    | (intro e; first | rfl | (split <;> rfl))
    | rfl
    | split

theorem State.requestOffer_only (s : State) (d slot : Nat) (hs : [.seats, .entries] ⊆ bs)
    (g : OnlyChanges bs s0 s) : OnlyChanges bs s0 (s.requestOffer d slot) := by
  refine .next (bs := [.seats, .entries]) ?_ hs g
  unfold State.requestOffer
  try dsimp only
  repeat' first
    | (with_reducible exact OnlyChanges.refl _ _)
    | decide
    | (with_reducible apply State.modEntry_only)
    | (with_reducible apply State.setSeat_only <;> first | decide | (with_reducible exact rfl) | skip)
    | (with_reducible apply OnlyChanges.ite)
    | (intro e; first | rfl | (split <;> rfl))
    | rfl
    | split

theorem State.requestCancel_only (s : State) (d : Nat) (hs : [.seats, .entries] ⊆ bs)
    (g : OnlyChanges bs s0 s) : OnlyChanges bs s0 (s.requestCancel d) := by
  refine .next (bs := [.seats, .entries]) ?_ hs g
  unfold State.requestCancel
  try dsimp only
  repeat' first
    | (with_reducible exact OnlyChanges.refl _ _)
    | decide
    | (with_reducible apply State.modEntry_only)
    | (with_reducible apply State.setSeat_only <;> first | decide | (with_reducible exact rfl) | skip)
    | (with_reducible apply OnlyChanges.ite)
    | (intro e; first | rfl | (split <;> rfl))
    | rfl
    | split

theorem State.count_only (s : State) (slot : Nat) (f : Sitting → Sitting) (hs : [.sittings] ⊆ bs)
    (g : OnlyChanges bs s0 s) : OnlyChanges bs s0 (s.count slot f) := by
  refine .next (bs := [.sittings]) ?_ hs g
  unfold State.count
  try dsimp only
  repeat' first
    | (with_reducible exact OnlyChanges.refl _ _)
    | decide
    | (with_reducible apply State.modSitting_only)
    | (with_reducible apply OnlyChanges.ite)
    | (intro e; first | rfl | (split <;> rfl))
    | rfl
    | split

theorem State.requestPlace_only (s : State) (d : Nat) (hs : [.seats, .entries, .sittings] ⊆ bs)
    (g : OnlyChanges bs s0 s) : OnlyChanges bs s0 (s.requestPlace d) := by
  refine .next (bs := [.seats, .entries, .sittings]) ?_ hs g
  unfold State.requestPlace
  try dsimp only
  repeat' first
    | (with_reducible exact OnlyChanges.refl _ _)
    | decide
    | (with_reducible apply State.count_only)
    | (with_reducible apply State.modEntry_only)
    | (with_reducible apply State.setSeat_only <;> first | decide | (with_reducible exact rfl) | skip)
    | (with_reducible apply OnlyChanges.ite)
    | (intro e; first | rfl | (split <;> rfl))
    | rfl
    | split

theorem State.requestOccupy_only (s : State) (d : Nat) (hs : [.seats] ⊆ bs)
    (g : OnlyChanges bs s0 s) : OnlyChanges bs s0 (s.requestOccupy d) := by
  refine .next (bs := [.seats]) ?_ hs g
  unfold State.requestOccupy
  try dsimp only
  repeat' first
    | (with_reducible exact OnlyChanges.refl _ _)
    | decide
    | (with_reducible apply State.setSeat_only <;> first | decide | (with_reducible exact rfl) | skip)
    | (with_reducible apply OnlyChanges.ite)
    | (intro e; first | rfl | (split <;> rfl))
    | rfl
    | split

theorem State.requestVacate_only (s : State) (d : Nat) (hs : [.seats] ⊆ bs)
    (g : OnlyChanges bs s0 s) : OnlyChanges bs s0 (s.requestVacate d) := by
  refine .next (bs := [.seats]) ?_ hs g
  unfold State.requestVacate
  try dsimp only
  repeat' first
    | (with_reducible exact OnlyChanges.refl _ _)
    | decide
    | (with_reducible apply State.setSeat_only <;> first | decide | (with_reducible exact rfl) | skip)
    | (with_reducible apply OnlyChanges.ite)
    | (intro e; first | rfl | (split <;> rfl))
    | rfl
    | split

theorem State.requestRelease_only (s : State) (d : Nat) (hs : [.seats, .entries, .sittings, .lines, .notices] ⊆ bs)
    (g : OnlyChanges bs s0 s) : OnlyChanges bs s0 (s.requestRelease d) := by
  refine .next (bs := [.seats, .entries, .sittings, .lines, .notices]) ?_ hs g
  unfold State.requestRelease
  try dsimp only
  repeat' first
    | (with_reducible exact OnlyChanges.refl _ _)
    | decide
    | (with_reducible apply State.showSeat_only)
    | (with_reducible apply State.count_only)
    | (with_reducible apply State.modEntry_only)
    | (with_reducible apply State.setSeat_only <;> first | decide | (with_reducible exact rfl) | skip)
    | (with_reducible apply OnlyChanges.ite)
    | (intro e; first | rfl | (split <;> rfl))
    | rfl
    | split

theorem State.dropExtents_only (s : State) (k : Nat) (hs : [.extents] ⊆ bs)
    (g : OnlyChanges bs s0 s) : OnlyChanges bs s0 (s.dropExtents k) := by
  refine .next (bs := [.extents]) ?_ hs g
  unfold State.dropExtents
  try dsimp only
  repeat' first
    | (with_reducible exact OnlyChanges.refl _ _)
    | decide
    | (with_reducible apply State.setZoneExtents_only)
    | (with_reducible apply OnlyChanges.foldl)
    | (with_reducible intro _ _; try dsimp only)
    | (with_reducible apply OnlyChanges.ite)
    | (intro e; first | rfl | (split <;> rfl))
    | rfl
    | split

theorem State.appendReseat_only (s : State) (r : Reseat) (hs : [.reseats, .notices] ⊆ bs)
    (g : OnlyChanges bs s0 s) : OnlyChanges bs s0 (s.appendReseat r) := by
  refine .next (bs := [.reseats, .notices]) ?_ hs g
  unfold State.appendReseat
  try dsimp only
  repeat' first
    | (with_reducible exact OnlyChanges.refl _ _)
    | decide
    | (with_reducible apply State.raise_only)
    | (with_reducible apply State.setReseats_only)
    | (with_reducible apply OnlyChanges.ite)
    | (intro e; first | rfl | (split <;> rfl))
    | rfl
    | split

theorem State.retryStranded_only (s : State) (d : Nat) (hs : [.reseats] ⊆ bs)
    (g : OnlyChanges bs s0 s) : OnlyChanges bs s0 (s.retryStranded d) := by
  refine .next (bs := [.reseats]) ?_ hs g
  unfold State.retryStranded
  try dsimp only
  repeat' first
    | (with_reducible exact OnlyChanges.refl _ _)
    | decide
    | (with_reducible apply State.setReseats_only)
    | (with_reducible apply OnlyChanges.ite)
    | (intro e; first | rfl | (split <;> rfl))
    | rfl
    | split

theorem State.releaseSeat_only (s : State) (d : Nat) (hs : [.seats, .entries, .sittings, .reseats, .lines, .notices] ⊆ bs)
    (g : OnlyChanges bs s0 s) : OnlyChanges bs s0 (s.releaseSeat d) := by
  refine .next (bs := [.seats, .entries, .sittings, .reseats, .lines, .notices]) ?_ hs g
  unfold State.releaseSeat
  try dsimp only
  repeat' first
    | (with_reducible exact OnlyChanges.refl _ _)
    | decide
    | (with_reducible apply State.requestRelease_only)
    | (with_reducible apply State.retryStranded_only)
    | (with_reducible apply OnlyChanges.ite)
    | (intro e; first | rfl | (split <;> rfl))
    | rfl
    | split

/-! ### Placement -/

theorem State.makeOffer_only (s : State) (slot d : Nat) (p : Purpose) (o : Option Nat) (hs : [.offers, .seats, .entries, .lines, .notices] ⊆ bs)
    (g : OnlyChanges bs s0 s) : OnlyChanges bs s0 (s.makeOffer slot d p o) := by
  refine .next (bs := [.offers, .seats, .entries, .lines, .notices]) ?_ hs g
  unfold State.makeOffer
  try dsimp only
  repeat' first
    | (with_reducible exact OnlyChanges.refl _ _)
    | decide
    | (with_reducible apply State.setOffers_only)
    | (with_reducible apply State.handOffer_only)
    | (with_reducible apply State.requestOffer_only)
    | (with_reducible apply OnlyChanges.ite)
    | (intro e; first | rfl | (split <;> rfl))
    | rfl
    | split

theorem State.dropOffer_only (s : State) (d : Nat) (hs : [.offers] ⊆ bs)
    (g : OnlyChanges bs s0 s) : OnlyChanges bs s0 (s.dropOffer d) := by
  refine .next (bs := [.offers]) ?_ hs g
  unfold State.dropOffer
  try dsimp only
  repeat' first
    | (with_reducible exact OnlyChanges.refl _ _)
    | decide
    | (with_reducible apply State.setOffers_only)
    | (with_reducible apply OnlyChanges.ite)
    | (intro e; first | rfl | (split <;> rfl))
    | rfl
    | split

theorem State.withdrawOffer_only (s : State) (d n : Nat) (hs : tellingParts ⊆ bs)
    (g : OnlyChanges bs s0 s) : OnlyChanges bs s0 (s.withdrawOffer d n) := by
  refine .next (bs := tellingParts) ?_ hs g
  unfold State.withdrawOffer
  try dsimp only
  repeat' first
    | (with_reducible exact OnlyChanges.refl _ _)
    | decide
    | (with_reducible apply State.hand_only)
    | (with_reducible apply OnlyChanges.ite)
    | (intro e; first | rfl | (split <;> rfl))
    | rfl
    | split

theorem State.putHead_only (s : State) (r : Reseat) (hs : [.reseats, .notices] ⊆ bs)
    (g : OnlyChanges bs s0 s) : OnlyChanges bs s0 (s.putHead r) := by
  refine .next (bs := [.reseats, .notices]) ?_ hs g
  unfold State.putHead
  try dsimp only
  repeat' first
    | (with_reducible exact OnlyChanges.refl _ _)
    | decide
    | (with_reducible apply State.raise_only)
    | (with_reducible apply State.setReseats_only)
    | (with_reducible apply OnlyChanges.ite)
    | (intro e; first | rfl | (split <;> rfl))
    | rfl
    | split

theorem State.returnCandidate_only (s : State) (o : Offer) (hs : [.reseats, .run, .notices] ⊆ bs)
    (g : OnlyChanges bs s0 s) : OnlyChanges bs s0 (s.returnCandidate o) := by
  refine .next (bs := [.reseats, .run, .notices]) ?_ hs g
  unfold State.returnCandidate
  try dsimp only
  repeat' first
    | (with_reducible exact OnlyChanges.refl _ _)
    | decide
    | (with_reducible apply State.setRun_only)
    | (with_reducible apply State.putHead_only)
    | (with_reducible apply OnlyChanges.ite)
    | (intro e; first | rfl | (split <;> rfl))
    | rfl
    | split

theorem State.failOffer_only (s : State) (o : Offer) (b : Bool) (hs : [.offers, .seats, .entries, .reseats, .run, .lines, .notices] ⊆ bs)
    (g : OnlyChanges bs s0 s) : OnlyChanges bs s0 (s.failOffer o b) := by
  refine .next (bs := [.offers, .seats, .entries, .reseats, .run, .lines, .notices]) ?_ hs g
  unfold State.failOffer
  try dsimp only
  repeat' first
    | (with_reducible exact OnlyChanges.refl _ _)
    | decide
    | (with_reducible apply State.removeOffer_only)
    | (with_reducible apply State.requestCancel_only)
    | (with_reducible apply State.retryStranded_only)
    | (with_reducible apply State.dropOffer_only)
    | (with_reducible apply State.withdrawOffer_only)
    | (with_reducible apply State.returnCandidate_only)
    | (with_reducible apply OnlyChanges.ite)
    | (intro e; first | rfl | (split <;> rfl))
    | rfl
    | split

theorem State.passOver_only (s : State) (hs : [.run] ⊆ bs)
    (g : OnlyChanges bs s0 s) : OnlyChanges bs s0 (s.passOver) := by
  refine .next (bs := [.run]) ?_ hs g
  unfold State.passOver
  try dsimp only
  repeat' first
    | (with_reducible exact OnlyChanges.refl _ _)
    | decide
    | (with_reducible apply State.setRun_only)
    | (with_reducible apply OnlyChanges.ite)
    | (intro e; first | rfl | (split <;> rfl))
    | rfl
    | split

theorem State.cancelOffer_only (s : State) (o : Offer) (hs : [.offers, .seats, .entries, .reseats, .run, .lines, .notices] ⊆ bs)
    (g : OnlyChanges bs s0 s) : OnlyChanges bs s0 (s.cancelOffer o) := by
  refine .next (bs := [.offers, .seats, .entries, .reseats, .run, .lines, .notices]) ?_ hs g
  unfold State.cancelOffer
  try dsimp only
  repeat' first
    | (with_reducible exact OnlyChanges.refl _ _)
    | decide
    | (with_reducible apply State.removeOffer_only)
    | (with_reducible apply State.requestCancel_only)
    | (with_reducible apply State.retryStranded_only)
    | (with_reducible apply State.dropOffer_only)
    | (with_reducible apply State.withdrawOffer_only)
    | (with_reducible apply State.passOver_only)
    | (with_reducible apply OnlyChanges.ite)
    | (intro e; first | rfl | (split <;> rfl))
    | rfl
    | split

theorem State.leaveReseat_only (s : State) (slot : Nat) (hs : [.reseats] ⊆ bs)
    (g : OnlyChanges bs s0 s) : OnlyChanges bs s0 (s.leaveReseat slot) := by
  refine .next (bs := [.reseats]) ?_ hs g
  unfold State.leaveReseat
  try dsimp only
  repeat' first
    | (with_reducible exact OnlyChanges.refl _ _)
    | decide
    | (with_reducible apply State.setReseats_only)
    | (with_reducible apply OnlyChanges.ite)
    | (intro e; first | rfl | (split <;> rfl))
    | rfl
    | split

theorem State.leaveRetry_only (s : State) (slot : Nat) (hs : [.run] ⊆ bs)
    (g : OnlyChanges bs s0 s) : OnlyChanges bs s0 (s.leaveRetry slot) := by
  refine .next (bs := [.run]) ?_ hs g
  unfold State.leaveRetry
  try dsimp only
  repeat' first
    | (with_reducible exact OnlyChanges.refl _ _)
    | decide
    | (with_reducible apply State.setRun_only)
    | (with_reducible apply OnlyChanges.ite)
    | (intro e; first | rfl | (split <;> rfl))
    | rfl
    | split

theorem State.endNeed_only (s : State) (slot : Nat) (hs : [.offers, .seats, .entries, .reseats, .run, .lines, .notices] ⊆ bs)
    (g : OnlyChanges bs s0 s) : OnlyChanges bs s0 (s.endNeed slot) := by
  refine .next (bs := [.offers, .seats, .entries, .reseats, .run, .lines, .notices]) ?_ hs g
  unfold State.endNeed
  try dsimp only
  repeat' first
    | (with_reducible exact OnlyChanges.refl _ _)
    | decide
    | (with_reducible apply State.cancelOffer_only)
    | (with_reducible apply State.leaveReseat_only)
    | (with_reducible apply State.leaveRetry_only)
    | (with_reducible apply OnlyChanges.ite)
    | (intro e; first | rfl | (split <;> rfl))
    | rfl
    | split

theorem State.releaseHeld_only (s : State) (slot : Nat) (hs : [.seats, .entries, .sittings, .reseats, .lines, .notices] ⊆ bs)
    (g : OnlyChanges bs s0 s) : OnlyChanges bs s0 (s.releaseHeld slot) := by
  refine .next (bs := [.seats, .entries, .sittings, .reseats, .lines, .notices]) ?_ hs g
  unfold State.releaseHeld
  try dsimp only
  repeat' first
    | (with_reducible exact OnlyChanges.refl _ _)
    | decide
    | (with_reducible apply State.releaseSeat_only)
    | (with_reducible apply OnlyChanges.ite)
    | (intro e; first | rfl | (split <;> rfl))
    | rfl
    | split

theorem State.closeRun_only (s : State) (r : Run) (a : AllocState) (hs : [.run, .sittings] ⊆ bs)
    (g : OnlyChanges bs s0 s) : OnlyChanges bs s0 (s.closeRun r a) := by
  refine .next (bs := [.run, .sittings]) ?_ hs g
  unfold State.closeRun
  try dsimp only
  repeat' first
    | (with_reducible exact OnlyChanges.refl _ _)
    | decide
    | (with_reducible apply State.modSitting_only)
    | (with_reducible apply State.setRun_only)
    | (with_reducible apply OnlyChanges.ite)
    | (intro e; first | rfl | (split <;> rfl))
    | rfl
    | split

theorem State.checkRun_only (s : State) (hs : [.run, .sittings, .notices] ⊆ bs)
    (g : OnlyChanges bs s0 s) : OnlyChanges bs s0 (s.checkRun) := by
  refine .next (bs := [.run, .sittings, .notices]) ?_ hs g
  unfold State.checkRun
  try dsimp only
  repeat' first
    | (with_reducible exact OnlyChanges.refl _ _)
    | decide
    | (with_reducible apply State.raise_only)
    | (with_reducible apply State.closeRun_only)
    | (with_reducible apply OnlyChanges.ite)
    | (intro e; first | rfl | (split <;> rfl))
    | rfl
    | split

theorem State.serveRun_only (s : State) (r : Run) (slot : Nat) (hs : [.run, .offers, .seats, .entries, .lines, .notices] ⊆ bs)
    (g : OnlyChanges bs s0 s) : OnlyChanges bs s0 (s.serveRun r slot) := by
  refine .next (bs := [.run, .offers, .seats, .entries, .lines, .notices]) ?_ hs g
  unfold State.serveRun
  try dsimp only
  repeat' first
    | (with_reducible exact OnlyChanges.refl _ _)
    | decide
    | (with_reducible apply State.setRun_only)
    | (with_reducible apply State.makeOffer_only)
    | (with_reducible apply OnlyChanges.ite)
    | (intro e; first | rfl | (split <;> rfl))
    | rfl
    | split

theorem State.serveReseat_only (s : State) (r : Reseat) (hs : [.offers, .seats, .entries, .lines, .notices] ⊆ bs)
    (g : OnlyChanges bs s0 s) : OnlyChanges bs s0 (s.serveReseat r) := by
  refine .next (bs := [.offers, .seats, .entries, .lines, .notices]) ?_ hs g
  unfold State.serveReseat
  try dsimp only
  repeat' first
    | (with_reducible exact OnlyChanges.refl _ _)
    | decide
    | (with_reducible apply State.raise_only)
    | (with_reducible apply State.makeOffer_only)
    | (with_reducible apply OnlyChanges.ite)
    | (intro e; first | rfl | (split <;> rfl))
    | rfl
    | split

theorem State.placementStep_only (s : State) (hs : placementParts ⊆ bs)
    (g : OnlyChanges bs s0 s) : OnlyChanges bs s0 (s.placementStep) := by
  refine .next (bs := placementParts) ?_ hs g
  unfold State.placementStep
  try dsimp only
  repeat' first
    | (with_reducible exact OnlyChanges.refl _ _)
    | decide
    | (with_reducible apply State.setReseats_only)
    | (with_reducible apply State.checkRun_only)
    | (with_reducible apply State.serveRun_only)
    | (with_reducible apply State.serveReseat_only)
    | (with_reducible apply OnlyChanges.ite)
    | (intro e; first | rfl | (split <;> rfl))
    | rfl
    | split

/-! ### Clocks -/

theorem State.handIn_only (s : State) (slot : Nat) (hs : [.entries, .sittings] ⊆ bs)
    (g : OnlyChanges bs s0 s) : OnlyChanges bs s0 (s.handIn slot) := by
  refine .next (bs := [.entries, .sittings]) ?_ hs g
  unfold State.handIn
  try dsimp only
  repeat' first
    | (with_reducible exact OnlyChanges.refl _ _)
    | decide
    | (with_reducible apply State.count_only)
    | (with_reducible apply State.modEntry_only)
    | (with_reducible apply OnlyChanges.ite)
    | (intro e; first | rfl | (split <;> rfl))
    | rfl
    | split

theorem State.finishPresent_only (s : State) (slot : Nat) (hs : [.entries, .sittings] ⊆ bs)
    (g : OnlyChanges bs s0 s) : OnlyChanges bs s0 (s.finishPresent slot) := by
  refine .next (bs := [.entries, .sittings]) ?_ hs g
  unfold State.finishPresent
  try dsimp only
  repeat' first
    | (with_reducible exact OnlyChanges.refl _ _)
    | decide
    | (with_reducible apply State.count_only)
    | (with_reducible apply State.modEntry_only)
    | (with_reducible apply OnlyChanges.ite)
    | (intro e; first | rfl | (split <;> rfl))
    | rfl
    | split

theorem State.tellEnd_only (s : State) (slot : Nat) (hs : [.sittings, .bells, .lines, .notices] ⊆ bs)
    (g : OnlyChanges bs s0 s) : OnlyChanges bs s0 (s.tellEnd slot) := by
  refine .next (bs := [.sittings, .bells, .lines, .notices]) ?_ hs g
  unfold State.tellEnd
  try dsimp only
  repeat' first
    | (with_reducible exact OnlyChanges.refl _ _)
    | decide
    | (with_reducible apply State.clockEnded_only)
    | (with_reducible apply OnlyChanges.ite)
    | (intro e; first | rfl | (split <;> rfl))
    | rfl
    | split

theorem State.endPresent_only (s : State) (slot : Nat) (hs : [.entries, .seats, .sittings, .bells, .lines, .notices] ⊆ bs)
    (g : OnlyChanges bs s0 s) : OnlyChanges bs s0 (s.endPresent slot) := by
  refine .next (bs := [.entries, .seats, .sittings, .bells, .lines, .notices]) ?_ hs g
  unfold State.endPresent
  try dsimp only
  repeat' first
    | (with_reducible exact OnlyChanges.refl _ _)
    | decide
    | (with_reducible apply State.requestVacate_only)
    | (with_reducible apply State.handIn_only)
    | (with_reducible apply State.finishPresent_only)
    | (with_reducible apply State.tellEnd_only)
    | (with_reducible apply OnlyChanges.ite)
    | (intro e; first | rfl | (split <;> rfl))
    | rfl
    | split

theorem State.endDisplaced_only (s : State) (slot : Nat) (hs : clockParts ⊆ bs)
    (g : OnlyChanges bs s0 s) : OnlyChanges bs s0 (s.endDisplaced slot) := by
  refine .next (bs := clockParts) ?_ hs g
  unfold State.endDisplaced
  try dsimp only
  repeat' first
    | (with_reducible exact OnlyChanges.refl _ _)
    | decide
    | (with_reducible apply State.endNeed_only)
    | (with_reducible apply State.releaseHeld_only)
    | (with_reducible apply State.checkRun_only)
    | (with_reducible apply State.handIn_only)
    | (with_reducible apply State.finishPresent_only)
    | (with_reducible apply State.tellEnd_only)
    | (with_reducible apply OnlyChanges.ite)
    | (intro e; first | rfl | (split <;> rfl))
    | rfl
    | split

theorem State.expire_only (s : State) (slot : Nat) (hs : clockParts ⊆ bs)
    (g : OnlyChanges bs s0 s) : OnlyChanges bs s0 (s.expire slot) := by
  refine .next (bs := clockParts) ?_ hs g
  unfold State.expire
  try dsimp only
  repeat' first
    | (with_reducible exact OnlyChanges.refl _ _)
    | decide
    | (with_reducible apply State.queueClock_only)
    | (with_reducible apply State.tellEnd_only)
    | (with_reducible apply State.endPresent_only)
    | (with_reducible apply State.endDisplaced_only)
    | (with_reducible apply State.modEntry_only)
    | (with_reducible apply OnlyChanges.ite)
    | (intro e; first | rfl | (split <;> rfl))
    | rfl
    | split

theorem State.queueWarn_only (s : State) (e : Entry) (m : Nat) (hs : tellingParts ⊆ bs)
    (g : OnlyChanges bs s0 s) : OnlyChanges bs s0 (s.queueWarn e m) := by
  refine .next (bs := tellingParts) ?_ hs g
  unfold State.queueWarn
  try dsimp only
  repeat' first
    | (with_reducible exact OnlyChanges.refl _ _)
    | decide
    | (with_reducible apply State.hand_only)
    | (with_reducible apply OnlyChanges.ite)
    | (intro e; first | rfl | (split <;> rfl))
    | rfl
    | split

theorem State.fireWarnings_only (s : State) (slot : Nat) (hs : [.entries, .lines, .notices] ⊆ bs)
    (g : OnlyChanges bs s0 s) : OnlyChanges bs s0 (s.fireWarnings slot) := by
  refine .next (bs := [.entries, .lines, .notices]) ?_ hs g
  unfold State.fireWarnings
  try dsimp only
  repeat' first
    | (with_reducible exact OnlyChanges.refl _ _)
    | decide
    | (with_reducible apply State.queueWarn_only)
    | (with_reducible apply State.modEntry_only)
    | (with_reducible apply OnlyChanges.ite)
    | (intro e; first | rfl | (split <;> rfl))
    | rfl
    | split

theorem State.endRest_only (s : State) (slot : Nat) (hs : [.entries, .lines, .notices] ⊆ bs)
    (g : OnlyChanges bs s0 s) : OnlyChanges bs s0 (s.endRest slot) := by
  refine .next (bs := [.entries, .lines, .notices]) ?_ hs g
  unfold State.endRest
  try dsimp only
  repeat' first
    | (with_reducible exact OnlyChanges.refl _ _)
    | decide
    | (with_reducible apply State.queueClock_only)
    | (with_reducible apply State.modEntry_only)
    | (with_reducible apply OnlyChanges.ite)
    | (intro e; first | rfl | (split <;> rfl))
    | rfl
    | split

theorem State.takeClock_only (s : State) (n : Nat) (hs : clockParts ⊆ bs)
    (g : OnlyChanges bs s0 s) : OnlyChanges bs s0 (s.takeClock n) := by
  refine .next (bs := clockParts) ?_ hs g
  unfold State.takeClock
  try dsimp only
  repeat' first
    | (with_reducible exact OnlyChanges.refl _ _)
    | decide
    | (with_reducible apply State.queueClock_only)
    | (with_reducible apply State.expire_only)
    | (with_reducible apply State.fireWarnings_only)
    | (with_reducible apply State.endRest_only)
    | (with_reducible apply State.modEntry_only)
    | (with_reducible apply OnlyChanges.ite)
    | (intro e; first | rfl | (split <;> rfl))
    | rfl
    | split

theorem State.startClock_only (s : State) (slot : Nat) (hs : clockParts ⊆ bs)
    (g : OnlyChanges bs s0 s) : OnlyChanges bs s0 (s.startClock slot) := by
  refine .next (bs := clockParts) ?_ hs g
  unfold State.startClock
  try dsimp only
  repeat' first
    | (with_reducible exact OnlyChanges.refl _ _)
    | decide
    | (with_reducible apply State.queueClock_only)
    | (with_reducible apply State.expire_only)
    | (with_reducible apply State.fireWarnings_only)
    | (with_reducible apply State.modEntry_only)
    | (with_reducible apply OnlyChanges.ite)
    | (intro e; first | rfl | (split <;> rfl))
    | rfl
    | split

theorem State.startClocks_only (s : State) (k : Nat) (hs : clockParts ⊆ bs)
    (g : OnlyChanges bs s0 s) : OnlyChanges bs s0 (s.startClocks k) := by
  refine .next (bs := clockParts) ?_ hs g
  unfold State.startClocks
  try dsimp only
  repeat' first
    | (with_reducible exact OnlyChanges.refl _ _)
    | decide
    | (with_reducible apply State.startClock_only)
    | (with_reducible apply OnlyChanges.foldl)
    | (with_reducible intro _ _; try dsimp only)
    | (with_reducible apply OnlyChanges.ite)
    | (intro e; first | rfl | (split <;> rfl))
    | rfl
    | split

theorem State.makeAbsent_only (s : State) (slot : Nat) (hs : placementParts ⊆ bs)
    (g : OnlyChanges bs s0 s) : OnlyChanges bs s0 (s.makeAbsent slot) := by
  refine .next (bs := placementParts) ?_ hs g
  unfold State.makeAbsent
  try dsimp only
  repeat' first
    | (with_reducible exact OnlyChanges.refl _ _)
    | decide
    | (with_reducible apply State.endNeed_only)
    | (with_reducible apply State.releaseHeld_only)
    | (with_reducible apply State.modEntry_only)
    | (with_reducible apply OnlyChanges.ite)
    | (intro e; first | rfl | (split <;> rfl))
    | rfl
    | split

theorem State.absences_only (s : State) (k : Nat) (hs : placementParts ⊆ bs)
    (g : OnlyChanges bs s0 s) : OnlyChanges bs s0 (s.absences k) := by
  refine .next (bs := placementParts) ?_ hs g
  unfold State.absences
  try dsimp only
  repeat' first
    | (with_reducible exact OnlyChanges.refl _ _)
    | decide
    | (with_reducible apply State.checkRun_only)
    | (with_reducible apply State.makeAbsent_only)
    | (with_reducible apply OnlyChanges.foldl)
    | (with_reducible intro _ _; try dsimp only)
    | (with_reducible apply OnlyChanges.ite)
    | (intro e; first | rfl | (split <;> rfl))
    | rfl
    | split

theorem State.displace_only (s : State) (slot : Nat) (hs : [.entries] ⊆ bs)
    (g : OnlyChanges bs s0 s) : OnlyChanges bs s0 (s.displace slot) := by
  refine .next (bs := [.entries]) ?_ hs g
  unfold State.displace
  try dsimp only
  repeat' first
    | (with_reducible exact OnlyChanges.refl _ _)
    | decide
    | (with_reducible apply State.modEntry_only)
    | (with_reducible apply OnlyChanges.ite)
    | (intro e; first | rfl | (split <;> rfl))
    | rfl
    | split

theorem State.afterRebudget_only (s : State) (slot : Nat) (hs : clockParts ⊆ bs)
    (g : OnlyChanges bs s0 s) : OnlyChanges bs s0 (s.afterRebudget slot) := by
  refine .next (bs := clockParts) ?_ hs g
  unfold State.afterRebudget
  try dsimp only
  repeat' first
    | (with_reducible exact OnlyChanges.refl _ _)
    | decide
    | (with_reducible apply State.queueClock_only)
    | (with_reducible apply State.expire_only)
    | (with_reducible apply State.fireWarnings_only)
    | (with_reducible apply OnlyChanges.ite)
    | (intro e; first | rfl | (split <;> rfl))
    | rfl
    | split

/-! ### Phases -/

theorem State.enterOpen_only (s : State) (k : Nat) (hs : [.sittings, .bells, .lines, .notices] ⊆ bs)
    (g : OnlyChanges bs s0 s) : OnlyChanges bs s0 (s.enterOpen k) := by
  refine .next (bs := [.sittings, .bells, .lines, .notices]) ?_ hs g
  unfold State.enterOpen
  try dsimp only
  repeat' first
    | (with_reducible exact OnlyChanges.refl _ _)
    | decide
    | (with_reducible apply State.changeSitting_only)
    | (with_reducible apply OnlyChanges.ite)
    | (intro e; first | rfl | (split <;> rfl))
    | rfl
    | split

theorem State.enterWriting_only (s : State) (k : Nat) (hs : clockParts ⊆ bs)
    (g : OnlyChanges bs s0 s) : OnlyChanges bs s0 (s.enterWriting k) := by
  refine .next (bs := clockParts) ?_ hs g
  unfold State.enterWriting
  try dsimp only
  repeat' first
    | (with_reducible exact OnlyChanges.refl _ _)
    | decide
    | (with_reducible apply State.changeSitting_only)
    | (with_reducible apply State.startClocks_only)
    | (with_reducible apply State.absences_only)
    | (with_reducible apply OnlyChanges.ite)
    | (intro e; first | rfl | (split <;> rfl))
    | rfl
    | split

theorem State.sittingStart_only (s : State) (k : Nat) (hs : clockParts ⊆ bs)
    (g : OnlyChanges bs s0 s) : OnlyChanges bs s0 (s.sittingStart k) := by
  refine .next (bs := clockParts) ?_ hs g
  unfold State.sittingStart
  try dsimp only
  repeat' first
    | (with_reducible exact OnlyChanges.refl _ _)
    | decide
    | (with_reducible apply State.changeSitting_only)
    | (with_reducible apply State.enterWriting_only)
    | (with_reducible apply OnlyChanges.ite)
    | (intro e; first | rfl | (split <;> rfl))
    | rfl
    | split

theorem State.countReading_only (s : State) (k : Nat) (hs : clockParts ⊆ bs)
    (g : OnlyChanges bs s0 s) : OnlyChanges bs s0 (s.countReading k) := by
  refine .next (bs := clockParts) ?_ hs g
  unfold State.countReading
  try dsimp only
  repeat' first
    | (with_reducible exact OnlyChanges.refl _ _)
    | decide
    | (with_reducible apply State.modSitting_only)
    | (with_reducible apply State.enterWriting_only)
    | (with_reducible apply OnlyChanges.ite)
    | (intro e; first | rfl | (split <;> rfl))
    | rfl
    | split

theorem State.countWriting_only (s : State) (k : Nat) (hs : clockParts ⊆ bs)
    (g : OnlyChanges bs s0 s) : OnlyChanges bs s0 (s.countWriting k) := by
  refine .next (bs := clockParts) ?_ hs g
  unfold State.countWriting
  try dsimp only
  repeat' first
    | (with_reducible exact OnlyChanges.refl _ _)
    | decide
    | (with_reducible apply State.modSitting_only)
    | (with_reducible apply State.changeSitting_only)
    | (with_reducible apply State.enterCollecting_only)
    | (with_reducible apply State.absences_only)
    | (with_reducible apply OnlyChanges.ite)
    | (intro e; first | rfl | (split <;> rfl))
    | rfl
    | split

theorem State.takeSitting_only (s : State) (k : Nat) (hs : clockParts ⊆ bs)
    (g : OnlyChanges bs s0 s) : OnlyChanges bs s0 (s.takeSitting k) := by
  refine .next (bs := clockParts) ?_ hs g
  unfold State.takeSitting
  try dsimp only
  repeat' first
    | (with_reducible exact OnlyChanges.refl _ _)
    | decide
    | (with_reducible apply State.enterOpen_only)
    | (with_reducible apply State.sittingStart_only)
    | (with_reducible apply State.countReading_only)
    | (with_reducible apply State.countWriting_only)
    | (with_reducible apply OnlyChanges.ite)
    | (intro e; first | rfl | (split <;> rfl))
    | rfl
    | split

theorem State.tickOffers_only (s : State) (hs : [.offers] ⊆ bs)
    (g : OnlyChanges bs s0 s) : OnlyChanges bs s0 (s.tickOffers) := by
  refine .next (bs := [.offers]) ?_ hs g
  unfold State.tickOffers
  try dsimp only
  repeat' first
    | (with_reducible exact OnlyChanges.refl _ _)
    | decide
    | (with_reducible apply State.setOffers_only)
    | (with_reducible apply OnlyChanges.ite)
    | (intro e; first | rfl | (split <;> rfl))
    | rfl
    | split

theorem State.failDeadline_only (s : State) (d : Nat) (hs : placementParts ⊆ bs)
    (g : OnlyChanges bs s0 s) : OnlyChanges bs s0 (s.failDeadline d) := by
  refine .next (bs := placementParts) ?_ hs g
  unfold State.failDeadline
  try dsimp only
  repeat' first
    | (with_reducible exact OnlyChanges.refl _ _)
    | decide
    | (with_reducible apply State.failOffer_only)
    | (with_reducible apply OnlyChanges.ite)
    | (intro e; first | rfl | (split <;> rfl))
    | rfl
    | split

theorem State.takeOffers_only (s : State) (hs : placementParts ⊆ bs)
    (g : OnlyChanges bs s0 s) : OnlyChanges bs s0 (s.takeOffers) := by
  refine .next (bs := placementParts) ?_ hs g
  unfold State.takeOffers
  try dsimp only
  repeat' first
    | (with_reducible exact OnlyChanges.refl _ _)
    | decide
    | (with_reducible apply State.tickOffers_only)
    | (with_reducible apply State.failDeadline_only)
    | (with_reducible apply OnlyChanges.foldl)
    | (with_reducible intro _ _; try dsimp only)
    | (with_reducible apply OnlyChanges.ite)
    | (intro e; first | rfl | (split <;> rfl))
    | rfl
    | split

theorem State.takeLockout_only (s : State) (hs : [.access] ⊆ bs)
    (g : OnlyChanges bs s0 s) : OnlyChanges bs s0 (s.takeLockout) := by
  refine .next (bs := [.access]) ?_ hs g
  unfold State.takeLockout
  try dsimp only
  repeat' first
    | (with_reducible exact OnlyChanges.refl _ _)
    | decide
    | (with_reducible apply OnlyChanges.ite)
    | (intro e; first | rfl | (split <;> rfl))
    | rfl
    | split
    | (with_reducible apply only_access)

theorem State.takeBell_only (s : State) (o : Nat) (hs : [.bells] ⊆ bs)
    (g : OnlyChanges bs s0 s) : OnlyChanges bs s0 (s.takeBell o) := by
  refine .next (bs := [.bells]) ?_ hs g
  unfold State.takeBell
  try dsimp only
  repeat' first
    | (with_reducible exact OnlyChanges.refl _ _)
    | decide
    | (with_reducible apply State.setBell_only)
    | (with_reducible apply OnlyChanges.ite)
    | (intro e; first | rfl | (split <;> rfl))
    | rfl
    | split

theorem State.take_only (s : State) (i : HallItem) (hs : (.access :: clockParts) ⊆ bs)
    (g : OnlyChanges bs s0 s) : OnlyChanges bs s0 (s.take i) := by
  refine .next (bs := (.access :: clockParts)) ?_ hs g
  unfold State.take
  try dsimp only
  repeat' first
    | (with_reducible exact OnlyChanges.refl _ _)
    | decide
    | (with_reducible apply State.takeClock_only)
    | (with_reducible apply State.takeSitting_only)
    | (with_reducible apply State.takeOffers_only)
    | (with_reducible apply State.takeLockout_only)
    | (with_reducible apply State.takeBell_only)
    | (with_reducible apply OnlyChanges.ite)
    | (intro e; first | rfl | (split <;> rfl))
    | rfl
    | split

theorem State.settled_only (s : State) (i : HallItem) (hs : [.owed] ⊆ bs)
    (g : OnlyChanges bs s0 s) : OnlyChanges bs s0 (s.settled i) := by
  refine .next (bs := [.owed]) ?_ hs g
  unfold State.settled
  try dsimp only
  repeat' first
    | (with_reducible exact OnlyChanges.refl _ _)
    | decide
    | (with_reducible apply State.setOwed_only)
    | (with_reducible apply OnlyChanges.ite)
    | (intro e; first | rfl | (split <;> rfl))
    | rfl
    | split

theorem State.catchUp_only (s : State) (hs : ([.owed, .access] ++ clockParts) ⊆ bs)
    (g : OnlyChanges bs s0 s) : OnlyChanges bs s0 (s.catchUp) := by
  refine .next (bs := ([.owed, .access] ++ clockParts)) ?_ hs g
  unfold State.catchUp
  try dsimp only
  repeat' first
    | (with_reducible exact OnlyChanges.refl _ _)
    | decide
    | (with_reducible apply State.setOwed_only)
    | (with_reducible apply State.failDeadline_only)
    | (with_reducible apply State.take_only)
    | (with_reducible apply OnlyChanges.foldl)
    | (with_reducible intro _ _; try dsimp only)
    | (with_reducible apply OnlyChanges.ite)
    | (intro e; first | rfl | (split <;> rfl))
    | rfl
    | split

/-! ### Custody -/

theorem State.showTray_only (s : State) (u : Nat) (hs : tellingParts ⊆ bs)
    (g : OnlyChanges bs s0 s) : OnlyChanges bs s0 (s.showTray u) := by
  refine .next (bs := tellingParts) ?_ hs g
  unfold State.showTray
  try dsimp only
  repeat' first
    | (with_reducible exact OnlyChanges.refl _ _)
    | decide
    | (with_reducible apply State.hand_only)
    | (with_reducible apply OnlyChanges.ite)
    | (intro e; first | rfl | (split <;> rfl))
    | rfl
    | split

theorem State.releaseVacated_only (s : State) (slot : Nat) (hs : [.seats, .entries, .sittings, .reseats, .lines, .notices] ⊆ bs)
    (g : OnlyChanges bs s0 s) : OnlyChanges bs s0 (s.releaseVacated slot) := by
  refine .next (bs := [.seats, .entries, .sittings, .reseats, .lines, .notices]) ?_ hs g
  unfold State.releaseVacated
  try dsimp only
  repeat' first
    | (with_reducible exact OnlyChanges.refl _ _)
    | decide
    | (with_reducible apply State.releaseSeat_only)
    | (with_reducible apply OnlyChanges.ite)
    | (intro e; first | rfl | (split <;> rfl))
    | rfl
    | split

theorem State.acceptTag_only (s : State) (u t : Nat) (e : Entry) (hs : [.trays, .seats, .entries, .sittings, .reseats, .lines, .notices] ⊆ bs)
    (g : OnlyChanges bs s0 s) : OnlyChanges bs s0 (s.acceptTag u t e) := by
  refine .next (bs := [.trays, .seats, .entries, .sittings, .reseats, .lines, .notices]) ?_ hs g
  unfold State.acceptTag
  try dsimp only
  repeat' first
    | (with_reducible exact OnlyChanges.refl _ _)
    | decide
    | (with_reducible apply State.setTray_only)
    | (with_reducible apply State.count_only)
    | (with_reducible apply State.releaseVacated_only)
    | (with_reducible apply State.modEntry_only)
    | (with_reducible apply OnlyChanges.ite)
    | (intro e; first | rfl | (split <;> rfl))
    | rfl
    | split

theorem State.readTag_only (s : State) (u t : Nat) (hs : [.trays, .seats, .entries, .sittings, .reseats, .lines, .notices] ⊆ bs)
    (g : OnlyChanges bs s0 s) : OnlyChanges bs s0 (s.readTag u t) := by
  refine .next (bs := [.trays, .seats, .entries, .sittings, .reseats, .lines, .notices]) ?_ hs g
  unfold State.readTag
  try dsimp only
  repeat' first
    | (with_reducible exact OnlyChanges.refl _ _)
    | decide
    | (with_reducible apply State.raise_only)
    | (with_reducible apply State.hand_only)
    | (with_reducible apply State.acceptTag_only)
    | (with_reducible apply OnlyChanges.ite)
    | (intro e; first | rfl | (split <;> rfl))
    | rfl
    | split

theorem State.dropPosition_only (s : State) (p : Nat) (hs : [.batch] ⊆ bs)
    (g : OnlyChanges bs s0 s) : OnlyChanges bs s0 (s.dropPosition p) := by
  refine .next (bs := [.batch]) ?_ hs g
  unfold State.dropPosition
  try dsimp only
  repeat' first
    | (with_reducible exact OnlyChanges.refl _ _)
    | decide
    | (with_reducible apply State.setBatch_only)
    | (with_reducible apply OnlyChanges.ite)
    | (intro e; first | rfl | (split <;> rfl))
    | rfl
    | split

theorem State.removeTag_only (s : State) (u t : Nat) (hs : [.trays, .batch, .lines, .notices] ⊆ bs)
    (g : OnlyChanges bs s0 s) : OnlyChanges bs s0 (s.removeTag u t) := by
  refine .next (bs := [.trays, .batch, .lines, .notices]) ?_ hs g
  unfold State.removeTag
  try dsimp only
  repeat' first
    | (with_reducible exact OnlyChanges.refl _ _)
    | decide
    | (with_reducible apply State.setTray_only)
    | (with_reducible apply State.showTray_only)
    | (with_reducible apply State.dropPosition_only)
    | (with_reducible apply OnlyChanges.ite)
    | (intro e; first | rfl | (split <;> rfl))
    | rfl
    | split

theorem State.voidIssued_only (s : State) (e : Entry) (hs : clockParts ⊆ bs)
    (g : OnlyChanges bs s0 s) : OnlyChanges bs s0 (s.voidIssued e) := by
  refine .next (bs := clockParts) ?_ hs g
  unfold State.voidIssued
  try dsimp only
  repeat' first
    | (with_reducible exact OnlyChanges.refl _ _)
    | decide
    | (with_reducible apply State.releaseSeat_only)
    | (with_reducible apply State.endNeed_only)
    | (with_reducible apply State.releaseHeld_only)
    | (with_reducible apply State.checkRun_only)
    | (with_reducible apply State.finishPresent_only)
    | (with_reducible apply State.tellEnd_only)
    | (with_reducible apply OnlyChanges.ite)
    | (intro e; first | rfl | (split <;> rfl))
    | rfl
    | split

theorem State.voidCollected_only (s : State) (e : Entry) (hs : [.trays, .batch, .entries, .sittings, .lines, .notices] ⊆ bs)
    (g : OnlyChanges bs s0 s) : OnlyChanges bs s0 (s.voidCollected e) := by
  refine .next (bs := [.trays, .batch, .entries, .sittings, .lines, .notices]) ?_ hs g
  unfold State.voidCollected
  try dsimp only
  repeat' first
    | (with_reducible exact OnlyChanges.refl _ _)
    | decide
    | (with_reducible apply State.count_only)
    | (with_reducible apply State.removeTag_only)
    | (with_reducible apply State.modEntry_only)
    | (with_reducible apply OnlyChanges.ite)
    | (intro e; first | rfl | (split <;> rfl))
    | rfl
    | split

theorem State.voidScript_only (s : State) (e : Entry) (hs : ([.trays, .batch] ++ clockParts) ⊆ bs)
    (g : OnlyChanges bs s0 s) : OnlyChanges bs s0 (s.voidScript e) := by
  refine .next (bs := ([.trays, .batch] ++ clockParts)) ?_ hs g
  unfold State.voidScript
  try dsimp only
  repeat' first
    | (with_reducible exact OnlyChanges.refl _ _)
    | decide
    | (with_reducible apply State.count_only)
    | (with_reducible apply State.releaseVacated_only)
    | (with_reducible apply State.voidIssued_only)
    | (with_reducible apply State.voidCollected_only)
    | (with_reducible apply State.modEntry_only)
    | (with_reducible apply OnlyChanges.ite)
    | (intro e; first | rfl | (split <;> rfl))
    | rfl
    | split

theorem State.deleteEntry_only (s : State) (slot : Nat) (hs : [.identities, .entries, .tags, .sittings] ⊆ bs)
    (g : OnlyChanges bs s0 s) : OnlyChanges bs s0 (s.deleteEntry slot) := by
  refine .next (bs := [.identities, .entries, .tags, .sittings]) ?_ hs g
  unfold State.deleteEntry
  try dsimp only
  repeat' first
    | (with_reducible exact OnlyChanges.refl _ _)
    | decide
    | (with_reducible apply State.modSitting_only)
    | (with_reducible apply OnlyChanges.ite)
    | (intro e; first | rfl | (split <;> rfl))
    | rfl
    | split
    | (with_reducible apply only_roster)

/-! ### Scoring -/

theorem State.modRecord_only (s : State) (slot : Nat) (f : MarkRecord → MarkRecord) (hs : [.entries] ⊆ bs)
    (g : OnlyChanges bs s0 s) : OnlyChanges bs s0 (s.modRecord slot f) := by
  refine .next (bs := [.entries]) ?_ hs g
  unfold State.modRecord
  try dsimp only
  repeat' first
    | (with_reducible exact OnlyChanges.refl _ _)
    | decide
    | (with_reducible apply State.modEntry_only)
    | (with_reducible apply OnlyChanges.ite)
    | (intro e; first | rfl | (split <;> rfl))
    | rfl
    | split

theorem State.countFinal_only (s : State) (k : Nat) (hs : [.sittings] ⊆ bs)
    (g : OnlyChanges bs s0 s) : OnlyChanges bs s0 (s.countFinal k) := by
  refine .next (bs := [.sittings]) ?_ hs g
  unfold State.countFinal
  try dsimp only
  repeat' first
    | (with_reducible exact OnlyChanges.refl _ _)
    | decide
    | (with_reducible apply State.modSitting_only)
    | (with_reducible apply OnlyChanges.ite)
    | (intro e; first | rfl | (split <;> rfl))
    | rfl
    | split

theorem State.settle_only (s : State) (e : Entry) (r : MarkRecord) (hs : [.entries, .sittings, .notices] ⊆ bs)
    (g : OnlyChanges bs s0 s) : OnlyChanges bs s0 (s.settle e r) := by
  refine .next (bs := [.entries, .sittings, .notices]) ?_ hs g
  unfold State.settle
  try dsimp only
  repeat' first
    | (with_reducible exact OnlyChanges.refl _ _)
    | decide
    | (with_reducible apply State.raise_only)
    | (with_reducible apply State.countFinal_only)
    | (with_reducible apply State.modEntry_only)
    | (with_reducible apply OnlyChanges.ite)
    | (intro e; first | rfl | (split <;> rfl))
    | rfl
    | split

theorem State.startWalk_only (s : State) (hs : [.walks] ⊆ bs)
    (g : OnlyChanges bs s0 s) : OnlyChanges bs s0 (s.startWalk) := by
  refine .next (bs := [.walks]) ?_ hs g
  unfold State.startWalk
  try dsimp only
  repeat' first
    | (with_reducible exact OnlyChanges.refl _ _)
    | decide
    | (with_reducible apply OnlyChanges.ite)
    | (intro e; first | rfl | (split <;> rfl))
    | rfl
    | split
    | (with_reducible apply only_walks)

theorem State.queueWalk_only (s : State) (k : Nat) (hs : [.walks] ⊆ bs)
    (g : OnlyChanges bs s0 s) : OnlyChanges bs s0 (s.queueWalk k) := by
  refine .next (bs := [.walks]) ?_ hs g
  unfold State.queueWalk
  try dsimp only
  repeat' first
    | (with_reducible exact OnlyChanges.refl _ _)
    | decide
    | (with_reducible apply State.startWalk_only)
    | (with_reducible apply OnlyChanges.ite)
    | (intro e; first | rfl | (split <;> rfl))
    | rfl
    | split
    | (with_reducible apply only_walks)

theorem State.walkStep_only (s : State) (hs : [.entries, .walks, .notices] ⊆ bs)
    (g : OnlyChanges bs s0 s) : OnlyChanges bs s0 (s.walkStep) := by
  refine .next (bs := [.entries, .walks, .notices]) ?_ hs g
  unfold State.walkStep
  try dsimp only
  repeat' first
    | (with_reducible exact OnlyChanges.refl _ _)
    | decide
    | (with_reducible apply State.raise_only)
    | (with_reducible apply State.modRecord_only)
    | (with_reducible apply State.startWalk_only)
    | (with_reducible apply OnlyChanges.ite)
    | (intro e; first | rfl | (split <;> rfl))
    | rfl
    | split
    | (with_reducible apply only_walks)

/-! ### Decoding -/

theorem State.pushReply_only (s : State) (r : SheetReply) (hs : [.sheet] ⊆ bs)
    (g : OnlyChanges bs s0 s) : OnlyChanges bs s0 (s.pushReply r) := by
  refine .next (bs := [.sheet]) ?_ hs g
  unfold State.pushReply
  try dsimp only
  repeat' first
    | (with_reducible exact OnlyChanges.refl _ _)
    | decide
    | (with_reducible apply OnlyChanges.ite)
    | (intro e; first | rfl | (split <;> rfl))
    | rfl
    | split
    | (with_reducible apply only_sheet)

theorem State.decideSheet_only (s : State) (n t : Nat) (v : SheetVerdict) (hs : [.sheet, .batch, .notices] ⊆ bs)
    (g : OnlyChanges bs s0 s) : OnlyChanges bs s0 (s.decideSheet n t v) := by
  refine .next (bs := [.sheet, .batch, .notices]) ?_ hs g
  unfold State.decideSheet
  try dsimp only
  repeat' first
    | (with_reducible exact OnlyChanges.refl _ _)
    | decide
    | (with_reducible apply State.raise_only)
    | (with_reducible apply State.setBatch_only)
    | (with_reducible apply State.pushReply_only)
    | (with_reducible apply OnlyChanges.ite)
    | (intro e; first | rfl | (split <;> rfl))
    | rfl
    | split

theorem State.freeBuffer_only (s : State) (i : Nat) (hs : [.sheet] ⊆ bs)
    (g : OnlyChanges bs s0 s) : OnlyChanges bs s0 (s.freeBuffer i) := by
  refine .next (bs := [.sheet]) ?_ hs g
  unfold State.freeBuffer
  try dsimp only
  repeat' first
    | (with_reducible exact OnlyChanges.refl _ _)
    | decide
    | (with_reducible apply State.setBuffer_only)
    | (with_reducible apply OnlyChanges.ite)
    | (intro e; first | rfl | (split <;> rfl))
    | rfl
    | split
    | (with_reducible apply only_sheet)

theorem State.closeBatch_only (s : State) (hs : batchParts ⊆ bs)
    (g : OnlyChanges bs s0 s) : OnlyChanges bs s0 (s.closeBatch) := by
  refine .next (bs := batchParts) ?_ hs g
  unfold State.closeBatch
  try dsimp only
  repeat' first
    | (with_reducible exact OnlyChanges.refl _ _)
    | decide
    | (with_reducible apply State.finishTask_only)
    | (with_reducible apply State.raise_only)
    | (with_reducible apply State.setTray_only)
    | (with_reducible apply State.setBatch_only)
    | (with_reducible apply State.showTray_only)
    | (with_reducible apply OnlyChanges.ite)
    | (intro e; first | rfl | (split <;> rfl))
    | rfl
    | split

theorem State.settleOwed_only (s : State) (i : Nat) (hs : batchParts ⊆ bs)
    (g : OnlyChanges bs s0 s) : OnlyChanges bs s0 (s.settleOwed i) := by
  refine .next (bs := batchParts) ?_ hs g
  unfold State.settleOwed
  try dsimp only
  repeat' first
    | (with_reducible exact OnlyChanges.refl _ _)
    | decide
    | (with_reducible apply State.setBatch_only)
    | (with_reducible apply State.closeBatch_only)
    | (with_reducible apply OnlyChanges.ite)
    | (intro e; first | rfl | (split <;> rfl))
    | rfl
    | split

theorem State.answerSheet_only (s : State) (i : Nat) (v : SheetVerdict) (hs : (.sheet :: batchParts) ⊆ bs)
    (g : OnlyChanges bs s0 s) : OnlyChanges bs s0 (s.answerSheet i v) := by
  refine .next (bs := (.sheet :: batchParts)) ?_ hs g
  unfold State.answerSheet
  try dsimp only
  repeat' first
    | (with_reducible exact OnlyChanges.refl _ _)
    | decide
    | (with_reducible apply State.decideSheet_only)
    | (with_reducible apply State.freeBuffer_only)
    | (with_reducible apply State.settleOwed_only)
    | (with_reducible apply OnlyChanges.ite)
    | (intro e; first | rfl | (split <;> rfl))
    | rfl
    | split
    | (with_reducible apply only_sheet)

theorem State.takeSheet_only (s : State) (i : Nat) (hs : (.sheet :: batchParts) ⊆ bs)
    (g : OnlyChanges bs s0 s) : OnlyChanges bs s0 (s.takeSheet i) := by
  refine .next (bs := (.sheet :: batchParts)) ?_ hs g
  unfold State.takeSheet
  try dsimp only
  repeat' first
    | (with_reducible exact OnlyChanges.refl _ _)
    | decide
    | (with_reducible apply State.setBuffer_only)
    | (with_reducible apply State.answerSheet_only)
    | (with_reducible apply OnlyChanges.ite)
    | (intro e; first | rfl | (split <;> rfl))
    | rfl
    | split
    | (with_reducible apply only_sheet)

theorem State.decoderStep_only (s : State) (hs : (.sheet :: batchParts) ⊆ bs)
    (g : OnlyChanges bs s0 s) : OnlyChanges bs s0 (s.decoderStep) := by
  refine .next (bs := (.sheet :: batchParts)) ?_ hs g
  unfold State.decoderStep
  try dsimp only
  repeat' first
    | (with_reducible exact OnlyChanges.refl _ _)
    | decide
    | (with_reducible apply State.takeSheet_only)
    | (with_reducible apply OnlyChanges.ite)
    | (intro e; first | rfl | (split <;> rfl))
    | rfl
    | split

theorem State.storeSecond_only (s : State) (e : Entry) (m : MarkRecord) (hs : [.entries, .sittings, .notices] ⊆ bs)
    (g : OnlyChanges bs s0 s) : OnlyChanges bs s0 (s.storeSecond e m) := by
  refine .next (bs := [.entries, .sittings, .notices]) ?_ hs g
  unfold State.storeSecond
  try dsimp only
  repeat' first
    | (with_reducible exact OnlyChanges.refl _ _)
    | decide
    | (with_reducible apply State.raise_only)
    | (with_reducible apply State.take_only)
    | (with_reducible apply State.settle_only)
    | (with_reducible apply State.modEntry_only)
    | (with_reducible apply OnlyChanges.ite)
    | (intro e; first | rfl | (split <;> rfl))
    | rfl
    | split

theorem State.storeRead_only (s : State) (e : Entry) (r : Read) (b : Bool) (hs : [.entries, .sittings, .notices] ⊆ bs)
    (g : OnlyChanges bs s0 s) : OnlyChanges bs s0 (s.storeRead e r b) := by
  refine .next (bs := [.entries, .sittings, .notices]) ?_ hs g
  unfold State.storeRead
  try dsimp only
  repeat' first
    | (with_reducible exact OnlyChanges.refl _ _)
    | decide
    | (with_reducible apply State.settle_only)
    | (with_reducible apply State.storeSecond_only)
    | (with_reducible apply State.modEntry_only)
    | (with_reducible apply OnlyChanges.ite)
    | (intro e; first | rfl | (split <;> rfl))
    | rfl
    | split

theorem State.matchSheet_only (s : State) (p : Nat) (b : Bool) (hs : [.batch] ⊆ bs)
    (g : OnlyChanges bs s0 s) : OnlyChanges bs s0 (s.matchSheet p b) := by
  refine .next (bs := [.batch]) ?_ hs g
  unfold State.matchSheet
  try dsimp only
  repeat' first
    | (with_reducible exact OnlyChanges.refl _ _)
    | decide
    | (with_reducible apply State.setBatch_only)
    | (with_reducible apply OnlyChanges.ite)
    | (intro e; first | rfl | (split <;> rfl))
    | rfl
    | split

/-! ### Lines -/

theorem State.headCheck_only (s : State) (z : Nat) (hs : tellingParts ⊆ bs)
    (g : OnlyChanges bs s0 s) : OnlyChanges bs s0 (s.headCheck z) := by
  refine .next (bs := tellingParts) ?_ hs g
  unfold State.headCheck
  try dsimp only
  repeat' first
    | (with_reducible exact OnlyChanges.refl _ _)
    | decide
    | (with_reducible apply State.leaveQueue_only)
    | (with_reducible apply OnlyChanges.ite)
    | (intro e; first | rfl | (split <;> rfl))
    | rfl
    | split

theorem State.endGood_only (s : State) (z : Nat) (hs : tellingParts ⊆ bs)
    (g : OnlyChanges bs s0 s) : OnlyChanges bs s0 (s.endGood z) := by
  refine .next (bs := tellingParts) ?_ hs g
  unfold State.endGood
  try dsimp only
  repeat' first
    | (with_reducible exact OnlyChanges.refl _ _)
    | decide
    | (with_reducible apply State.setSlot_only)
    | (with_reducible apply State.leaveQueue_only)
    | (with_reducible apply OnlyChanges.ite)
    | (intro e; first | rfl | (split <;> rfl))
    | rfl
    | split

theorem State.endFrame_only (s : State) (z : Nat) (f : Frame) (hs : [.lines, .offers, .notices] ⊆ bs)
    (g : OnlyChanges bs s0 s) : OnlyChanges bs s0 (s.endFrame z f) := by
  refine .next (bs := [.lines, .offers, .notices]) ?_ hs g
  unfold State.endFrame
  try dsimp only
  repeat' first
    | (with_reducible exact OnlyChanges.refl _ _)
    | decide
    | (with_reducible apply State.setOffers_only)
    | (with_reducible apply State.setSlot_only)
    | (with_reducible apply State.leaveQueue_only)
    | (with_reducible apply State.setLine_only)
    | (with_reducible apply OnlyChanges.ite)
    | (intro e; first | rfl | (split <;> rfl))
    | rfl
    | split

theorem State.endMiss_only (s : State) (z : Nat) (hs : [.lines] ⊆ bs)
    (g : OnlyChanges bs s0 s) : OnlyChanges bs s0 (s.endMiss z) := by
  refine .next (bs := [.lines]) ?_ hs g
  unfold State.endMiss
  try dsimp only
  repeat' first
    | (with_reducible exact OnlyChanges.refl _ _)
    | decide
    | (with_reducible apply State.setLine_only)
    | (with_reducible apply OnlyChanges.ite)
    | (intro e; first | rfl | (split <;> rfl))
    | rfl
    | split

theorem State.loseCandidate_only (s : State) (d slot : Nat) (b : Bool) (hs : placementParts ⊆ bs)
    (g : OnlyChanges bs s0 s) : OnlyChanges bs s0 (s.loseCandidate d slot b) := by
  refine .next (bs := placementParts) ?_ hs g
  unfold State.loseCandidate
  try dsimp only
  repeat' first
    | (with_reducible exact OnlyChanges.refl _ _)
    | decide
    | (with_reducible apply State.raise_only)
    | (with_reducible apply State.requestRelease_only)
    | (with_reducible apply State.appendReseat_only)
    | (with_reducible apply State.displace_only)
    | (with_reducible apply OnlyChanges.ite)
    | (intro e; first | rfl | (split <;> rfl))
    | rfl
    | split

theorem State.loseSeat_only (s : State) (d : Nat) (hs : (.seatLinks :: placementParts) ⊆ bs)
    (g : OnlyChanges bs s0 s) : OnlyChanges bs s0 (s.loseSeat d) := by
  refine .next (bs := (.seatLinks :: placementParts)) ?_ hs g
  unfold State.loseSeat
  try dsimp only
  repeat' first
    | (with_reducible exact OnlyChanges.refl _ _)
    | decide
    | (with_reducible apply State.failOffer_only)
    | (with_reducible apply State.loseCandidate_only)
    | (with_reducible apply State.setSeat_link_only)
    | (with_reducible apply OnlyChanges.ite)
    | (intro e; first | rfl | (split <;> rfl))
    | rfl
    | split

theorem State.goDown_only (s : State) (z u : Nat) (hs : ([.linkStates, .seatLinks] ++ placementParts) ⊆ bs)
    (g : OnlyChanges bs s0 s) : OnlyChanges bs s0 (s.goDown z u) := by
  refine .next (bs := ([.linkStates, .seatLinks] ++ placementParts)) ?_ hs g
  unfold State.goDown
  try dsimp only
  repeat' first
    | (with_reducible exact OnlyChanges.refl _ _)
    | decide
    | (with_reducible apply State.raise_only)
    | (with_reducible apply State.loseSeat_only)
    | (with_reducible apply State.setLinkRecord_state_only)
    | (with_reducible apply OnlyChanges.ite)
    | (intro e; first | rfl | (split <;> rfl))
    | rfl
    | split

theorem State.countMiss_only (s : State) (z u : Nat) (hs : ([.linkStates, .seatLinks] ++ placementParts) ⊆ bs)
    (g : OnlyChanges bs s0 s) : OnlyChanges bs s0 (s.countMiss z u) := by
  refine .next (bs := ([.linkStates, .seatLinks] ++ placementParts)) ?_ hs g
  unfold State.countMiss
  try dsimp only
  repeat' first
    | (with_reducible exact OnlyChanges.refl _ _)
    | decide
    | (with_reducible apply State.goDown_only)
    | (with_reducible apply State.setLinkRecord_only)
    | (with_reducible apply OnlyChanges.ite)
    | (intro e; first | rfl | (split <;> rfl))
    | rfl
    | split

theorem State.regainSeat_only (s : State) (d : Nat) (hs : [.seats, .seatLinks, .reseats] ⊆ bs)
    (g : OnlyChanges bs s0 s) : OnlyChanges bs s0 (s.regainSeat d) := by
  refine .next (bs := [.seats, .seatLinks, .reseats]) ?_ hs g
  unfold State.regainSeat
  try dsimp only
  repeat' first
    | (with_reducible exact OnlyChanges.refl _ _)
    | decide
    | (with_reducible apply State.retryStranded_only)
    | (with_reducible apply State.setSeat_link_only)
    | (with_reducible apply OnlyChanges.ite)
    | (intro e; first | rfl | (split <;> rfl))
    | rfl
    | split

theorem State.handResync_only (s : State) (z u : Nat) (hs : tellingParts ⊆ bs)
    (g : OnlyChanges bs s0 s) : OnlyChanges bs s0 (s.handResync z u) := by
  refine .next (bs := tellingParts) ?_ hs g
  unfold State.handResync
  try dsimp only
  repeat' first
    | (with_reducible exact OnlyChanges.refl _ _)
    | decide
    | (with_reducible apply State.hand_only)
    | (with_reducible apply OnlyChanges.ite)
    | (intro e; first | rfl | (split <;> rfl))
    | rfl
    | split

theorem State.goUp_only (s : State) (z u : Nat) (hs : answerParts ⊆ bs)
    (g : OnlyChanges bs s0 s) : OnlyChanges bs s0 (s.goUp z u) := by
  refine .next (bs := answerParts) ?_ hs g
  unfold State.goUp
  try dsimp only
  repeat' first
    | (with_reducible exact OnlyChanges.refl _ _)
    | decide
    | (with_reducible apply State.raise_only)
    | (with_reducible apply State.regainSeat_only)
    | (with_reducible apply State.handResync_only)
    | (with_reducible apply State.setLinkRecord_state_only)
    | (with_reducible apply OnlyChanges.ite)
    | (intro e; first | rfl | (split <;> rfl))
    | rfl
    | split

theorem State.countGood_only (s : State) (z u : Nat) (hs : answerParts ⊆ bs)
    (g : OnlyChanges bs s0 s) : OnlyChanges bs s0 (s.countGood z u) := by
  refine .next (bs := answerParts) ?_ hs g
  unfold State.countGood
  try dsimp only
  repeat' first
    | (with_reducible exact OnlyChanges.refl _ _)
    | decide
    | (with_reducible apply State.goUp_only)
    | (with_reducible apply State.setLinkRecord_only)
    | (with_reducible apply OnlyChanges.ite)
    | (intro e; first | rfl | (split <;> rfl))
    | rfl
    | split

theorem State.showCandidate_only (s : State) (d slot : Nat) (x : Nat → Nat → Shown) (hs : tellingParts ⊆ bs)
    (g : OnlyChanges bs s0 s) : OnlyChanges bs s0 (s.showCandidate d slot x) := by
  refine .next (bs := tellingParts) ?_ hs g
  unfold State.showCandidate
  try dsimp only
  repeat' first
    | (with_reducible exact OnlyChanges.refl _ _)
    | decide
    | (with_reducible apply State.hand_only)
    | (with_reducible apply State.showSeat_only)
    | (with_reducible apply OnlyChanges.ite)
    | (intro e; first | rfl | (split <;> rfl))
    | rfl
    | split

theorem State.joinSeat_only (s : State) (d : Nat) (c : CapSet) (hs : placementParts ⊆ bs)
    (g : OnlyChanges bs s0 s) : OnlyChanges bs s0 (s.joinSeat d c) := by
  refine .next (bs := placementParts) ?_ hs g
  unfold State.joinSeat
  try dsimp only
  repeat' first
    | (with_reducible exact OnlyChanges.refl _ _)
    | decide
    | (with_reducible apply State.queueClock_only)
    | (with_reducible apply State.showSeat_only)
    | (with_reducible apply State.retryStranded_only)
    | (with_reducible apply State.failOffer_only)
    | (with_reducible apply State.showCandidate_only)
    | (with_reducible apply State.setSeat_only <;> first | decide | (with_reducible exact rfl) | skip)
    | (with_reducible apply OnlyChanges.ite)
    | (intro e; first | rfl | (split <;> rfl))
    | rfl
    | split

theorem State.deliverJoin_only (s : State) (z u : Nat) (c : CapSet) (hs : placementParts ⊆ bs)
    (g : OnlyChanges bs s0 s) : OnlyChanges bs s0 (s.deliverJoin z u c) := by
  refine .next (bs := placementParts) ?_ hs g
  unfold State.deliverJoin
  try dsimp only
  repeat' first
    | (with_reducible exact OnlyChanges.refl _ _)
    | decide
    | (with_reducible apply State.removeQueued_only)
    | (with_reducible apply State.showTray_only)
    | (with_reducible apply State.joinSeat_only)
    | (with_reducible apply OnlyChanges.ite)
    | (intro e; first | rfl | (split <;> rfl))
    | rfl
    | split

theorem State.joinUnknown_only (s : State) (z u : Nat) (c : CapSet) (hs : ([.linkStates, .seatLinks] ++ placementParts) ⊆ bs)
    (g : OnlyChanges bs s0 s) : OnlyChanges bs s0 (s.joinUnknown z u c) := by
  refine .next (bs := ([.linkStates, .seatLinks] ++ placementParts)) ?_ hs g
  unfold State.joinUnknown
  try dsimp only
  repeat' first
    | (with_reducible exact OnlyChanges.refl _ _)
    | decide
    | (with_reducible apply State.deliverJoin_only)
    | (with_reducible apply State.setSeat_link_only)
    | (with_reducible apply State.setLinkRecord_state_only)
    | (with_reducible apply OnlyChanges.ite)
    | (intro e; first | rfl | (split <;> rfl))
    | rfl
    | split

theorem State.joinKnown_only (s : State) (z u : Nat) (c : CapSet) (hs : ([.linkStates, .seatLinks] ++ placementParts) ⊆ bs)
    (g : OnlyChanges bs s0 s) : OnlyChanges bs s0 (s.joinKnown z u c) := by
  refine .next (bs := ([.linkStates, .seatLinks] ++ placementParts)) ?_ hs g
  unfold State.joinKnown
  try dsimp only
  repeat' first
    | (with_reducible exact OnlyChanges.refl _ _)
    | decide
    | (with_reducible apply State.countGood_only)
    | (with_reducible apply State.deliverJoin_only)
    | (with_reducible apply State.setLinkRecord_only)
    | (with_reducible apply OnlyChanges.ite)
    | (intro e; first | rfl | (split <;> rfl))
    | rfl
    | split

theorem State.takeJoin_only (s : State) (z u : Nat) (k : UnitKind) (c : CapSet) (hs : ([.linkStates, .seatLinks] ++ placementParts) ⊆ bs)
    (g : OnlyChanges bs s0 s) : OnlyChanges bs s0 (s.takeJoin z u k c) := by
  refine .next (bs := ([.linkStates, .seatLinks] ++ placementParts)) ?_ hs g
  unfold State.takeJoin
  try dsimp only
  repeat' first
    | (with_reducible exact OnlyChanges.refl _ _)
    | decide
    | (with_reducible apply State.endGood_only)
    | (with_reducible apply State.countGood_only)
    | (with_reducible apply State.joinUnknown_only)
    | (with_reducible apply State.joinKnown_only)
    | (with_reducible apply OnlyChanges.ite)
    | (intro e; first | rfl | (split <;> rfl))
    | rfl
    | split

end Sys2Proof.Machine
end

