-- ==== Sys2Proof/Laws/FrameTasks.lean ====
section
/-!
SUPPORT. What the operations of the commands change, over those of Frame.lean.
-/

namespace Sys2Proof.Machine

variable {bs : List Part} {s0 : State}

theorem State.withCandidate_only (s : State) (n : Nat) (body : Entry → State) (hs : [.mailbox] ⊆ bs)
    (g : OnlyChanges bs s0 s) (h : ∀ e, OnlyChanges bs s0 (body e)) : OnlyChanges bs s0 (s.withCandidate n body) := by
  unfold State.withCandidate
  repeat' split
  all_goals first | exact State.refuse_only _ _ hs g | exact h _

theorem State.atPort_only (s : State) (t : Task) (body : State → State) (hs : [.mailbox] ⊆ bs)
    (g : OnlyChanges bs s0 s) (h : ∀ u, OnlyChanges bs u (body u)) : OnlyChanges bs s0 (s.atPort t body) := by
  unfold State.atPort
  repeat' split
  · exact State.ignoreWrite_only _ hs g
  · exact (State.startTask_only _ _ hs g).trans (h _)
  · exact State.refuse_only _ _ hs (State.startTask_only _ _ hs g)
  · exact g

theorem State.whileOn_only (s : State) (body : State → State) (g : OnlyChanges bs s0 s)
    (h : ∀ u, OnlyChanges bs u (body u)) : OnlyChanges bs s0 (s.whileOn body) := by
  unfold State.whileOn
  split
  · exact g.trans (h _)
  · exact g

theorem State.named_only (s : State) (n : EntryName) (body : Entry → State) (hs : [.mailbox] ⊆ bs)
    (g : OnlyChanges bs s0 s) (h : ∀ e, OnlyChanges bs s0 (body e)) : OnlyChanges bs s0 (s.named n body) := by
  unfold State.named
  repeat' split
  all_goals first | exact State.refuse_only _ _ hs g | exact h _ | exact State.withCandidate_only _ _ _ hs g h

theorem State.answer_only (s : State) (z u : Nat) (body : State → State) (hs : tellingParts ⊆ bs)
    (g : OnlyChanges bs s0 s) (h : ∀ v, OnlyChanges bs v (body v)) : OnlyChanges bs s0 (s.answer z u body) := by
  unfold State.answer
  repeat' split
  · exact g
  · exact State.endGood_only _ _ hs g
  · exact (State.endGood_only _ _ hs g).trans (h _)

theorem State.takeEvent_only (s : State) (z u : Nat) (n : Bool) (body : State → State) (hs : answerParts ⊆ bs)
    (g : OnlyChanges bs s0 s) (h : ∀ v, OnlyChanges bs v (body v)) : OnlyChanges bs s0 (s.takeEvent z u n body) := by
  refine State.answer_only s z u _ (fun _ hp => hs ?_) g fun v => ?_
  · revert hp; rename_i p; cases p <;> decide
  · have hc : OnlyChanges bs v (v.countGood z u) := State.countGood_only v z u hs (.refl _ _)
    dsimp only
    split
    · refine OnlyChanges.trans ?_ (h _)
      refine State.setLinkRecord_only _ _ _ _ rfl ?_ hc
      exact fun p hp => hs (by revert hp; cases p <;> decide)
    · exact hc

theorem State.deskEvent_only (s : State) (z u : Nat) (n : Bool) (body : Nat → State → State) (hs : answerParts ⊆ bs)
    (g : OnlyChanges bs s0 s) (h : ∀ d v, OnlyChanges bs v (body d v)) :
    OnlyChanges bs s0 (s.deskEvent z u n body) := by
  refine State.takeEvent_only s z u n _ hs g fun v => ?_
  split
  · exact h _ _
  · exact .refl _ _

theorem State.holdQuietly_only (s : State) (f : Holds → Holds) (hs : [.sittings] ⊆ bs) (g : OnlyChanges bs s0 s) :
    OnlyChanges bs s0 (s.holdQuietly f) := by
  refine .next (bs := [.sittings]) ?_ hs g
  refine ⟨fun p hp => ?_⟩
  cases p <;> first | rfl | (simp at hp; done) | simp [same, State.seat, State.linkRecord, State.line, State.holdQuietly]

theorem State.enrolOne_only (s : State) (k : Nat) (p : EnrolEntry) (hs : [.identities, .entries, .sittings] ⊆ bs)
    (g : OnlyChanges bs s0 s) : OnlyChanges bs s0 (s.enrolOne k p).1 := by
  refine .next (bs := [.identities, .entries, .sittings]) ?_ hs g
  unfold State.enrolOne
  repeat' split
  all_goals first
    | exact OnlyChanges.refl _ _
    | (dsimp only; refine State.modSitting_only _ _ _ ?_ (State.setEntries_only _ _ ?_ (OnlyChanges.refl _ _)) <;> decide)

theorem State.enrolAll_only (s : State) (k : Nat) (l : List EnrolEntry) (hs : [.identities, .entries, .sittings] ⊆ bs)
    (g : OnlyChanges bs s0 s) : OnlyChanges bs s0 (s.enrolAll k l).1 := by
  induction l generalizing s with
  | nil => exact g
  | cons p l ih => exact ih _ (State.enrolOne_only s k p hs g)

theorem State.identify_only (s : State) (t : Nat) (r : Read) (hs : [.batch, .entries, .sittings, .notices] ⊆ bs)
    (g : OnlyChanges bs s0 s) : OnlyChanges bs s0 (s.identify t r).1 := by
  refine .next (bs := [.batch, .entries, .sittings, .notices]) ?_ hs g
  unfold State.identify
  repeat' split
  all_goals first
    | exact OnlyChanges.refl _ _
    | refine State.matchSheet_only _ _ _ ?_ (OnlyChanges.refl _ _) <;> decide
    | refine State.storeRead_only _ _ _ _ ?_ (State.matchSheet_only _ _ _ ?_ (OnlyChanges.refl _ _)) <;> decide

theorem State.reach_only (s : State) (i : HallItem) (b : Bool) (hs : [.owed] ⊆ bs) (g : OnlyChanges bs s0 s)
    (h : ∀ u, OnlyChanges bs u (u.take i)) : OnlyChanges bs s0 (s.reach i b) := by
  unfold State.reach
  split
  · exact (State.settled_only _ _ hs g).trans (h _)
  · exact g

theorem Line.choose_links {l m : Line} (h : l.choose = some m) : m.links = l.links := by
  unfold Line.choose at h
  dsimp only at h
  repeat' split at h
  all_goals first
    | (cases h; rfl)
    | (rw [Option.map_eq_some_iff] at h; obtain ⟨u, -, rfl⟩ := h; rfl)

theorem State.startSlot_only (s : State) (z : Nat) (hs : tellingParts ⊆ bs) (g : OnlyChanges bs s0 s) :
    OnlyChanges bs s0 (s.startSlot z) := by
  refine .next (bs := tellingParts) ?_ hs g
  unfold State.startSlot
  dsimp only
  have hh : OnlyChanges tellingParts s (s.headCheck z) := State.headCheck_only _ _ (by decide) (.refl _ _)
  split
  · split
    · rename_i l hl
      exact State.setLine_only _ _ _ ((Line.choose_links hl).trans rfl) (by decide) hh
    · exact hh
  · exact .refl _ _

theorem State.rebudgetAll_only (s : State) (k w : Nat) (hs : [.entries] ⊆ bs) (g : OnlyChanges bs s0 s) :
    OnlyChanges bs s0 (s.rebudgetAll k w) := by
  refine State.setEntries_map_only s _ (fun e => ?_) hs g
  split <;> rfl

theorem State.wrongEntry_only (s : State) (hs : [.access] ⊆ bs)
    (g : OnlyChanges bs s0 s) : OnlyChanges bs s0 (s.wrongEntry) := by
  refine .next (bs := [.access]) ?_ hs g
  unfold State.wrongEntry
  try dsimp only
  repeat' first
    | (with_reducible exact OnlyChanges.refl _ _)
    | decide
    | (with_reducible apply OnlyChanges.ite)
    | (intro e; first | rfl | (split <;> rfl))
    | rfl
    | split
    | (with_reducible apply only_access)

theorem State.leaveList_only (s : State) (slot : Nat) (hs : [.run] ⊆ bs)
    (g : OnlyChanges bs s0 s) : OnlyChanges bs s0 (s.leaveList slot) := by
  refine .next (bs := [.run]) ?_ hs g
  unfold State.leaveList
  try dsimp only
  repeat' first
    | (with_reducible exact OnlyChanges.refl _ _)
    | decide
    | (with_reducible apply State.setRun_only)
    | (with_reducible apply State.take_only)
    | (with_reducible apply OnlyChanges.ite)
    | (intro e; first | rfl | (split <;> rfl))
    | rfl
    | split

theorem State.amendAllowance_only (s : State) (slot : Nat) (a : Option Nat) (hs : clockParts ⊆ bs)
    (g : OnlyChanges bs s0 s) : OnlyChanges bs s0 (s.amendAllowance slot a) := by
  refine .next (bs := clockParts) ?_ hs g
  unfold State.amendAllowance
  try dsimp only
  repeat' first
    | (with_reducible exact OnlyChanges.refl _ _)
    | decide
    | (with_reducible apply State.afterRebudget_only)
    | (with_reducible apply State.modEntry_only)
    | (with_reducible apply OnlyChanges.ite)
    | (intro e; first | rfl | (split <;> rfl))
    | rfl
    | split

theorem State.amendRest_only (s : State) (slot : Nat) (a : Option Nat) (hs : [.entries, .lines, .notices] ⊆ bs)
    (g : OnlyChanges bs s0 s) : OnlyChanges bs s0 (s.amendRest slot a) := by
  refine .next (bs := [.entries, .lines, .notices]) ?_ hs g
  unfold State.amendRest
  try dsimp only
  repeat' first
    | (with_reducible exact OnlyChanges.refl _ _)
    | decide
    | (with_reducible apply State.endRest_only)
    | (with_reducible apply State.modEntry_only)
    | (with_reducible apply OnlyChanges.ite)
    | (intro e; first | rfl | (split <;> rfl))
    | rfl
    | split

theorem State.flagSeat_only (s : State) (d : Nat) (b : Bool) (hs : [.seats, .lines, .notices] ⊆ bs)
    (g : OnlyChanges bs s0 s) : OnlyChanges bs s0 (s.flagSeat d b) := by
  refine .next (bs := [.seats, .lines, .notices]) ?_ hs g
  unfold State.flagSeat
  try dsimp only
  repeat' first
    | (with_reducible exact OnlyChanges.refl _ _)
    | decide
    | (with_reducible apply State.showSeat_only)
    | (with_reducible apply State.setSeat_only <;> first | decide | (with_reducible exact rfl) | skip)
    | (with_reducible apply OnlyChanges.ite)
    | (intro e; first | rfl | (split <;> rfl))
    | rfl
    | split

theorem State.startRun_only (s : State) (k : Nat) (hs : [.run, .sittings] ⊆ bs)
    (g : OnlyChanges bs s0 s) : OnlyChanges bs s0 (s.startRun k) := by
  refine .next (bs := [.run, .sittings]) ?_ hs g
  unfold State.startRun
  try dsimp only
  repeat' first
    | (with_reducible exact OnlyChanges.refl _ _)
    | decide
    | (with_reducible apply State.modSitting_only)
    | (with_reducible apply State.setRun_only)
    | (with_reducible apply OnlyChanges.ite)
    | (intro e; first | rfl | (split <;> rfl))
    | rfl
    | split

theorem State.leaveSeat_only (s : State) (e : Entry) (hs : [.seats, .entries, .sittings, .lines, .notices] ⊆ bs)
    (g : OnlyChanges bs s0 s) : OnlyChanges bs s0 (s.leaveSeat e) := by
  refine .next (bs := [.seats, .entries, .sittings, .lines, .notices]) ?_ hs g
  unfold State.leaveSeat
  try dsimp only
  repeat' first
    | (with_reducible exact OnlyChanges.refl _ _)
    | decide
    | (with_reducible apply State.requestRelease_only)
    | (with_reducible apply State.displace_only)
    | (with_reducible apply OnlyChanges.ite)
    | (intro e; first | rfl | (split <;> rfl))
    | rfl
    | split

theorem State.carryMove_only (s : State) (e : Entry) (m : MoveTarget) (hs : placementParts ⊆ bs)
    (g : OnlyChanges bs s0 s) : OnlyChanges bs s0 (s.carryMove e m) := by
  refine .next (bs := placementParts) ?_ hs g
  unfold State.carryMove
  try dsimp only
  repeat' first
    | (with_reducible exact OnlyChanges.refl _ _)
    | decide
    | (with_reducible apply State.appendReseat_only)
    | (with_reducible apply State.retryStranded_only)
    | (with_reducible apply State.makeOffer_only)
    | (with_reducible apply State.checkRun_only)
    | (with_reducible apply State.leaveSeat_only)
    | (with_reducible apply OnlyChanges.ite)
    | (intro e; first | rfl | (split <;> rfl))
    | rfl
    | split

theorem State.failRestart_only (s : State) (d : Nat) (hs : placementParts ⊆ bs)
    (g : OnlyChanges bs s0 s) : OnlyChanges bs s0 (s.failRestart d) := by
  refine .next (bs := placementParts) ?_ hs g
  unfold State.failRestart
  try dsimp only
  repeat' first
    | (with_reducible exact OnlyChanges.refl _ _)
    | decide
    | (with_reducible apply State.failOffer_only)
    | (with_reducible apply OnlyChanges.ite)
    | (intro e; first | rfl | (split <;> rfl))
    | rfl
    | split

theorem State.retellPhases_only (s : State) (z : Nat) (hs : tellingParts ⊆ bs)
    (g : OnlyChanges bs s0 s) : OnlyChanges bs s0 (s.retellPhases z) := by
  refine .next (bs := tellingParts) ?_ hs g
  unfold State.retellPhases
  try dsimp only
  repeat' first
    | (with_reducible exact OnlyChanges.refl _ _)
    | decide
    | (with_reducible apply State.hand_only)
    | (with_reducible apply OnlyChanges.foldl)
    | (with_reducible intro _ _; try dsimp only)
    | (with_reducible apply OnlyChanges.ite)
    | (intro e; first | rfl | (split <;> rfl))
    | rfl
    | split

theorem State.clearLine_only (s : State) (z : Nat) (hs : [.lines] ⊆ bs)
    (g : OnlyChanges bs s0 s) : OnlyChanges bs s0 (s.clearLine z) :=
  State.setQueue_only _ z [] hs (State.giveUp_only s z hs g)

theorem State.redefine_only (s : State) (k : Nat) (d : Definition) (hs : [.sittings, .entries] ⊆ bs)
    (g : OnlyChanges bs s0 s) : OnlyChanges bs s0 (s.redefine k d) := by
  refine .next (bs := [.sittings, .entries]) ?_ hs g
  unfold State.redefine
  try dsimp only
  repeat' first
    | (with_reducible exact OnlyChanges.refl _ _)
    | decide
    | (with_reducible apply State.rebudgetAll_only)
    | (with_reducible apply State.modSitting_only)
    | (with_reducible apply OnlyChanges.ite)
    | (intro e; first | rfl | (split <;> rfl))
    | rfl
    | split

theorem State.defineNew_only (s : State) (k : Nat) (d : Definition) (hs : [.sittings, .bells, .lines, .notices] ⊆ bs)
    (g : OnlyChanges bs s0 s) : OnlyChanges bs s0 (s.defineNew k d) := by
  refine .next (bs := [.sittings, .bells, .lines, .notices]) ?_ hs g
  unfold State.defineNew
  try dsimp only
  repeat' first
    | (with_reducible exact OnlyChanges.refl _ _)
    | decide
    | (with_reducible apply State.changeSitting_only)
    | (with_reducible apply OnlyChanges.ite)
    | (intro e; first | rfl | (split <;> rfl))
    | rfl
    | split

theorem State.holdSitting_only (s : State) (k : Nat) (hs : [.sittings, .bells, .lines, .notices] ⊆ bs)
    (g : OnlyChanges bs s0 s) : OnlyChanges bs s0 (s.holdSitting k) := by
  refine .next (bs := [.sittings, .bells, .lines, .notices]) ?_ hs g
  unfold State.holdSitting
  try dsimp only
  repeat' first
    | (with_reducible exact OnlyChanges.refl _ _)
    | decide
    | (with_reducible apply State.changeSitting_only)
    | (with_reducible apply OnlyChanges.ite)
    | (intro e; first | rfl | (split <;> rfl))
    | rfl
    | split

theorem State.clearHolds_only (s : State) (k : Nat) (hs : [.sittings, .bells, .lines, .notices] ⊆ bs)
    (g : OnlyChanges bs s0 s) : OnlyChanges bs s0 (s.clearHolds k) := by
  refine .next (bs := [.sittings, .bells, .lines, .notices]) ?_ hs g
  unfold State.clearHolds
  try dsimp only
  repeat' first
    | (with_reducible exact OnlyChanges.refl _ _)
    | decide
    | (with_reducible apply State.changeSitting_only)
    | (with_reducible apply OnlyChanges.ite)
    | (intro e; first | rfl | (split <;> rfl))
    | rfl
    | split

theorem State.holdThese_only (s : State) (l : List Nat) (hs : [.mailbox, .sittings, .bells, .lines, .notices] ⊆ bs)
    (g : OnlyChanges bs s0 s) : OnlyChanges bs s0 (s.holdThese l) := by
  refine .next (bs := [.mailbox, .sittings, .bells, .lines, .notices]) ?_ hs g
  unfold State.holdThese
  try dsimp only
  repeat' first
    | (with_reducible exact OnlyChanges.refl _ _)
    | decide
    | (with_reducible apply State.finishTask_only)
    | (with_reducible apply State.holdSitting_only)
    | (with_reducible apply OnlyChanges.foldl)
    | (with_reducible intro _ _; try dsimp only)
    | (with_reducible apply OnlyChanges.ite)
    | (intro e; first | rfl | (split <;> rfl))
    | rfl
    | split

theorem State.resumeThese_only (s : State) (l : List Nat) (hs : [.mailbox, .sittings, .bells, .lines, .notices] ⊆ bs)
    (g : OnlyChanges bs s0 s) : OnlyChanges bs s0 (s.resumeThese l) := by
  refine .next (bs := [.mailbox, .sittings, .bells, .lines, .notices]) ?_ hs g
  unfold State.resumeThese
  try dsimp only
  repeat' first
    | (with_reducible exact OnlyChanges.refl _ _)
    | decide
    | (with_reducible apply State.finishTask_only)
    | (with_reducible apply State.refuse_only)
    | (with_reducible apply State.clearHolds_only)
    | (with_reducible apply OnlyChanges.foldl)
    | (with_reducible intro _ _; try dsimp only)
    | (with_reducible apply OnlyChanges.ite)
    | (intro e; first | rfl | (split <;> rfl))
    | rfl
    | split

theorem State.declareMissing_only (s : State) (slot : Nat) (hs : [.seats, .entries, .sittings, .reseats, .lines, .notices] ⊆ bs)
    (g : OnlyChanges bs s0 s) : OnlyChanges bs s0 (s.declareMissing slot) := by
  refine .next (bs := [.seats, .entries, .sittings, .reseats, .lines, .notices]) ?_ hs g
  unfold State.declareMissing
  try dsimp only
  repeat' first
    | (with_reducible exact OnlyChanges.refl _ _)
    | decide
    | (with_reducible apply State.count_only)
    | (with_reducible apply State.releaseVacated_only)
    | (with_reducible apply State.modEntry_only)
    | (with_reducible apply OnlyChanges.ite)
    | (intro e; first | rfl | (split <;> rfl))
    | rfl
    | split

theorem State.clearSitting_only (s : State) (k : Nat) (hs : ([.identities, .entries, .tags, .keys, .extents, .sittings, .bells, .lines, .notices]) ⊆ bs)
    (g : OnlyChanges bs s0 s) : OnlyChanges bs s0 (s.clearSitting k) := by
  refine .next (bs := ([.identities, .entries, .tags, .keys, .extents, .sittings, .bells, .lines, .notices])) ?_ hs g
  unfold State.clearSitting
  try dsimp only
  repeat' first
    | (with_reducible exact OnlyChanges.refl _ _)
    | decide
    | (with_reducible apply State.setKey_only)
    | (with_reducible apply State.changeSitting_only)
    | (with_reducible apply State.dropExtents_only)
    | (with_reducible apply State.deleteEntry_only)
    | (with_reducible apply OnlyChanges.foldl)
    | (with_reducible intro _ _; try dsimp only)
    | (with_reducible apply OnlyChanges.ite)
    | (intro e; first | rfl | (split <;> rfl))
    | rfl
    | split

theorem State.clearPlacement_only (s : State) (k : Nat) (hs : placementParts ⊆ bs)
    (g : OnlyChanges bs s0 s) : OnlyChanges bs s0 (s.clearPlacement k) := by
  refine .next (bs := placementParts) ?_ hs g
  unfold State.clearPlacement
  try dsimp only
  repeat' first
    | (with_reducible exact OnlyChanges.refl _ _)
    | decide
    | (with_reducible apply State.setReseats_only)
    | (with_reducible apply State.cancelOffer_only)
    | (with_reducible apply State.releaseHeld_only)
    | (with_reducible apply OnlyChanges.foldl)
    | (with_reducible intro _ _; try dsimp only)
    | (with_reducible apply OnlyChanges.ite)
    | (intro e; first | rfl | (split <;> rfl))
    | rfl
    | split

theorem State.adjust_only (s : State) (e : Entry) (a : Int) (hs : clockParts ⊆ bs)
    (g : OnlyChanges bs s0 s) : OnlyChanges bs s0 (s.adjust e a) := by
  refine .next (bs := clockParts) ?_ hs g
  unfold State.adjust
  try dsimp only
  repeat' first
    | (with_reducible exact OnlyChanges.refl _ _)
    | decide
    | (with_reducible apply State.afterRebudget_only)
    | (with_reducible apply State.modEntry_only)
    | (with_reducible apply OnlyChanges.ite)
    | (intro e; first | rfl | (split <;> rfl))
    | rfl
    | split

theorem State.endExpected_only (s : State) (slot : Nat) (hs : clockParts ⊆ bs)
    (g : OnlyChanges bs s0 s) : OnlyChanges bs s0 (s.endExpected slot) := by
  refine .next (bs := clockParts) ?_ hs g
  unfold State.endExpected
  try dsimp only
  repeat' first
    | (with_reducible exact OnlyChanges.refl _ _)
    | decide
    | (with_reducible apply State.endNeed_only)
    | (with_reducible apply State.releaseHeld_only)
    | (with_reducible apply State.checkRun_only)
    | (with_reducible apply State.tellEnd_only)
    | (with_reducible apply State.modEntry_only)
    | (with_reducible apply OnlyChanges.ite)
    | (intro e; first | rfl | (split <;> rfl))
    | rfl
    | split

theorem State.endCandidate_only (s : State) (e : Entry) (hs : clockParts ⊆ bs)
    (g : OnlyChanges bs s0 s) : OnlyChanges bs s0 (s.endCandidate e) := by
  refine .next (bs := clockParts) ?_ hs g
  unfold State.endCandidate
  try dsimp only
  repeat' first
    | (with_reducible exact OnlyChanges.refl _ _)
    | decide
    | (with_reducible apply State.queueClock_only)
    | (with_reducible apply State.endPresent_only)
    | (with_reducible apply State.endDisplaced_only)
    | (with_reducible apply State.endExpected_only)
    | (with_reducible apply OnlyChanges.ite)
    | (intro e; first | rfl | (split <;> rfl))
    | rfl
    | split

theorem State.emptyTray_only (s : State) (u : Nat) (hs : [.entries, .trays, .lines, .notices] ⊆ bs)
    (g : OnlyChanges bs s0 s) : OnlyChanges bs s0 (s.emptyTray u) := by
  refine .next (bs := [.entries, .trays, .lines, .notices]) ?_ hs g
  unfold State.emptyTray
  try dsimp only
  repeat' first
    | (with_reducible exact OnlyChanges.refl _ _)
    | decide
    | (with_reducible apply State.setEntries_map_only)
    | (with_reducible apply State.setTray_only)
    | (with_reducible apply State.setEntries_only)
    | (with_reducible apply State.showTray_only)
    | (with_reducible apply OnlyChanges.ite)
    | (intro e; first | rfl | (split <;> rfl))
    | rfl
    | split

theorem State.loadHeader_only (s : State) (k q : Nat) (a : Option Penalty) (b : Option MultiplePolicy) (c : Option FloorPolicy) (d : Option ReadPolicy) (hs : [.mailbox, .keys] ⊆ bs)
    (g : OnlyChanges bs s0 s) : OnlyChanges bs s0 (s.loadHeader k q a b c d) := by
  refine .next (bs := [.mailbox, .keys]) ?_ hs g
  unfold State.loadHeader
  try dsimp only
  repeat' first
    | (with_reducible exact OnlyChanges.refl _ _)
    | decide
    | (with_reducible apply State.finishTask_only)
    | (with_reducible apply State.refuse_only)
    | (with_reducible apply State.setKey_only)
    | (with_reducible apply OnlyChanges.ite)
    | (intro e; first | rfl | (split <;> rfl))
    | rfl
    | split

theorem State.loadChunk_only (s : State) (k n : Nat) (l : List QuestionParams) (hs : [.mailbox, .keys] ⊆ bs)
    (g : OnlyChanges bs s0 s) : OnlyChanges bs s0 (s.loadChunk k n l) := by
  refine .next (bs := [.mailbox, .keys]) ?_ hs g
  unfold State.loadChunk
  try dsimp only
  repeat' first
    | (with_reducible exact OnlyChanges.refl _ _)
    | decide
    | (with_reducible apply State.finishTask_only)
    | (with_reducible apply State.refuse_only)
    | (with_reducible apply State.setKey_only)
    | (with_reducible apply OnlyChanges.ite)
    | (intro e; first | rfl | (split <;> rfl))
    | rfl
    | split

theorem State.resolveQueries_only (s : State) (e : Entry) (m : MarkRecord) (l : List (Nat × Mark)) (hs : [.entries, .sittings] ⊆ bs)
    (g : OnlyChanges bs s0 s) : OnlyChanges bs s0 (s.resolveQueries e m l) := by
  refine .next (bs := [.entries, .sittings]) ?_ hs g
  unfold State.resolveQueries
  try dsimp only
  repeat' first
    | (with_reducible exact OnlyChanges.refl _ _)
    | decide
    | (with_reducible apply State.countFinal_only)
    | (with_reducible apply State.modEntry_only)
    | (with_reducible apply OnlyChanges.ite)
    | (intro e; first | rfl | (split <;> rfl))
    | rfl
    | split

theorem State.closeWindow_only (s : State) (z : Nat) (f : Frame) (hs : ([.linkStates, .seatLinks] ++ placementParts) ⊆ bs)
    (g : OnlyChanges bs s0 s) : OnlyChanges bs s0 (s.closeWindow z f) := by
  refine .next (bs := ([.linkStates, .seatLinks] ++ placementParts)) ?_ hs g
  unfold State.closeWindow
  try dsimp only
  repeat' first
    | (with_reducible exact OnlyChanges.refl _ _)
    | decide
    | (with_reducible apply State.endMiss_only)
    | (with_reducible apply State.countMiss_only)
    | (with_reducible apply OnlyChanges.ite)
    | (intro e; first | rfl | (split <;> rfl))
    | rfl
    | split

theorem State.issueTag_only (s : State) (slot t : Nat) (hs : [.tags, .entries] ⊆ bs)
    (g : OnlyChanges bs s0 s) : OnlyChanges bs s0 (s.issueTag slot t) := by
  refine .next (bs := [.tags, .entries]) ?_ hs g
  unfold State.issueTag
  try dsimp only
  repeat' first
    | (with_reducible exact OnlyChanges.refl _ _)
    | decide
    | (with_reducible apply State.modEntry_only)
    | (with_reducible apply OnlyChanges.ite)
    | (intro e; first | rfl | (split <;> rfl))
    | rfl
    | split
    | (with_reducible apply only_tags)

theorem State.acceptCheckin_only (s : State) (d : Nat) (e : Entry) (t : Nat) (hs : [.tags, .entries, .seats, .sittings] ⊆ bs)
    (g : OnlyChanges bs s0 s) : OnlyChanges bs s0 (s.acceptCheckin d e t) := by
  refine .next (bs := [.tags, .entries, .seats, .sittings]) ?_ hs g
  unfold State.acceptCheckin
  try dsimp only
  repeat' first
    | (with_reducible exact OnlyChanges.refl _ _)
    | decide
    | (with_reducible apply State.count_only)
    | (with_reducible apply State.requestOccupy_only)
    | (with_reducible apply State.issueTag_only)
    | (with_reducible apply State.modEntry_only)
    | (with_reducible apply OnlyChanges.ite)
    | (intro e; first | rfl | (split <;> rfl))
    | rfl
    | split

theorem State.answerDesk_only (s : State) (d : Nat) (k : EventKind) (n : Nat) (v : DeskVerdict) (hs : tellingParts ⊆ bs)
    (g : OnlyChanges bs s0 s) : OnlyChanges bs s0 (s.answerDesk d k n v) := by
  refine .next (bs := tellingParts) ?_ hs g
  unfold State.answerDesk
  try dsimp only
  repeat' first
    | (with_reducible exact OnlyChanges.refl _ _)
    | decide
    | (with_reducible apply State.hand_only)
    | (with_reducible apply OnlyChanges.ite)
    | (intro e; first | rfl | (split <;> rfl))
    | rfl
    | split

theorem State.checkin_only (s : State) (d n t : Nat) (hs : [.tags, .entries, .seats, .sittings, .lines, .notices] ⊆ bs)
    (g : OnlyChanges bs s0 s) : OnlyChanges bs s0 (s.checkin d n t) := by
  refine .next (bs := [.tags, .entries, .seats, .sittings, .lines, .notices]) ?_ hs g
  unfold State.checkin
  try dsimp only
  repeat' first
    | (with_reducible exact OnlyChanges.refl _ _)
    | decide
    | (with_reducible apply State.queueClock_only)
    | (with_reducible apply State.acceptCheckin_only)
    | (with_reducible apply State.answerDesk_only)
    | (with_reducible apply OnlyChanges.ite)
    | (intro e; first | rfl | (split <;> rfl))
    | rfl
    | split

theorem State.handin_only (s : State) (d n : Nat) (hs : [.entries, .seats, .sittings, .bells, .lines, .notices] ⊆ bs)
    (g : OnlyChanges bs s0 s) : OnlyChanges bs s0 (s.handin d n) := by
  refine .next (bs := [.entries, .seats, .sittings, .bells, .lines, .notices]) ?_ hs g
  unfold State.handin
  try dsimp only
  repeat' first
    | (with_reducible exact OnlyChanges.refl _ _)
    | decide
    | (with_reducible apply State.queueClock_only)
    | (with_reducible apply State.endPresent_only)
    | (with_reducible apply State.answerDesk_only)
    | (with_reducible apply OnlyChanges.ite)
    | (intro e; first | rfl | (split <;> rfl))
    | rfl
    | split

theorem State.restBegin_only (s : State) (d n : Nat) (hs : [.entries, .lines, .notices] ⊆ bs)
    (g : OnlyChanges bs s0 s) : OnlyChanges bs s0 (s.restBegin d n) := by
  refine .next (bs := [.entries, .lines, .notices]) ?_ hs g
  unfold State.restBegin
  try dsimp only
  repeat' first
    | (with_reducible exact OnlyChanges.refl _ _)
    | decide
    | (with_reducible apply State.queueClock_only)
    | (with_reducible apply State.answerDesk_only)
    | (with_reducible apply State.modEntry_only)
    | (with_reducible apply OnlyChanges.ite)
    | (intro e; first | rfl | (split <;> rfl))
    | rfl
    | split

theorem State.restEnd_only (s : State) (d n : Nat) (hs : [.entries, .lines, .notices] ⊆ bs)
    (g : OnlyChanges bs s0 s) : OnlyChanges bs s0 (s.restEnd d n) := by
  refine .next (bs := [.entries, .lines, .notices]) ?_ hs g
  unfold State.restEnd
  try dsimp only
  repeat' first
    | (with_reducible exact OnlyChanges.refl _ _)
    | decide
    | (with_reducible apply State.queueClock_only)
    | (with_reducible apply State.answerDesk_only)
    | (with_reducible apply State.modEntry_only)
    | (with_reducible apply OnlyChanges.ite)
    | (intro e; first | rfl | (split <;> rfl))
    | rfl
    | split

theorem State.countPlaced_only (s : State) (o : Offer) (hs : [.run] ⊆ bs)
    (g : OnlyChanges bs s0 s) : OnlyChanges bs s0 (s.countPlaced o) := by
  refine .next (bs := [.run]) ?_ hs g
  unfold State.countPlaced
  try dsimp only
  repeat' first
    | (with_reducible exact OnlyChanges.refl _ _)
    | decide
    | (with_reducible apply State.setRun_only)
    | (with_reducible apply OnlyChanges.ite)
    | (intro e; first | rfl | (split <;> rfl))
    | rfl
    | split

theorem State.acceptOffer_only (s : State) (o : Offer) (hs : placementParts ⊆ bs)
    (g : OnlyChanges bs s0 s) : OnlyChanges bs s0 (s.acceptOffer o) := by
  refine .next (bs := placementParts) ?_ hs g
  unfold State.acceptOffer
  try dsimp only
  repeat' first
    | (with_reducible exact OnlyChanges.refl _ _)
    | decide
    | (with_reducible apply State.removeOffer_only)
    | (with_reducible apply State.requestPlace_only)
    | (with_reducible apply State.dropOffer_only)
    | (with_reducible apply State.checkRun_only)
    | (with_reducible apply State.showCandidate_only)
    | (with_reducible apply State.countPlaced_only)
    | (with_reducible apply OnlyChanges.ite)
    | (intro e; first | rfl | (split <;> rfl))
    | rfl
    | split

theorem State.refuseOffer_only (s : State) (o : Offer) (c : CapSet) (hs : placementParts ⊆ bs)
    (g : OnlyChanges bs s0 s) : OnlyChanges bs s0 (s.refuseOffer o c) := by
  refine .next (bs := placementParts) ?_ hs g
  unfold State.refuseOffer
  try dsimp only
  repeat' first
    | (with_reducible exact OnlyChanges.refl _ _)
    | decide
    | (with_reducible apply State.failOffer_only)
    | (with_reducible apply State.setSeat_only <;> first | decide | (with_reducible exact rfl) | skip)
    | (with_reducible apply OnlyChanges.ite)
    | (intro e; first | rfl | (split <;> rfl))
    | rfl
    | split

theorem State.refuseSheet_only (s : State) (r : Receiving) (l : List Octet) (v : SheetVerdict) (hs : [.sheet, .batch, .notices] ⊆ bs)
    (g : OnlyChanges bs s0 s) : OnlyChanges bs s0 (s.refuseSheet r l v) := by
  refine .next (bs := [.sheet, .batch, .notices]) ?_ hs g
  unfold State.refuseSheet
  try dsimp only
  repeat' first
    | (with_reducible exact OnlyChanges.refl _ _)
    | decide
    | (with_reducible apply State.decideSheet_only)
    | (with_reducible apply State.freeBuffer_only)
    | (with_reducible apply OnlyChanges.ite)
    | (intro e; first | rfl | (split <;> rfl))
    | rfl
    | split
    | (with_reducible apply only_sheet)

theorem State.keepSheet_only (s : State) (i : Nat) (l : List Octet) (hs : [.sheet] ⊆ bs)
    (g : OnlyChanges bs s0 s) : OnlyChanges bs s0 (s.keepSheet i l) := by
  refine .next (bs := [.sheet]) ?_ hs g
  unfold State.keepSheet
  try dsimp only
  repeat' first
    | (with_reducible exact OnlyChanges.refl _ _)
    | decide
    | (with_reducible apply State.setBuffer_only)
    | (with_reducible apply OnlyChanges.ite)
    | (intro e; first | rfl | (split <;> rfl))
    | rfl
    | split
    | (with_reducible apply only_sheet)

theorem State.handOver_only (s : State) (j : DecodeJob) (hs : sheetParts ⊆ bs)
    (g : OnlyChanges bs s0 s) : OnlyChanges bs s0 (s.handOver j) := by
  refine .next (bs := sheetParts) ?_ hs g
  unfold State.handOver
  try dsimp only
  repeat' first
    | (with_reducible exact OnlyChanges.refl _ _)
    | decide
    | (with_reducible apply State.identify_only)
    | (with_reducible apply State.answerSheet_only)
    | (with_reducible apply OnlyChanges.ite)
    | (intro e; first | rfl | (split <;> rfl))
    | rfl
    | split

theorem State.decoderEvent_only (s : State) (hs : sheetParts ⊆ bs)
    (g : OnlyChanges bs s0 s) : OnlyChanges bs s0 (s.decoderEvent) := by
  refine .next (bs := sheetParts) ?_ hs g
  unfold State.decoderEvent
  try dsimp only
  repeat' first
    | (with_reducible exact OnlyChanges.refl _ _)
    | decide
    | (with_reducible apply State.decoderStep_only)
    | (with_reducible apply State.handOver_only)
    | (with_reducible apply OnlyChanges.ite)
    | (intro e; first | rfl | (split <;> rfl))
    | rfl
    | split

theorem State.findAlarm_only (s : State) (hs : [.power, .sittings] ⊆ bs)
    (g : OnlyChanges bs s0 s) : OnlyChanges bs s0 (s.findAlarm) := by
  refine .next (bs := [.power, .sittings]) ?_ hs g
  unfold State.findAlarm
  try dsimp only
  repeat' first
    | (with_reducible exact OnlyChanges.refl _ _)
    | decide
    | (with_reducible apply State.holdQuietly_only)
    | (with_reducible apply OnlyChanges.ite)
    | (intro e; first | rfl | (split <;> rfl))
    | rfl
    | split
    | (with_reducible apply only_power)

theorem State.setAlarm_only (s : State) (b : Bool) (hs : [.alarm] ⊆ bs)
    (g : OnlyChanges bs s0 s) : OnlyChanges bs s0 (s.setAlarm b) := by
  refine .next (bs := [.alarm]) ?_ hs g
  unfold State.setAlarm
  try dsimp only
  repeat' first
    | (with_reducible exact OnlyChanges.refl _ _)
    | decide
    | (with_reducible apply OnlyChanges.ite)
    | (intro e; first | rfl | (split <;> rfl))
    | rfl
    | split
    | (with_reducible apply only_alarm)

theorem State.assertAlarm_only (s : State) (hs : [.sittings, .bells, .lines, .notices] ⊆ bs)
    (g : OnlyChanges bs s0 s) : OnlyChanges bs s0 (s.assertAlarm) := by
  refine .next (bs := [.sittings, .bells, .lines, .notices]) ?_ hs g
  unfold State.assertAlarm
  try dsimp only
  repeat' first
    | (with_reducible exact OnlyChanges.refl _ _)
    | decide
    | (with_reducible apply State.raise_only)
    | (with_reducible apply State.changeSitting_only)
    | (with_reducible apply OnlyChanges.foldl)
    | (with_reducible intro _ _; try dsimp only)
    | (with_reducible apply OnlyChanges.ite)
    | (intro e; first | rfl | (split <;> rfl))
    | rfl
    | split

theorem State.advanceTime_only (s : State) (hs : [.hallTime] ⊆ bs)
    (g : OnlyChanges bs s0 s) : OnlyChanges bs s0 (s.advanceTime) := by
  refine .next (bs := [.hallTime]) ?_ hs g
  unfold State.advanceTime
  try dsimp only
  repeat' first
    | (with_reducible exact OnlyChanges.refl _ _)
    | decide
    | (with_reducible apply OnlyChanges.ite)
    | (intro e; first | rfl | (split <;> rfl))
    | rfl
    | split
    | (with_reducible apply only_hallTime)

theorem State.takeSecond_only (s : State) (l : List HallItem) (hs : ([.owed, .access] ++ clockParts) ⊆ bs)
    (g : OnlyChanges bs s0 s) : OnlyChanges bs s0 (s.takeSecond l) := by
  refine .next (bs := ([.owed, .access] ++ clockParts)) ?_ hs g
  unfold State.takeSecond
  try dsimp only
  repeat' first
    | (with_reducible exact OnlyChanges.refl _ _)
    | decide
    | (with_reducible apply State.setOwed_only)
    | (with_reducible apply State.take_only)
    | (with_reducible apply OnlyChanges.foldl)
    | (with_reducible intro _ _; try dsimp only)
    | (with_reducible apply OnlyChanges.ite)
    | (intro e; first | rfl | (split <;> rfl))
    | rfl
    | split

theorem State.startNotices_only (s : State) (hs : [.notices] ⊆ bs)
    (g : OnlyChanges bs s0 s) : OnlyChanges bs s0 (s.startNotices) := by
  refine .next (bs := [.notices]) ?_ hs g
  unfold State.startNotices
  try dsimp only
  repeat' first
    | (with_reducible exact OnlyChanges.refl _ _)
    | decide
    | (with_reducible apply State.raise_only)
    | (with_reducible apply OnlyChanges.ite)
    | (intro e; first | rfl | (split <;> rfl))
    | rfl
    | split

theorem State.completeStart_only (s : State) (hs : [.notices, .walks, .power] ⊆ bs)
    (g : OnlyChanges bs s0 s) : OnlyChanges bs s0 (s.completeStart) := by
  refine .next (bs := [.notices, .walks, .power]) ?_ hs g
  unfold State.completeStart
  try dsimp only
  repeat' first
    | (with_reducible exact OnlyChanges.refl _ _)
    | decide
    | (with_reducible apply State.startWalk_only)
    | (with_reducible apply State.startNotices_only)
    | (with_reducible apply OnlyChanges.ite)
    | (intro e; first | rfl | (split <;> rfl))
    | rfl
    | split
    | (with_reducible apply only_notices)
    | (with_reducible apply only_power)

end Sys2Proof.Machine
end

