-- ==== Sys2Proof/Laws/Queue.lean ====
section
/-!
SUPPORT. The outbound queue's operations in the words of Safety.lean: insertion by class, the replacement of a CLOCK,
the entry evicted, the notice of a message given up (R136–R138, R198).
-/

namespace Sys2Proof.Machine

/-- Every queue is cut once, behind its last URGENT entry. -/
theorem exists_urgent_split (q : List QEntry) :
    ∃ l r, q = l ++ r ∧ (∀ y ∈ r, y.urgent = false) ∧ ∀ y, l.getLast? = some y → y.urgent = true := by
  induction q using List.reverseRecOn with
  | nil => exact ⟨[], [], by simp⟩
  | append_singleton q x ih =>
    cases hx : x.urgent with
    | true => exact ⟨q ++ [x], [], by simp, by simp, by simp [hx]⟩
    | false =>
      obtain ⟨l, r, rfl, hr, hl⟩ := ih
      refine ⟨l, r ++ [x], by simp, fun y hy => ?_, hl⟩
      obtain hy | hy := List.mem_append.1 hy
      · exact hr y hy
      · rwa [List.mem_singleton.1 hy]

theorem insertUrgent_append (x : QEntry) {l r : List QEntry} (hr : ∀ y ∈ r, y.urgent = false)
    (hl : ∀ y, l.getLast? = some y → y.urgent = true) : insertUrgent x (l ++ r) = l ++ x :: r := by
  induction l with
  | nil =>
    cases r with
    | nil => rfl
    | cons y r => simp_all [insertUrgent]
  | cons y l ih =>
    have hy : (y.urgent || (l ++ r).any QEntry.urgent) = true := by
      cases l with
      | nil => simp [hl y rfl]
      | cons w l =>
        obtain ⟨v, hv⟩ := Option.ne_none_iff_exists'.1 (show (w :: l).getLast? ≠ none by simp)
        have := hl v (by rw [List.getLast?_cons_cons]; exact hv)
        simp only [List.any_append, Bool.or_eq_true]
        exact .inr (.inl (List.any_eq_true.2 ⟨v, List.mem_of_getLast? hv, this⟩))
    have := ih fun v hv => hl v (by
      cases l with
      | nil => simp at hv
      | cons => simpa using hv)
    simp only [List.cons_append, insertUrgent, hy, if_true, this]

/-- What insertion by class does (R136). -/
theorem insertByClass_inserted (x : QEntry) (q : List QEntry) : insertedByClass x q (insertByClass x q) := by
  refine ⟨fun h => by simp [insertByClass, h], fun h => ?_⟩
  obtain ⟨l, r, rfl, hr, hl⟩ := exists_urgent_split q
  exact ⟨l, r, rfl, by simp [insertByClass, h, insertUrgent_append x hr hl], hr, hl⟩

/-- A queue holds a CLOCK for the unit (R137). -/
theorem any_clockTo (u : Nat) (q : List QEntry) : q.any (clockTo u) = true ↔ u ∈ clockUnits q := by
  unfold clockUnits clockTo
  simp only [List.any_eq_true, List.mem_map, List.mem_filter, Bool.and_eq_true, decide_eq_true_eq]
  exact ⟨fun ⟨x, a, b, c⟩ => ⟨x, ⟨a, c⟩, b⟩, fun ⟨x, ⟨a, c⟩, b⟩ => ⟨x, a, b, c⟩⟩

theorem replaceClock_of_absent {e : QEntry} {q : List QEntry} (h : e.unit ∉ clockUnits q) : replaceClock e q = q := by
  unfold replaceClock
  conv_rhs => rw [← List.map_id q]
  refine List.map_congr_left fun x hx => ?_
  rw [if_neg fun hc => h ((any_clockTo ..).1 (List.any_eq_true.2 ⟨x, hx, hc⟩))]
  rfl

/-- What the replacement of a CLOCK does (R137). -/
theorem replaceClock_append {e y : QEntry} {l r : List QEntry} (hu : y.unit = e.unit) (hc : isClock y.msg = true)
    (h : e.unit ∉ clockUnits (l ++ r)) :
    replaceClock e (l ++ y :: r)
      = l ++ { y with msg := e.msg, urgent := y.urgent || e.urgent, replaced := y.inSlot } :: r := by
  have hl : e.unit ∉ clockUnits l := fun a => h (by simp only [clockUnits, List.filter_append, List.map_append] at a ⊢; simp [a])
  have hr : e.unit ∉ clockUnits r := fun a => h (by simp only [clockUnits, List.filter_append, List.map_append] at a ⊢; simp [a])
  have hs : replaceClock e (l ++ y :: r) = replaceClock e l ++ replaceClock e [y] ++ replaceClock e r := by
    simp [replaceClock]
  rw [hs, replaceClock_of_absent hl, replaceClock_of_absent hr]
  simp [replaceClock, clockTo, hu, hc]

/-- The entry R138 may evict: ORDINARY, and not being sent. -/
theorem evictable_iff (l : Line) (y : QEntry) :
    evictable l y = true ↔ ¬ (y.urgent = true ∨ (y.inSlot = true ∧ ∃ f, l.slot = .sending f)) := by
  unfold evictable Line.sendingNow
  cases y.urgent <;> cases y.inSlot <;> cases l.slot <;> simp

/-- The first member that meets `p`, and the list without it. -/
theorem eraseFirst_append {α : Type} {p : α → Bool} {l r : List α} {y : α} (hl : ∀ w ∈ l, p w = false) (hy : p y = true) :
    eraseFirst p (l ++ y :: r) = l ++ r ∧ (l ++ y :: r).find? p = some y := by
  induction l with
  | nil => simp [eraseFirst, hy]
  | cons a l ih => simp [eraseFirst, hl a (by simp), ih fun w hw => hl w (by simp [hw])]

theorem dropSubject_eq (z : Nat) (y : QEntry) : dropSubject z y.unit y.msg = dropped z y := by
  have hs : seatOf z y.unit = 240 * z + y.unit := by unfold seatOf; rw [Nat.mul_comm]
  have ht : trayOf z y.unit = 8 * z + (y.unit - 240) := by unfold trayOf; rw [Nat.mul_comm]
  have hd : isDesk y.unit = decide (y.unit < 240) := rfl
  have ha : Config.allUnits = 255 := rfl
  unfold dropSubject dropped
  rw [ha, hd, hs, ht]
  cases y.msg <;> simp only [decide_eq_true_eq] <;> rfl

/-- What raising a notice does (R198). -/
theorem State.raise_raised (s : State) (k : NoticeKind) (x : Subject) : s.Raised (s.raise k x) k x := by
  simp [State.Raised, State.raise, State.notice, raised]

end Sys2Proof.Machine
end

