-- ==== Sys2Proof/Laws/Search.lean ====
section
/-!
SUPPORT. The seat search's operations in the words of Safety.lean: neighbours, the extent that covers a seat, the group
of a seat, and whether it fits (R20, R22, R41, R42).
-/

namespace Sys2Proof.Machine

theorem mem_rowNeighbours (d j : Nat) : j ∈ rowNeighbours d ↔ besideInRow d j := by
  unfold rowNeighbours besideInRow columnOf rowOf zoneOf deskOf
  simp only [Config.columns, Config.zoneSeats]
  by_cases h1 : d % 240 % 15 = 0 <;> by_cases h2 : d % 240 % 15 = 15 - 1 <;> simp [h1, h2] <;> omega

theorem mem_columnNeighbours (d j : Nat) : j ∈ columnNeighbours d ↔ besideInColumn d j := by
  unfold columnNeighbours besideInColumn columnOf rowOf zoneOf deskOf
  simp only [Config.columns, Config.zoneSeats, Config.rows]
  by_cases h1 : d % 240 / 15 = 0 <;> by_cases h2 : d % 240 / 15 = 16 - 1 <;> simp [h1, h2] <;> omega

/-- The reservation that covers a seat (R22). -/
theorem State.reserved_iff (s : State) (d : Nat) (o : Owner) :
    s.Reserved d o ↔ ∃ p, s.covering d = some p ∧ p.2.owner = o := by
  unfold State.Reserved State.covering Extent.holds
  cases hf : (s.zoneExtents (zoneOf d)).front <;> cases hb : (s.zoneExtents (zoneOf d)).back <;>
    simp [coversRow, hf, hb] <;> (repeat' split) <;> simp_all

/-- The group of a seat (R41). -/
theorem State.group_eq_some (s : State) (e : Entry) (g d : Nat) :
    s.group e.sitting e.needs d = some g ↔ s.InGroup e g d := by
  unfold State.group State.InGroup
  simp only [State.reserved_iff]
  cases hz : hasZone (s.sitting e.sitting).defn.zones (zoneOf d) <;> simp [hasNeeds]
  cases s.covering d with
  | none => cases (s.sitting e.sitting).defn.confined <;> simp <;> omega
  | some p =>
    obtain ⟨side, x⟩ := p
    cases ho : x.owner with
    | special => by_cases hn : e.needs = {} <;> simp [ho, hn] <;> omega
    | sitting j => by_cases hn : j = e.sitting <;> simp [ho, hn] <;> omega

theorem State.slot_of_entry? {s : State} {p : Nat} {e : Entry} (h : s.entry? p = some e) : e.slot = p := by
  simpa using List.find?_some h

/-- Another candidate of the sitting sits at the seat or is offered it (R42). -/
theorem State.takenBy_iff (s : State) (e : Entry) (j : Nat) :
    s.takenBy e.sitting e.slot j = true
      ↔ ¬ ∀ f, s.sitter? j = some f → f.sitting = e.sitting → f.slot = e.slot := by
  unfold State.takenBy State.sitter?
  cases (s.seat j).tenure with
  | empty => simp
  | vacated => simp
  | offered p | held p | occupied p =>
    cases h : s.entry? p with
    | none => simp [h]
    | some f => have := State.slot_of_entry? h; simp [this, h]; tauto

theorem State.spaced_iff (s : State) (e : Entry) (d : Nat) :
    s.spaced e.sitting e.slot d = true ↔ ∀ j f, forbids (s.sitting e.sitting).defn.spacing d j →
      s.sitter? j = some f → f.sitting = e.sitting → f.slot = e.slot := by
  unfold State.spaced forbids
  have h := s.takenBy_iff e
  cases (s.sitting e.sitting).defn.spacing
  case side =>
    simp only [Bool.not_eq_true', List.any_eq_false, mem_rowNeighbours, h, not_not]
    exact ⟨fun h j f a => h j a f, fun h j a f => h j f a⟩
  case cross =>
    simp only [Bool.not_eq_true', List.any_eq_false, List.mem_append, mem_rowNeighbours, mem_columnNeighbours, h, not_not]
    exact ⟨fun h j f a => h j a f, fun h j a f => h j f a⟩
  all_goals simp

/-- Whether a seat fits (R42). -/
theorem State.fits_iff (s : State) (e : Entry) (d : Nat) : s.fits e d = true ↔ s.Fits e d := by
  unfold State.fits State.Fits
  simp only [Bool.and_eq_true, State.spaced_iff, usable, capsIn, decide_eq_true_eq, Bool.not_eq_true', Bool.or_eq_true]
  obtain ⟨a, b, c, d, f, g⟩ := e.needs
  cases a <;> cases b <;> cases c <;> cases d <;> cases f <;> cases g <;> simp <;> tauto

end Sys2Proof.Machine
end

