-- ==== Sys2Proof/WellFormed.lean ====
section
/-!
DEFINITION. The commands whose operands fit the fields the spec gives them: the width of a field, the lines and the
addresses of a line, the range of an operand. A value in its field that a task refuses is well formed.
-/

namespace Sys2Proof

/-- A value of one octet. -/
def fitsOctet (v : Nat) : Bool := decide (v < 256)

/-- A value of two octets. -/
def fitsWord (v : Nat) : Bool := decide (v < 65536)

/-- A candidate number's four octets (R204). -/
def fitsNumber (v : Nat) : Bool := decide (v < 4294967296)

/-- A tag's three octets (R204). -/
def fitsTag (v : Nat) : Bool := decide (v < 16777216)

/-- A line and an address of one unit on it (R125). -/
def fitsUnit (z u : Nat) : Bool := decide (z < Config.zones) && decide (u < Config.units)

def fitsLine (z : Nat) : Bool := decide (z < Config.zones)

def EnrolEntry.wf (e : EnrolEntry) : Bool := fitsNumber e.number && fitsOctet e.allowance && fitsWord e.restAllowance

def QuestionParams.wf (p : QuestionParams) : Bool := fitsOctet p.options && fitsOctet p.weight

def EntryName.wf : EntryName → Bool
  | .number n => fitsNumber n
  | .tag t => fitsNumber t

/-- An optional hall time (R74). -/
def fitsTime : Option Nat → Bool
  | some t => decide (t ≤ Config.lastSecond)
  | none => true

def DefineParams.wf (p : DefineParams) : Bool := p.paper.all fitsOctet && fitsTime p.openTime && fitsTime p.startTime

def KeyChunk.wf : KeyChunk → Bool
  | .header q _ _ _ _ => fitsOctet q
  | .questions start entries => fitsOctet start && entries.all QuestionParams.wf
  | .clear => true

/-- An operand of each command fits its field. -/
def Instr.wf : Instr → Bool
  | .areaWrite _ offset _ => decide (offset < Config.areaOctets)
  | .setSignal output _ => fitsOctet output
  | .setLineLimits loss regain => fitsOctet loss && fitsOctet regain
  | .enrol k entries => fitsOctet k && entries.all EnrolEntry.wf
  | .withdraw number | .adjustTime number _ | .endCandidate number | .voidScript number => fitsNumber number
  | .amend number _ allowance rest => fitsNumber number && allowance.all fitsOctet && rest.all fitsWord
  | .lookup name | .readMark name _ => name.wf
  | .list filter _ start => fitsOctet filter && fitsNumber start
  | .seatInfo (.seat d) | .disableSeat d | .enableSeat d => fitsWord d
  | .seatInfo (.zone z) => fitsOctet z
  | .seatInfo .other => true
  | .reserve z _ code owner => fitsOctet z && fitsOctet code && (match owner with
      | .sitting k => fitsOctet k
      | .special => true)
  | .unreserve z _ => fitsOctet z
  | .allocate k | .abortAllocation k | .openNow k | .closeCollection k | .retireSitting k | .sittingInfo k
  | .lockKey k | .releaseResults k => fitsOctet k
  | .move number target => fitsNumber number && (match target with
      | .seat d => fitsWord d
      | .anySeat => true)
  | .restartLine z => fitsOctet z
  | .defineSitting k params => fitsOctet k && params.wf
  | .hold (.one k) | .resume (.one k) => fitsOctet k
  | .hold .all | .resume .all => true
  | .trayInfo tray start => fitsOctet tray && fitsOctet start
  | .clearTray tray | .beginBatch tray => fitsOctet tray
  | .loadKey k chunk => fitsOctet k && chunk.all KeyChunk.wf
  | .amendKey k question _ => fitsOctet k && fitsOctet question
  | .readKey k _ start => fitsOctet k && fitsOctet start
  | .setCalibration selector _ shift offset =>
    fitsOctet selector && fitsOctet shift && decide (-32768 ≤ offset) && decide (offset ≤ 32767)
  | .setThresholds high low margin => fitsWord high && fitsWord low && fitsWord margin
  | .resolveQuery number pairs => fitsNumber number && pairs.all fun p => fitsOctet p.1
  | .resolveDispute number choice => fitsNumber number && fitsOctet choice
  | .manualMark number total => fitsNumber number && decide (-65536 ≤ total) && decide (total ≤ 65535)
  | .hallSecond later => decide later.Nodup
  | .openTime k | .startTime k | .readingEnd k | .lateLimit k | .writingEnd k => decide (k < Config.sittings)
  | .clockExpiry number | .restExhausted number | .warningFire number => fitsNumber number
  | .bellPulseEnd output => decide (output < 4)
  | .slotStart z | .frameSent z | .answerWindowClose z | .linkLoss z => fitsLine z
  | .quiet z u | .join z u _ _ | .linkRegain z u => fitsUnit z u
  | .checkin z u _ number tag => fitsUnit z u && fitsNumber number && fitsTag tag
  | .handin z u _ number | .restBegin z u _ number | .restEnd z u _ number | .offerReplyAccept z u _ number
  | .offerReplyRefuse z u _ number _ => fitsUnit z u && fitsNumber number
  | .help z u _ => fitsUnit z u
  | .tagRead z u _ tag => fitsUnit z u && fitsTag tag
  | .enterLevel _ _ | .leaveLevel | .setPasscode _ _ | .setGrants _ | .readNotices | .saveSettings
  | .settingsWriteEnd _ | .reboot | .setHallTime _ | .endBatch | .batchClose | .offerDeadline | .lockoutEnd
  | .alarmAssert | .alarmRelease | .placementStep | .walkVisit | .sheetBegin | .sheetMessage _ | .sheetGap _
  | .decoderTake | .sheetHandover | .sheetVerdictSend | .coldStart | .resetn | .mainSupplyLoss | .mainSupplyReturn
  | .startupComplete | .standbySupplyLoss | .sheetInputGapSeen => true

end Sys2Proof
end

