-- ==== Sys2Proof/Tests/Slice0.lean ====
section
/-!
SUPPORT. Tests: an ill-formed command for each check of WellFormed, and the spec's worked cases.
-/

namespace Sys2Proof.Tests

open Sys2Proof.Machine

/-! ### Well-formed commands -/

/-- A command whose operand leaves its field is refused. -/
theorem test_wf_refuses_port :
    (Instr.areaWrite .param 128 []).wf = false ∧ (Instr.setSignal 256 none).wf = false
      ∧ (Instr.setLineLimits 256 1).wf = false ∧ (Instr.setLineLimits 1 256).wf = false := by decide

theorem test_wf_refuses_roster :
    (Instr.enrol 256 []).wf = false ∧ (Instr.enrol 0 [⟨4294967296, {}, 0, 0⟩]).wf = false
      ∧ (Instr.enrol 0 [⟨1, {}, 256, 0⟩]).wf = false ∧ (Instr.enrol 0 [⟨1, {}, 0, 65536⟩]).wf = false
      ∧ (Instr.withdraw 4294967296).wf = false ∧ (Instr.amend 4294967296 none none none).wf = false
      ∧ (Instr.amend 1 none (some 256) none).wf = false ∧ (Instr.amend 1 none none (some 65536)).wf = false
      ∧ (Instr.lookup (.number 4294967296)).wf = false ∧ (Instr.lookup (.tag 4294967296)).wf = false
      ∧ (Instr.list 256 .any 0).wf = false ∧ (Instr.list 0 .any 4294967296).wf = false := by decide

theorem test_wf_refuses_seats :
    (Instr.seatInfo (.seat 65536)).wf = false ∧ (Instr.seatInfo (.zone 256)).wf = false
      ∧ (Instr.disableSeat 65536).wf = false ∧ (Instr.enableSeat 65536).wf = false
      ∧ (Instr.reserve 256 none 0 .special).wf = false ∧ (Instr.reserve 0 none 256 .special).wf = false
      ∧ (Instr.reserve 0 none 0 (.sitting 256)).wf = false ∧ (Instr.unreserve 256 none).wf = false
      ∧ (Instr.allocate 256).wf = false ∧ (Instr.move 4294967296 .anySeat).wf = false
      ∧ (Instr.move 1 (.seat 65536)).wf = false ∧ (Instr.restartLine 256).wf = false := by decide

theorem test_wf_refuses_sittings :
    (Instr.defineSitting 256 ⟨[], {}, none, false, none, none, 0, 0, 0, 0, 0, 0, 0⟩).wf = false
      ∧ (Instr.defineSitting 0 ⟨[256], {}, none, false, none, none, 0, 0, 0, 0, 0, 0, 0⟩).wf = false
      ∧ (Instr.defineSitting 0 ⟨[], {}, none, false, some 4294967296, none, 0, 0, 0, 0, 0, 0, 0⟩).wf = false
      ∧ (Instr.defineSitting 0 ⟨[], {}, none, false, none, some 4294967296, 0, 0, 0, 0, 0, 0, 0⟩).wf = false
      ∧ (Instr.hold (.one 256)).wf = false ∧ (Instr.resume (.one 256)).wf = false
      ∧ (Instr.adjustTime 4294967296 0).wf = false ∧ (Instr.trayInfo 256 1).wf = false
      ∧ (Instr.trayInfo 1 256).wf = false ∧ (Instr.clearTray 256).wf = false := by decide

theorem test_wf_refuses_keys :
    (Instr.loadKey 256 none).wf = false ∧ (Instr.loadKey 0 (some (.header 256 none none none none))).wf = false
      ∧ (Instr.loadKey 0 (some (.questions 256 []))).wf = false
      ∧ (Instr.loadKey 0 (some (.questions 1 [⟨256, {}, 1, false⟩]))).wf = false
      ∧ (Instr.loadKey 0 (some (.questions 1 [⟨4, {}, 256, false⟩]))).wf = false
      ∧ (Instr.amendKey 256 1 none).wf = false ∧ (Instr.amendKey 0 256 none).wf = false
      ∧ (Instr.readKey 256 none 1).wf = false ∧ (Instr.readKey 0 none 256).wf = false
      ∧ (Instr.setCalibration 256 0 0 0).wf = false
      ∧ (Instr.setCalibration 0 0 256 0).wf = false ∧ (Instr.setCalibration 0 0 0 (-32769)).wf = false
      ∧ (Instr.setCalibration 0 0 0 32768).wf = false ∧ (Instr.setThresholds 65536 0 0).wf = false
      ∧ (Instr.setThresholds 0 65536 0).wf = false ∧ (Instr.setThresholds 0 0 65536).wf = false := by decide

theorem test_wf_refuses_review :
    (Instr.readMark (.number 4294967296) none).wf = false ∧ (Instr.resolveQuery 4294967296 []).wf = false
      ∧ (Instr.resolveQuery 1 [(256, .blank)]).wf = false ∧ (Instr.resolveDispute 4294967296 1).wf = false
      ∧ (Instr.resolveDispute 1 256).wf = false ∧ (Instr.manualMark 4294967296 0).wf = false
      ∧ (Instr.manualMark 1 (-65537)).wf = false ∧ (Instr.manualMark 1 65536).wf = false := by decide

theorem test_wf_refuses_events :
    (Instr.hallSecond [.lockout, .lockout]).wf = false ∧ (Instr.openTime 16).wf = false
      ∧ (Instr.clockExpiry 4294967296).wf = false ∧ (Instr.bellPulseEnd 4).wf = false
      ∧ (Instr.slotStart 4).wf = false ∧ (Instr.quiet 4 0).wf = false ∧ (Instr.quiet 0 248).wf = false
      ∧ (Instr.checkin 4 0 false 1 1).wf = false ∧ (Instr.checkin 0 0 false 4294967296 1).wf = false
      ∧ (Instr.checkin 0 0 false 1 16777216).wf = false ∧ (Instr.handin 4 0 false 1).wf = false
      ∧ (Instr.handin 0 0 false 4294967296).wf = false ∧ (Instr.help 4 0 false).wf = false
      ∧ (Instr.tagRead 4 240 false 1).wf = false ∧ (Instr.tagRead 0 240 false 16777216).wf = false := by decide

/-! ### The spec's worked cases -/

/-- R85, worked cases: budgets. -/
theorem test_budgets :
    budgetOf 10800 25 0 0 = 13500 ∧ budgetOf 5401 13 0 0 = 6104 ∧ budgetOf 21600 100 14400 0 = 57600
      ∧ budgetOf 3600 0 (-3600) 1500 = 1500 ∧ budgetOf 60 0 (-600) 0 = 0 := by decide

/-- R151, the table of darkness values. -/
theorem test_darkness :
    darkness ⟨17000, 0, -12⟩ 200 = 818 ∧ darkness ⟨17000, 0, -12⟩ 120 = 486 ∧ darkness ⟨65535, 0, 0⟩ 255 = 1023
      ∧ darkness ⟨16384, 0, -100⟩ 10 = 0 ∧ darkness ⟨16384, 1, 0⟩ 255 = 510 := by decide

/-- Chapter 8, the worked decoding of a sheet. -/
theorem test_decoding :
    decode
      { buffer := 0
        calibration := { a := ⟨17000, 0, -12⟩, b := ⟨17000, 0, -12⟩, c := ⟨16384, 0, -10⟩ }
        thresholds := {}
        shape := [4, 4, 4, 4, 2] }
      [[200, 120, 25, 30, 160], [170, 165, 20, 20, 0], [20, 20, 20, 20, 0], [15, 15, 110, 15, 0],
        [10, 200, 180, 20, 0], [0, 0, 0, 190, 0]]
      = { marks := [.option .a, .multiple, .blank, .doubtful, .option .b], strayFill := true, extraRows := true,
          erasures := 1 } := by decide

/-- R169, the table of rounded marks and percents. -/
theorem test_rounding :
    roundedMark 6 = 1 ∧ percentOf 6 480 = 13 ∧ roundedMark 5 = 0 ∧ percentOf 5 480 = 10 ∧ roundedMark (-6) = 0
      ∧ percentOf (-6) 480 = -12 ∧ roundedMark (-7) = -1 ∧ percentOf (-7) 480 = -15
      ∧ roundedMark 57600 = 4800 ∧ percentOf 57600 57600 = 1000 := by decide

/-- Chapter 9, the worked case of a scored sheet: the total 1,512 of a maximum of 2,352. -/
theorem test_scored_sheet : roundedMark 1512 = 126 ∧ percentOf 1512 2352 = 643 ∧ percentOf 1608 2352 = 684 := by decide

/-- R167: the penalties of a question of weight 40 under THIRD and of weight 1 under QUARTER. -/
theorem test_penalties : penaltyOf .third 40 = 160 ∧ penaltyOf .quarter 1 = 3 := by decide

/-- R20: seat 370 is desk 130 of zone 1; seat 517 is desk 37 of zone 2. -/
theorem test_geometry :
    zoneOf 370 = 1 ∧ deskOf 370 = 130 ∧ seatOf 2 37 = 517 ∧ rowNeighbours 15 = [16] ∧ rowNeighbours 14 = [13]
      ∧ columnNeighbours 15 = [0, 30] ∧ trayOf 0 243 = 3 := by decide

/-- R136, R137: an URGENT entry goes behind the last URGENT one; a CLOCK takes the place of the one queued. -/
theorem test_queue_order :
    (insertByClass ⟨255, true, .resync, false, false, false⟩
        [⟨17, true, .withdraw 1, false, false, false⟩, ⟨40, true, .withdraw 2, false, false, false⟩,
          ⟨130, false, .withdraw 3, false, false, false⟩]).map QEntry.unit = [17, 40, 255, 130] := by decide

/-- R124: a frame is received as it was sent, and one bit turned is discarded. -/
theorem test_frame :
    receive (frameBits [37, 0x80, 0xFF]) = some [37, 0x80, 0xFF]
      ∧ receive ((frameBits [37, 0x80, 0xFF]).set 3 true) = none := by decide +kernel

/-- The check of the nine characters 1 to 9 under the CRC-16 of R123. -/
theorem test_crc : ~~~(crc [0x31, 0x32, 0x33, 0x34, 0x35, 0x36, 0x37, 0x38, 0x39]) = 0x906E := by decide +kernel

/-- R204: STEP_FREE in bit 0 through SUPERVISED in bit 5. -/
theorem test_capability_octet :
    capsOctet { edge := true } &&& 0x3F = 0x10 ∧ capsOctet { stepFree := true, supervised := true } &&& 0x3F = 0x21
      ∧ capsOf 0x02 = { power := true } := by
  have h : ∀ x : Octet, (0x10 ||| x &&& 0xC0) &&& 0x3F = 0x10 ∧ (0x21 ||| x &&& 0xC0) &&& 0x3F = 0x21 := by decide +kernel
  exact ⟨(h _).1, (h _).2, by decide⟩

/-- R134, R204: a frame with the taken bit 1, and one with the taken-none marker. -/
theorem test_control_octet :
    controlOctet ⟨5, .msg .resync, some true, false⟩ = 0x49
      ∧ controlOctet ⟨5, .msg .resync, none, false⟩ &&& 0xBF = 0x89 := by
  simp only [controlOctet, unnamedBits]
  generalize Config.layoutOctet _ _ = x
  revert x
  decide +kernel

/-- R127: the part does not transmit while an answer window is open. -/
theorem test_window_silent (f : Frame) (n : Nat) : ({ slot := .window f } : Line).output n = [] := rfl

/-- R165: the amendments of a key in EMPTY. -/
theorem test_amendments_of_empty : amendmentReport {} 1 = .amendments (some .empty) [] false := by decide

/-- R204: a desk's CHECKIN, event number 1, of candidate 99,999,999 with tag 999,999. -/
theorem test_line_command :
    lineCommand 3 (frameBits [239, 0x33, 0xFF, 0xE0, 0xF5, 0x05, 0x3F, 0x42, 0x0F])
      = some (.checkin 3 239 true 99999999 999999) := by decide +kernel

/-- R123: a frame that is given up ends in ten 1s and more. -/
theorem test_abandoned : (Line.giveUp { slot := .sending ⟨0, .poll false, none, false⟩ }).output 2
    = List.replicate 12 true := by decide

/-- R205: an octet between a start bit and a stop bit, its least significant bit first. -/
theorem test_serial_octet :
    serialBits 0xA5 = [false, true, false, true, false, false, true, false, true, true]
      ∧ serialOctet (serialBits 0x5A) = some 0x5A := by decide

/-- R144, R205: only A5h begins a sheet, and a message ends at its length or at a gap. -/
theorem test_sheet_start :
    sheetCommands 20 ([0x5A, 0x00] ++ [0xA5, 7, 1, 0, 0, 0, 9, 9] ++ [0xA5, 8])
      = [.sheetBegin, .sheetMessage [7, 1, 0, 0, 0, 9, 9], .sheetBegin, .sheetGap [8]] := by decide

/-- R194, R206: a write to PARAM at offset 127, and a read of STATUS at offset 4. -/
theorem test_transactions :
    transactionCommand [0x7D, 127, 9] = some (.areaWrite .param 127 [9]) ∧ transactionCommand [0x83, 4] = none
      ∧ (List.range 4).map (State.reset.outputOctet [0x83, 4]) = [some 4, some 0, some 1, some 0] := by decide

/-- R32: a selector that names neither a seat nor a zone. -/
theorem test_selector_range :
    ∃ t, exec (.seatInfo .other) { port := { level := .examiner } } = .next t ∧ t.port.result.code = .badParam :=
  ⟨_, rfl, rfl⟩

/-- R203: the main supply lost after the standby supply leaves the part without power. -/
theorem test_supplies_lost :
    ∃ s t, exec .standbySupplyLoss State.reset = .next s ∧ exec .mainSupplyLoss s = .next t ∧ t.power.power = .off :=
  ⟨_, _, rfl, rfl, rfl⟩

/-- R206: the status word right after reset shows attention, the level NONE and one pending kind. -/
theorem test_status_word :
    State.reset.statusOctet 0 = 4 ∧ State.reset.statusOctet 2 = 0 ∧ State.reset.statusOctet 4 = 1
      ∧ State.reset.statusOctet 7 = 0x1A := by decide

end Sys2Proof.Tests
end

