-- ==== Sys2Proof/Tests/Witnesses.lean ====
section
/-!
SUPPORT. Tests: for each statement with hypotheses, a concrete state and operands that meet those of each of its
clauses, at the boundary of a range where there is one.
-/

namespace Sys2Proof.Tests

open Sys2Proof.Machine

/-! ### Small states -/

/-- A roster entry at the top of its ranges. -/
def who : Entry :=
  { slot := 959, number := 99999999, sitting := 15, needs := {}, allowance := 100, restAllowance := 3600,
    budget := 57600 }

/-- A part at the examiner level with one entry, and sitting 15 as given. -/
def hall (r : Sitting) (e : Entry := who) : State :=
  { port := { level := .examiner }, roster := { entries := [e] }, control := { sittings := [(15, r)] } }

/-- The part of `hall` with seat 959, on address 239 of line 3, as given, and its link UP with its window open after a
POLL or a frame with a body as given. -/
def desk (r : Sitting) (e : Entry) (x : Tenure) (l : LinkRecord := { state := .up, lastTaken := some false })
    (b : Body := .poll false) (u : Nat := 239) : State :=
  { hall r e with
    seatMap := { seats := [(959, { link := l.state, tenure := x })] }
    lines := [(3, { links := [(u, l)], slot := .window ⟨u, b, some false, false⟩ })] }

/-! ### The machine -/

theorem test_front : ({ pending := [.leaveLevel, .reboot] } : State).pending = .leaveLevel :: [.reboot] := by decide

theorem canonical_bare (p : PowerUnit) (q : TaskPort) (h : Table.wf {} q.notices = true) :
    ({ power := p, port := q } : State).Canonical :=
  ⟨h, rfl, rfl, rfl, rfl, rfl, rfl, fun _ => rfl, rfl, rfl⟩

theorem test_frame_hypotheses :
    ({ port := { level := .examiner } } : State).Canonical
      ∧ ∃ t, exec .leaveLevel { port := { level := .examiner } } = .next t :=
  ⟨canonical_bare _ _ rfl, _, rfl⟩

theorem test_port_turns_away :
    let s : State := {}
    let r : State := { port := { running := some 0x06, level := .examiner } }
    (taskOf (.setGrants 63) = some .setGrants ∧ s.Idle ∧ s.permits .setGrants = false)
      ∧ (r.power.power = .on ∧ r.port.running.isSome = true)
      ∧ ({ power := { power := .starting } } : State).power.power ≠ .on := by decide

/-! ### Invariants -/

def question : Question := { loaded := true, options := 5, accepted := { a := true }, weight := 40 }

def amendedKey : Key :=
  { state := .locked
    q := 1
    questions := [(1, { question with void := true })]
    base := [(1, question)]
    revision := 1
    amendments := [{ revision := 1, question := 1, kind := .void }] }

/-- A state that every invariant holds in, with a command waiting: one entry, a locked key with one amendment, a tray
with one script, a unit UP with its seat, and a full row of notices of one kind. -/
def lively : State :=
  { hall { phase := .closed } { who with tag := some 999999, custody := .collected, tray := some 31 } with
    hall := { time := 4294967295 }
    port := { level := .examiner, wrongEntries := 2, lockout := 60, notices := [(19, { count := 255 })] }
    seatMap := { seats := [(959, { link := .up })] }
    trays := [(31, { state := .filling, sitting := some 15, tags := [999999] })]
    lines := [(3, { links := [(239, { state := .up })] })]
    scoring :=
      { keys := [(15, amendedKey)]
        batch := { state := .open, tray := 31, reads := [2], accepted := 255 }
        walk := some ⟨15, none⟩
        walkQueue := [0] }
    pending := [.leaveLevel] }

theorem lively_steps : ∃ t, step lively = .next t := ⟨_, rfl⟩

theorem test_settings_hypotheses : lively.SettingsInRange := by
  have h : ({} : Settings).inRange := by
    refine ⟨by decide, by decide, by decide, by decide, by decide, by decide, by decide, by decide, by decide, by decide, ?_⟩
    intro o
    unfold signalOf
    split <;> rfl
  exact ⟨h, h, fun w hw => by cases hw⟩

theorem read_one {α : Type} (d v : α) (i k : Nat) : Table.read d [(i, v)] k = if i = k then v else d := by
  simp [Table.read]

/-- A part with two candidates of a WRITING sitting under CROSS: one PRESENT at its seat with its clock RUNNING in its last
second, one EXPECTED and offered the seat two desks on in the same row. -/
def seated : State :=
  { hall := { time := 4294967295 }
    port := { level := .examiner }
    roster :=
      { entries :=
          [{ slot := 0, number := 1, sitting := 15, needs := {}, allowance := 100, restAllowance := 3600, budget := 57600,
             used := 57599, restUsed := 3599, resting := true, adjustSum := 14400, seat := some 959, presence := .present,
             clock := .running, tag := some 999999, custody := .issued },
           { slot := 959, number := 99999999, sitting := 15, needs := {}, allowance := 0, restAllowance := 0, budget := 60,
             offer := some 957, clock := .running }]
        tags := [(999999, 0)] }
    seatMap := { seats := [(957, { link := .up, tenure := .offered 959 }), (959, { link := .up, tenure := .occupied 0 })] }
    placement := { offers := [{ seat := 957, slot := 959, purpose := .reseat, origin := none, stage := .sent 5 }] }
    control :=
      { sittings := [(15, { phase := .writing, defn := { zones := { zone3 := true }, spacing := .cross, writing := 60, lateLimit := 60 },
                            elapsed := 59, enrolled := 2, placed := 1, present := 1 })] }
    lines := [(3, { links := [(237, { state := .up }), (239, { state := .up })] })]
    pending := [.leaveLevel] }

theorem seated_steps : ∃ t, step seated = .next t := ⟨_, rfl⟩

theorem seated_seat (d : Nat) : seated.seat d =
    if 957 = d then { link := .up, tenure := .offered 959 } else if 959 = d then { link := .up, tenure := .occupied 0 }
    else {} := by
  simp [State.seat, seated, Table.read]

theorem test_seats_hypotheses : seated.Canonical ∧ seated.RosterOrdered ∧ seated.SeatsAgree := by
  refine ⟨⟨by decide, by decide, by decide, by decide, by decide, by decide, by decide, ?_, by decide, by decide⟩,
    by decide, ?_, ?_, ?_, by decide, ?_, ?_⟩
  · intro z
    simp only [State.line, seated, read_one]
    split <;> decide
  · intro d p h
    rw [seated_seat] at h
    split at h
    · cases h
    · split at h
      · subst_vars; cases h; exact ⟨_, rfl, rfl⟩
      · cases h
  · intro d p h
    rw [seated_seat] at h
    split at h
    · subst_vars; cases h; exact ⟨_, rfl, rfl⟩
    · split at h <;> cases h
  · decide
  · intro k
    simp only [State.sitting, seated, read_one]
    split <;> decide
  · simp [seated, State.places, seatedAs, Entry.lawful, Sitting.admits, State.seat, State.sitting, Table.read]

theorem test_counts_hypotheses : seated.CountsAgree := by
  intro k
  by_cases h : k = 15
  · subst h; decide
  · have h' : ¬ (15 = k) := fun e => h e.symm
    simp [State.sitting, State.tally, State.entriesOf, seated, Table.read, h']

theorem test_clocks_hypotheses : seated.ClocksBounded := by
  simp [State.ClocksBounded, Entry.clockBounded, seated, State.sitting, Table.read, Config.lastBudget,
    Config.lastAdjustSum]

theorem test_spacing_hypotheses : seated.Spaced := by
  have h : ∀ d e, seated.sitter? d = some e → d = 957 ∨ d = 959 := by
    intro d e h
    simp only [State.sitter?, seated_seat] at h
    by_cases a : 957 = d
    · exact .inl a.symm
    · by_cases b : 959 = d
      · exact .inr b.symm
      · simp [a, b] at h
  intro d j e f hd hj _
  obtain rfl | rfl := h d e hd <;> obtain rfl | rfl := h j f hj <;> cases hd <;> decide

theorem test_roster_hypotheses : lively.RosterOrdered := by decide

theorem test_links_hypotheses : lively.LinksAgree := by
  intro z u hu
  simp only [State.seat, State.linkRecord, State.line, lively, read_one, seatOf]
  have hu' : u < 240 := hu
  by_cases hz : z = 3
  · subst hz
    by_cases h : u = 239
    · subst h; rfl
    · have : ¬ (959 = 3 * Config.zoneSeats + u) := by simp only [Config.zoneSeats]; omega
      simp [this, read_one, Ne.symm h]
  · have : ¬ (959 = z * Config.zoneSeats + u) := by simp only [Config.zoneSeats]; omega
    simp [this, Ne.symm hz, Table.read]

theorem test_keys_hypotheses : lively.KeysFaithful := by
  intro k
  by_cases h : k = 15
  · subst h
    refine ⟨fun _ => by decide, by decide, fun i => ?_⟩
    have hq : (lively.key 15).question i = if 1 = i then { question with void := true } else {} := read_one ..
    rw [hq]
    split
    · refine ⟨fun o ho => ?_, by decide⟩
      cases o <;> first | decide | cases ho
    · refine ⟨fun o ho => ?_, by decide⟩
      cases o <;> cases ho
  · have hk : lively.key k = {} := by simp [State.key, lively, read_one, Ne.symm h]
    rw [hk]
    have hx : ({} : Question).lawful := ⟨by intro o; cases o <;> decide, by decide⟩
    exact ⟨by decide, by decide, fun _ => hx⟩

theorem test_trays_hypotheses : lively.TraysLawful := by
  intro u
  simp only [State.tray, lively, read_one]
  split <;> simp [Tray.lawful, Config.trayTags]

theorem test_tables_hypotheses : lively.Canonical := by
  refine ⟨by decide, by decide, by decide, by decide, by decide, by decide, by decide, ?_, by decide, by decide⟩
  intro z
  simp only [State.line, lively, read_one]
  split <;> decide

theorem test_capacity_hypotheses : lively.WithinCapacity := by
  refine ⟨by decide, by decide, by decide, ?_, ?_, ?_, by decide, by decide, by decide, by decide, by decide, by decide,
    by decide, by decide, by decide, by decide, ?_⟩
  · intro k
    cases k <;> decide
  · intro z
    simp only [State.line, lively, read_one]
    split <;> decide
  · intro z
    simp only [State.line, lively, read_one]
    split <;> decide
  · intro w hw
    cases hw
    decide

/-- A part whose line 3 holds a queue and a slot as given. -/
def queueing (q : List QEntry) (x : Slot := .idle) : State := { lines := [(3, { queue := q, slot := x })] }

theorem test_handed_hypotheses :
    let clock (n : Nat) : QEntry := { unit := n, urgent := false, msg := .clock ⟨1, 15, .running, false, false, false, 60, 1, 0⟩ }
    let warn : QEntry := { unit := 239, urgent := false, msg := .warn 1 60 60, inSlot := true }
    let told (n : Nat) : List QEntry := List.replicate n { unit := 247, urgent := true, msg := .resync }
    let sending : Slot := .sending ⟨239, .msg (.warn 1 60 60), none, true⟩
    let q (l : List QEntry) (x : Slot := .idle) : List QEntry := ((queueing l x).line 3).queue
    (q [clock 0, clock 239, warn] = [clock 0] ++ clock 239 :: [warn] ∧ isClock (clock 239).msg = true
        ∧ 239 ∉ clockUnits ([clock 0] ++ [warn]))
      ∧ ((q (told 31)).length < 32 ∧ isClock Msg.resync = false)
      ∧ (isClock (clock 239).msg = true ∧ 239 ∉ clockUnits (q (told 31 ++ [clock 0])))
      ∧ (32 ≤ (q (told 31 ++ [warn])).length ∧ q (told 31 ++ [warn]) = told 31 ++ warn :: []
        ∧ warn.urgent = false ∧ ∀ w ∈ told 31, w.urgent = true)
      ∧ (32 ≤ (q (told 32)).length ∧ ∀ w ∈ q (told 32), w.urgent = true)
      ∧ (32 ≤ (q (told 31 ++ [warn]) sending).length ∧ (∀ w ∈ q (told 31 ++ [warn]) sending, w.urgent = true ∨ w.inSlot = true)
        ∧ ((queueing (told 31 ++ [warn]) sending).line 3).slot = sending)
      ∧ (isOffer (.warn 1 60 60) = false ∧ isOffer (.offer 1 15 {}) = true) := by decide +kernel

theorem test_frames_hypotheses :
    2 ≤ ([0, 0x80] : List Octet).length ∧ (List.replicate 14 0xFF : List Octet).length ≤ 14
      ∧ (255 < 256 ∧ 99999999 < 2 ^ 32 ∧ 999999 < 2 ^ 24) := by decide

/-! ### The task port -/

theorem test_area_write_hypotheses :
    let s := hall {}
    let r : State := { port := { running := some 0x58 } }
    (s.power.power = .on ∧ s.port.running = none ∧ 127 < Config.areaOctets)
      ∧ taskOfCode (0x5D : Octet).toNat = some .releaseResults
      ∧ (taskOfCode (0x5E : Octet).toNat = none ∧ (0x5E : Octet) ≠ 0)
      ∧ (r.power.power = .on ∧ r.port.running.isSome = true)
      ∧ (0x7F : Octet).getLsbD 7 = false ∧ (0x83 : Octet).getLsbD 7 = true := by decide

theorem test_enter_level_hypotheses :
    let s (wrong lockout : Nat) : State :=
      { port := { wrongEntries := wrong, lockout := lockout }, settings := { working := { examinerPasscode := some 7 } } }
    ((s 0 0).Idle ∧ (s 0 0).port.lockout = 0 ∧ (s 0 0).settings.working.invigilatorPasscode = none
        ∧ (s 0 0).settings.working.examinerPasscode = some 7)
      ∧ ((s 1 0).Idle ∧ (s 1 0).port.lockout = 0 ∧ (s 1 0).settings.working.examinerPasscode ≠ none
        ∧ (s 1 0).settings.working.examinerPasscode ≠ some 8 ∧ (s 1 0).port.wrongEntries < 2)
      ∧ ((s 2 0).Idle ∧ 2 ≤ (s 2 0).port.wrongEntries) ∧ ((s 0 60).Idle ∧ 0 < (s 0 60).port.lockout) := by decide

theorem test_access_and_settings_hypotheses :
    let s := hall {}
    s.Idle ∧ s.Ready .setPasscode ∧ s.Ready .setGrants ∧ (63 : Octet).toNat < 64 ∧ 64 ≤ (64 : Octet).toNat
      ∧ s.Ready .setLineLimits ∧ s.Ready .setCalibration ∧ s.Ready .setSignal ∧ badCond (.bell 15) = false
      ∧ s.port.level = .examiner ∧ ({} : State).Idle ∧ ({} : State).port.level ≠ .examiner
      ∧ s.Ready .readNotices := by decide

theorem test_save_settings_hypotheses :
    (hall {}).Ready .saveSettings
      ∧ ({ settings := { writing := some {} } } : State).power.power = .on
      ∧ ({ settings := { writing := some {} } } : State).settings.writing = some {} := by decide

/-! ### Starts -/

theorem test_warm_start_hypotheses :
    let s (p : Power) : State := { power := { power := p }, port := { level := .examiner } }
    ((s .on).Canonical ∧ (s .on).Ready .reboot)
      ∧ ((s .starting).Canonical ∧ (s .starting).power.power = .starting)
      ∧ ((s .standby).Canonical ∧ (s .standby).power.power = .standby) :=
  ⟨⟨canonical_bare _ _ rfl, by decide⟩, ⟨canonical_bare _ _ rfl, rfl⟩, ⟨canonical_bare _ _ rfl, rfl⟩⟩

theorem test_warm_records_hypotheses :
    let r : Run := ⟨15, [959], 1, [], [], 1, 0, 0⟩
    let s : State := { port := { level := .examiner }
                       placement := { run := some r }
                       trays := [(30, { state := .reading, sitting := some 15, tags := [1] }), (31, { state := .reading })] }
    (s.Canonical ∧ s.Ready .reboot ∧ s.placement.run = some r ∧ r.sitting ≠ 14)
      ∧ ((s.tray 0).state ≠ .reading ∧ (s.tray 30).state = .reading ∧ (s.tray 30).tags ≠ []
        ∧ (s.tray 31).state = .reading ∧ (s.tray 31).tags = []) := by
  intro r s
  exact ⟨⟨⟨rfl, rfl, rfl, rfl, rfl, by decide, rfl, fun _ => rfl, rfl, rfl⟩, by decide, rfl, by decide⟩, by decide⟩

theorem test_supplies_hypotheses :
    ∀ p : Power, ({ power := { power := p } } : State).power.power = p := by intro p; rfl

/-! ### The roster -/

theorem test_enrol_hypotheses :
    let s : State := { hall { phase := .reading } with roster := { entries := List.replicate 952 who } }
    s.Ready .enrol ∧ (s.sitting 15).phase = .reading
      ∧ s.roster.entries.length + (List.replicate 8 (⟨1, {}, 255, 65535⟩ : EnrolEntry)).length ≤ Config.slots := by
  decide +kernel

theorem test_withdraw_hypotheses :
    let s := hall {}
    s.Ready .withdraw ∧ s.RosterOrdered ∧ s.byNumber? 99999999 = some who ∧ who.presence = .expected := by decide

theorem test_amend_hypotheses :
    let s := hall {}
    s.Ready .amend ∧ s.RosterOrdered ∧ s.byNumber? 99999999 = some who ∧ who.clock ≠ .ended
      ∧ s.needsRefused who (some { edge := true }) = false ∧ s.needsRefused who none = false := by decide

theorem test_budget_hypotheses :
    (0 : Int) + ((0 * 0 + 99) / 100 : Nat) + (-1) < (0 : Nat)
      ∧ (57600 : Int) < (57601 : Nat) + ((57601 * 0 + 99) / 100 : Nat) + 0
      ∧ ((57600 : Nat) : Int) ≤ (28800 : Nat) + ((28800 * 100 + 99) / 100 : Nat) + 0
      ∧ ((28800 : Nat) : Int) + ((28800 * 100 + 99) / 100 : Nat) + 0 ≤ 57600 := by decide

theorem test_report_hypotheses :
    let s : State := { hall {} { who with tag := some 999999 } with
      roster := { entries := [{ who with tag := some 999999 }], tags := [(999999, 959)] } }
    (s.Ready .lookup ∧ badNumber 99999999 = false ∧ s.byNumber? 99999999 = some { who with tag := some 999999 })
      ∧ (badTag 999999 = false ∧ s.byTag? 999999 = some { who with tag := some 999999 })
      ∧ s.Ready .list ∧ s.Ready .seatInfo ∧ s.Ready .sittingInfo ∧ s.Ready .trayInfo := by decide

theorem test_key_and_mark_report_hypotheses :
    let s := hall { phase := .closed } { who with mark := some { first := [.blank], working := [.blank] } }
    (s.Ready .readKey ∧ beingSat (s.sitting 15).phase = false)
      ∧ (s.Ready .readMark ∧ badNumber 99999999 = false
        ∧ (s.byNumber? 99999999).bind Entry.mark = some { first := [.blank], working := [.blank] }) := by decide

/-! ### The seat map -/

theorem test_seat_map_hypotheses :
    let s : State := { hall { defn := { zones := { zone3 := true } }, phase := .defined } with
      seatMap := { seats := [(958, { tenure := .held 959 })], extents := [(3, { front := some ⟨4, .special⟩ })] } }
    (s.Ready .disableSeat ∧ (s.seat 959).tenure = .empty ∧ (s.seat 958).tenure ≠ .empty ∧ s.Ready .enableSeat)
      ∧ (s.placement.run = none ∧ s.locked .special = false ∧ s.Ready .reserve ∧ badOwner (.sitting 15) = false
        ∧ s.ownerPhaseRefused (.sitting 15) = false ∧ s.ownerMaskLacks 3 (.sitting 15) = false
        ∧ extentOf (s.zoneExtents 3) .back = none
        ∧ extentRows 4 + rowsHeld (extentOf (s.zoneExtents 3) (otherSide .back)) ≤ 16
        ∧ ∀ d ∈ extentSeats 3 .back 4, isOffered (s.seat d).tenure = false ∧ s.heldAgainst (.sitting 15) d = false)
      ∧ (s.Ready .unreserve ∧ extentOf (s.zoneExtents 3) .front = some ⟨4, .special⟩) := by decide +kernel

/-! ### Placement -/

theorem test_run_hypotheses :
    let s := hall { phase := .reading }
    let r : State := { hall { phase := .reading, alloc := .running } with
      placement := { run := some ⟨15, [959], 0, [], [], 0, 0, 0⟩ } }
    (s.Ready .allocate ∧ s.placement.run = none ∧ (s.sitting 15).phase = .reading
        ∧ s.slotsOf 15 (awaitsPlacement 15) ≠ [])
      ∧ ((hall { phase := .opened } { who with presence := .absent }).slotsOf 15 (awaitsPlacement 15) = [])
      ∧ (r.Ready .abortAllocation ∧ r.placement.run = some ⟨15, [959], 0, [], [], 0, 0, 0⟩
        ∧ (r.sitting 15).alloc = .running) := by decide

/-- Two seats of zone 3 with links UP: 959 HELD by the entry, 958 EMPTY; 15 offers outstanding elsewhere. -/
def fifteen : List Offer := (List.range 15).map fun i => ⟨i, i, .reseat, none, .waiting⟩

theorem test_move_hypotheses :
    let e := { who with seat := some 959 }
    let s : State := { hall { defn := { zones := { zone3 := true } } } e with
      seatMap := { seats := [(958, { link := .up }), (959, { link := .up, tenure := .held 959 })] }
      placement := { offers := fifteen } }
    s.Ready .move ∧ s.RosterOrdered ∧ badNumber 99999999 = false ∧ s.byNumber? 99999999 = some e
      ∧ e.presence = .expected ∧ s.placementBusy e = false ∧ e.seat = some 959
      ∧ occupant (s.seat 959).tenure = some e.slot ∧ s.suits e 958 = true
      ∧ s.placement.offers.length < Config.offers ∧ s.placement.reseats.length < Config.reseats := by decide +kernel

theorem test_placement_step_hypotheses :
    let s (seats : List (Nat × Seat)) (e : Entry) (offers : List Offer) : State :=
      { hall { defn := { zones := { zone3 := true } } } e with
        seatMap := { seats := seats }
        placement := { run := some ⟨15, [959], 0, [], [], 0, 0, 0⟩, offers := offers } }
    let r : Reseat := { slot := 959, former := some 959, excluded := none }
    let up : List (Nat × Seat) := [(959, { link := .up })]
    let e := { who with presence := .displaced }
    (Config.offers ≤ (s up who (fifteen ++ [⟨15, 15, .run, none, .waiting⟩])).placement.offers.length)
      ∧ ((s up e fifteen).placement.offers.length < Config.offers ∧ (s up e fifteen).entry? 959 = some e
        ∧ awaitsReseat e = true ∧ (s up e fifteen).searchReseat e r = some 959)
      ∧ (s [] e fifteen).searchReseat e r = none
      ∧ ((s up who fifteen).placement.reseats = [] ∧ (s up who fifteen).entry? 959 = some who
        ∧ awaitsPlacement 15 who = true ∧ ((s up who fifteen).search who fun j => !([] : List Nat).contains j) = some 959)
      ∧ ((s [] who fifteen).search who fun j => !([] : List Nat).contains j) = none := by decide +kernel

/-- A seat that a search may give the entry, as the former seat, and one that it leaves out. -/
theorem test_search_hypotheses :
    let s : State := { hall { defn := { zones := { zone3 := true }, spacing := .cross } } with
      seatMap := { seats := [(959, { link := .up })] } }
    let r (x : Option Nat) : Reseat := { slot := 959, former := some 959, excluded := x }
    ((r none).former = some 959 ∧ (r none).excluded ≠ some 959 ∧ s.Suits who 3 959)
      ∧ ∀ f, ¬ ((r (some 959)).former = some f ∧ (r (some 959)).excluded ≠ some f ∧ ∃ g, s.Suits who g f) := by
  intro s r
  refine ⟨⟨rfl, by decide, by decide, ⟨by decide, .inr (.inr ⟨rfl, ?_, rfl⟩)⟩, by decide, by decide, ?_⟩, ?_⟩
  · rintro o (⟨x, hx, _⟩ | ⟨x, hx, _⟩) <;> cases hx
  · intro j f _ h
    have hs : s.sitter? j = none := by
      simp only [State.sitter?, State.seat, s, read_one]
      by_cases h : 959 = j <;> simp [h]
    rw [hs] at h
    cases h
  · rintro f ⟨h, g, _⟩
    cases h
    exact g rfl

theorem test_offer_reply_hypotheses :
    let e := { who with offer := some 959 }
    let s : State := { desk {} e (.offered 959) with
      placement := { offers := [⟨959, 959, .run, none, .sent 1⟩] } }
    s.Hears 3 239 true ∧ s.matching (seatOf 3 239) 99999999 = some ⟨959, 959, .run, none, .sent 1⟩
      ∧ (s.seat (seatOf 3 239)).tenure = .offered 959 ∧ s.matching (seatOf 3 239) 99999998 = none := by decide

theorem test_restart_line_hypotheses :
    let f : Frame := ⟨239, .poll false, none, false⟩
    let s : State := { port := { level := .examiner }, lines := [(3, { slot := .sending f })] }
    s.Ready .restartLine ∧ s.Canonical ∧ 3 < Config.zones ∧ (s.line 3).slot = .sending f := by
  refine ⟨by decide, ⟨by decide, by decide, by decide, by decide, by decide, by decide, by decide, ?_, by decide,
    by decide⟩, by decide, by decide⟩
  intro z
  simp only [State.line, read_one]
  split <;> decide

theorem test_restarted_queue_hypotheses :
    let sent := seated.placement.offers
    seated.Ready .restartLine ∧ seated.Canonical ∧ seated.SeatsAgree ∧ seated.WithinCapacity
      ∧ sent.Pairwise (fun a b => a.seat < b.seat)
      ∧ (∀ o, o ∈ sent ↔ o ∈ seated.placement.offers ∧ zoneOf o.seat = 3 ∧ o.stage ≠ .waiting)
      ∧ [15].Pairwise (· < ·)
      ∧ ∀ k, k ∈ [15] ↔ k < 16 ∧ hasZone (seated.sitting k).defn.zones 3 = true
        ∧ (seated.sitting k).phase ∈ [Phase.opened, .reading, .writing, .overtime, .collecting] := by
  refine ⟨by decide, test_seats_hypotheses.1, test_seats_hypotheses.2.2, ?_, by decide, ?_, by decide, ?_⟩
  · refine ⟨by decide, by decide, by decide, ?_, ?_, ?_, by decide, by decide, by decide, by decide, by decide,
      by decide, by decide, by decide, by decide, by decide, ?_⟩
    · intro k
      cases k <;> decide
    · intro z
      simp only [State.line, seated, read_one]
      split <;> decide
    · intro z
      simp only [State.line, seated, read_one]
      split <;> decide
    · intro w hw
      cases hw
  · intro o
    refine ⟨fun h => ⟨h, ?_⟩, fun h => h.1⟩
    rw [List.mem_singleton.1 h]
    decide
  · intro k
    simp only [State.sitting, seated, read_one]
    split
    · subst_vars; decide
    · rename_i h; simp [Ne.symm h, hasZone]

/-! ### Sittings -/

/-- A definition at the ends of its ranges, its late limit above its clamp. -/
def params : DefineParams :=
  { paper := [65, 49], zones := { zone3 := true }, spacing := some .cross, confined := true, openTime := some 0,
    startTime := some 4294967295, reading := 65535, writing := 60, lateLimit := 3601, earlyBar := 7201, lastBar := 3601,
    warning1 := 21601, warning2 := 21600 }

theorem test_define_hypotheses :
    let s := hall { phase := .defined }
    s.Ready .defineSitting ∧ badDefinition params = false ∧ params.spacing = some .cross
      ∧ (s.sitting 0).phase = .empty
      ∧ ((s.sitting 15).phase = .defined ∧ (s.sitting 15).alloc ≠ .running
        ∧ s.redefinitionRefused 15
          ⟨[65, 49], { zone3 := true }, .cross, true, some 0, some 4294967295, 3600, 60, 60, 60, 3600, 21600, 21600⟩
            = none) := by decide +kernel

theorem test_open_and_start_hypotheses :
    let s (p : Phase) (reading : Nat) : State := { hall { phase := p, defn :=
        { openTime := some 4294967295, startTime := some 4294967295, reading := reading } } with
      hall := { time := 4294967295, timeSet := true, owed := [.sitting 15] } }
    ((s .defined 0).RosterOrdered ∧ (s .defined 0).Ready .openNow ∧ ((s .defined 0).sitting 15).phase = .defined
        ∧ (s .defined 0).owes (.sitting 15) = true ∧ (s .defined 0).power.power = .on
        ∧ ((s .defined 0).sitting 15).defn.openTime = some 4294967295 ∧ (s .defined 0).hall.timeSet = true
        ∧ 4294967295 ≤ (s .defined 0).hall.time)
      ∧ ((s .opened 1).RosterOrdered ∧ (s .opened 1).Ready .openNow ∧ ((s .opened 1).sitting 15).phase = .opened
        ∧ ((s .opened 1).sitting 15).holds = {} ∧ 0 < ((s .opened 1).sitting 15).defn.reading
        ∧ ((s .opened 0).sitting 15).defn.reading = 0 ∧ (s .opened 0).owes (.sitting 15) = true
        ∧ ((s .opened 0).sitting 15).defn.startTime = some 4294967295 ∧ (s .opened 0).hall.timeSet = true
        ∧ 4294967295 ≤ (s .opened 0).hall.time) := by decide

theorem test_hold_hypotheses :
    let s : State := { hall { phase := .overtime, holds := { alarm := true } } with hall := { alarm := true } }
    let r := hall { phase := .opened, holds := { host := true } }
    (s.Ready .hold ∧ holdPhase (s.sitting 15).phase = true)
      ∧ (s.Ready .resume ∧ (s.sitting 15).holds.alarm = true ∧ s.hall.alarm = true)
      ∧ (r.Ready .resume ∧ holdPhase (r.sitting 15).phase = true ∧ (r.sitting 15).holds.alarm = false ∧ r.hall.alarm = false
        ∧ r.power.power = .on) := by decide

theorem test_close_and_retire_hypotheses :
    let s (p : Phase) := hall { phase := p } { who with custody := .handedIn }
    ((s .collecting).Ready .closeCollection ∧ (s .collecting).RosterOrdered
        ∧ ((s .collecting).sitting 15).phase = .collecting)
      ∧ ((s .released).Ready .retireSitting ∧ (s .released).RosterOrdered ∧ ((s .released).sitting 15).phase = .released
        ∧ (s .released).trayNames 15 = false ∧ (s .released).walkBusy 15 = false)
      ∧ (((s .defined).sitting 15).phase = .defined ∧ ((s .defined).sitting 15).alloc ≠ .running) := by decide

theorem test_hall_time_hypotheses :
    let s (p : Phase) := hall { phase := p }
    let i : State := { port := { level := .invigilator }, settings := { working := { grants := {} } } }
    (i.Idle ∧ i.port.level = .invigilator ∧ i.settings.working.grants.sittingControl = false)
      ∧ ((s .overtime).Ready .setHallTime ∧ ((s .overtime).sitting 15).phase = .overtime)
      ∧ (s .collecting).Ready .setHallTime
      ∧ ∀ k, k < Config.sittings → ((s .collecting).sitting k).phase ≠ .reading
        ∧ ((s .collecting).sitting k).phase ≠ .writing ∧ ((s .collecting).sitting k).phase ≠ .overtime := by decide

/-! ### The hall second -/

theorem test_hall_second_hypotheses :
    let s (n : Nat) := hall { phase := .reading, readingLeft := n }
    ((s 1).power.power = .on ∧ (s 1).hall.owed = [] ∧ ((s 1).sitting 15).phase = .reading ∧ ((s 1).sitting 15).holds = {}
        ∧ ((s 1).sitting 15).readingLeft ≤ 1)
      ∧ 1 < ((s 2).sitting 15).readingLeft
      ∧ ({ power := { power := .starting } } : State).power.power = .starting := by decide

theorem test_phase_end_hypotheses :
    let s (p : Phase) (left elapsed : Nat) (c : ClockPhase) : State :=
      { hall { phase := p, readingLeft := left, elapsed := elapsed, defn := { lateLimit := 60, writing := 60 } }
          { who with clock := c } with hall := { owed := [.sitting 15] } }
    let r := s .reading 1 0 .waiting
    let w := s .writing 0 59 .running
    let o := s .writing 0 59 .ended
    (r.power.power = .on ∧ r.owes (.sitting 15) = true ∧ r.RosterOrdered ∧ (r.sitting 15).holds = {}
        ∧ (r.sitting 15).phase = .reading ∧ (r.sitting 15).readingLeft ≤ 1)
      ∧ (w.power.power = .on ∧ w.owes (.sitting 15) = true ∧ w.RosterOrdered ∧ (w.sitting 15).holds = {}
        ∧ (w.sitting 15).phase = .writing ∧ (w.sitting 15).elapsed + 1 = (w.sitting 15).defn.lateLimit
        ∧ (w.sitting 15).elapsed + 1 = (w.sitting 15).defn.writing ∧ (w.sitting 15).defn.writing ≤ Config.lastSecond
        ∧ w.openClocks 15 = true)
      ∧ (o.owes (.sitting 15) = true ∧ (o.sitting 15).phase = .writing ∧ o.openClocks 15 = false) := by decide

theorem test_clock_event_hypotheses :
    let s (e : Entry) : State :=
      { hall { phase := .writing, defn := { warning1 := 60 } } e with hall := { owed := [.clock 99999999] } }
    let e (used : Nat) (rest : Bool) : Entry := { who with
      presence := .present, clock := .running, resting := rest, used := used, restUsed := 3599 }
    let meets (e : Entry) : Prop := (s e).power.power = .on ∧ (s e).owes (.clock 99999999) = true ∧ (s e).RosterOrdered
      ∧ (s e).byNumber? 99999999 = some e ∧ e.clock = .running ∧ (s e).counting e.sitting = true ∧ e.displacedCause = false
    (meets (e 57599 false) ∧ (e 57599 false).resting = false ∧ (e 57599 false).budget ≤ 57599 + 1)
      ∧ (meets (e 0 true) ∧ (e 0 true).resting = true ∧ (e 0 true).restAllowance ≤ 3599 + 1)
      ∧ (meets (e 57539 false) ∧ 57539 + 1 < (e 57539 false).budget
        ∧ (e 57539 false).budget - (57539 + 1) ≤ ((s (e 57539 false)).sitting 15).defn.warning1
        ∧ (e 57539 false).warned1 = false) := by
  intro s e meets
  simp only [meets]
  decide

theorem test_timer_hypotheses :
    let s : State :=
      { hall := { owed := [.lockout, .bell 3] }
        port := { lockout := 1 }
        control := { bells := [(3, 1)] }
        seatMap := { seats := [(959, { tenure := .offered 959 })] }
        placement := { offers := [⟨959, 959, .run, none, .sent 0⟩] } }
    let n (i : Nat) : State := { s with
      hall := { owed := [.offers] }
      placement := { offers := [⟨958, 958, .run, none, .sent 2⟩, ⟨959, 959, .run, none, .sent i⟩] } }
    (s.power.power = .on ∧ s.owes .lockout = true ∧ s.port.lockout = 1 ∧ s.owes (.bell 3) = true ∧ s.bell 3 = 1)
      ∧ (s.owes .offers = false ∧ (∃ o ∈ s.placement.offers, o.seat = 959 ∧ o.stage = .sent 0)
        ∧ (∀ o ∈ s.placement.offers, o.stage = .sent 0 → 959 ≤ o.seat) ∧ (s.seat 959).tenure = .offered 959)
      ∧ ((n 1).owes .offers = true ∧ ((n 1).seat 959).tenure = .offered 959
        ∧ ∀ o ∈ (n 1).placement.offers, o.stage = .sent 2 ∨ (o.stage = .sent 1 ∧ o.seat = 959))
      ∧ ({ n 1 with hall := {} } : State).owes .offers = false
      ∧ (∀ o ∈ (n 1).placement.offers, o.stage ≠ .sent 0)
      ∧ (({ n 1 with hall := {} } : State).hall.owed = []
        ∧ (∀ i ∈ ({ n 1 with hall := {} } : State).hallItems, i ≠ .offers →
          i ∈ ({ n 1 with hall := {} } : State).hallItems.filter (· != .offers))
        ∧ .offers ∉ ({ n 1 with hall := {} } : State).hallItems.filter (· != .offers)
        ∧ ((n 1).placement.offers.map Offer.seat).Nodup) := by decide

/-! ### A candidate's time, scripts and trays -/

theorem test_time_hypotheses :
    let e := { who with clock := .running, presence := .present, custody := .issued }
    let s := hall { phase := .overtime } e
    s.Ready .adjustTime ∧ s.Ready .endCandidate ∧ s.RosterOrdered ∧ badNumber 99999999 = false
      ∧ s.byNumber? 99999999 = some e ∧ e.clock ≠ .ended := by decide

/-- A script HANDED_IN at tray unit 247 of line 3, tray 31, with its desk's seat still VACATED. -/
def handedIn (r : Tray) (e : Entry := { who with tag := some 999999, custody := .handedIn, seat := some 959 }) : State :=
  { desk { phase := .collecting } e (.vacated 959 999999) (u := 247) with
    roster := { entries := [e], tags := [(999999, 959)] }, trays := [(31, r)] }

theorem test_tag_read_hypotheses :
    let e := { who with tag := some 999999, custody := .handedIn, seat := some 959 }
    let s := handedIn { state := .filling, sitting := some 15, tags := List.range' 1 39 }
    let full := handedIn { state := .full, sitting := some 15, tags := List.range' 1 40 }
    Config.zoneSeats ≤ 247 ∧ (s.Hears 3 247 true ∧ s.RosterOrdered ∧ s.judgeTag (trayOf 3 247) 999999 = .accept
        ∧ s.byTag? 999999 = some e ∧ (s.seat 959).tenure = .vacated e.slot 999999)
      ∧ (full.Hears 3 247 true ∧ full.RosterOrdered ∧ full.judgeTag (trayOf 3 247) 999999 ≠ .accept) := by
  decide +kernel

theorem test_void_and_clear_hypotheses :
    let s (c : Custody) (u : Option Nat) : State :=
      { hall { phase := .closed } { who with tag := some 999999, custody := c, tray := u } with
        roster := { entries := [{ who with tag := some 999999, custody := c, tray := u }], tags := [(999999, 959)] }
        trays := [(31, { state := .done, sitting := some 15, tags := [999999] })] }
    ((s .issued none).RosterOrdered ∧ (s .issued none).Ready .voidScript ∧ voidRefused .issued = false
        ∧ (s .issued none).byNumber? 99999999 = some { who with tag := some 999999, custody := .issued })
      ∧ ((s .marked (some 31)).RosterOrdered ∧ voidRefused .marked = false)
      ∧ ((s .marked (some 31)).Ready .clearTray ∧ ((s .marked (some 31)).tray 31).state = .done
        ∧ ∀ a ∈ ((s .marked (some 31)).tray 31).tags, (s .marked (some 31)).tagMarked a = true) := by decide

/-! ### The desk lines -/

theorem test_slot_hypotheses :
    let s (l : Line) : State := { lines := [(3, l)] }
    let up : Table LinkRecord := [(239, { state := .up })]
    let x : QEntry := { unit := 239, urgent := true, msg := .withdraw 1 }
    let f (u : Nat) : Frame := ⟨u, .poll false, none, false⟩
    let q := s { links := up, queue := [x], slotCount := 13 }
    let r := s { links := up }
    let p := s { links := up, queue := [x], slotCount := 15, probePointer := 239 }
    let w := s { links := up, slot := .window (f 239) }
    let o (t : Bool) : State := { s { links := up, slot := .sending (f 239), queue := [{
        unit := 239, urgent := false, msg := .offer 99999999 15 {}, inSlot := true, transmitted := t }] } with
      placement := { offers := [⟨959, 959, .run, none, .waiting⟩] } }
    (q.power.power = .on ∧ (q.line 3).slot = .idle ∧ (q.line 3).queue = [x] ∧ (q.line 3).undeliverable x = false
        ∧ ((q.line 3).slotCount + 1) % 16 ≠ 0)
      ∧ ((r.line 3).slot = .idle ∧ (r.line 3).queue = [] ∧ ((r.line 3).slotCount + 1) % 16 ≠ 0
        ∧ (r.line 3).nextInRing = some 239)
      ∧ ((p.line 3).slot = .idle ∧ (p.line 3).undeliverable x = false ∧ ((p.line 3).slotCount + 1) % 16 = 0
        ∧ (p.linkRecord 3 ((239 + 1) % Config.units)).state = .unknown
        ∧ ∀ j, j < 1 → (p.linkRecord 3 ((239 + j) % Config.units)).state ≠ .unknown)
      ∧ (((s {}).line 3).queue = [] ∧ ∀ u, u < Config.units → ((s {}).linkRecord 3 u).state = .unknown)
      ∧ (∃ y ∈ ((o false).line 3).queue, y.inSlot = true ∧ isOffer y.msg = true ∧ y.transmitted = false)
      ∧ (∀ y ∈ ((o true).line 3).queue, y.inSlot = true → isOffer y.msg = true → y.transmitted = true)
      ∧ ((s { slot := .sending (f 239) }).line 3).slot = .sending (f 239)
      ∧ ((s { slot := .sending (f 255) }).line 3).slot = .sending (f 255)
      ∧ ((w.line 3).slot = .window (f 239) ∧ isProbe (f 239) = false ∧ (w.linkRecord 3 (f 239).unit).state = .up
        ∧ (w.linkRecord 3 (f 239).unit).misses + 1 < w.settings.working.lossLimit) := by decide +kernel

theorem test_link_hypotheses :
    let f : Frame := ⟨239, .poll false, some false, false⟩
    let s := desk {} { who with presence := .present, seat := some 959 } (.occupied 959) { state := .up, misses := 3 }
    let d := desk {} who (.held 959) { state := .down, goods := 7 }
    (s.power.power = .on ∧ (s.line 3).slot = .window f ∧ f.unit = 239 ∧ isProbe f = false
        ∧ (s.linkRecord 3 239).state = .up ∧ s.settings.working.lossLimit ≤ (s.linkRecord 3 239).misses + 1
        ∧ (s.seat (seatOf 3 239)).tenure = .occupied 959)
      ∧ (d.power.power = .on ∧ (d.line 3).slot = .window f ∧ (d.linkRecord 3 239).state = .down
        ∧ d.settings.working.regainLimit ≤ (d.linkRecord 3 239).goods + 1) := by decide

theorem test_join_hypotheses :
    let f (p : Bool) (u : Nat) : Frame := ⟨u, .poll p, some false, false⟩
    let s := desk {} who .empty {} (.poll true)
    let r := desk {} who .empty { state := .up } (.poll false) 247
    (s.power.power = .on ∧ (s.line 3).slot = .window (f true 239) ∧ (s.linkRecord 3 239).state = .unknown
        ∧ isProbe (f true 239) = true)
      ∧ (r.power.power = .on ∧ (r.line 3).slot = .window (f false 247) ∧ (r.linkRecord 3 247).state = .up
        ∧ isProbe (f false 247) = false ∧ Config.zoneSeats ≤ 247) := by decide

theorem test_checkin_hypotheses :
    let e := { who with seat := some 959 }
    let d := { who with seat := some 959, presence := .displaced, tag := some 999999, custody := .issued }
    let s (e : Entry) := desk { phase := .overtime } e (.held 959)
    ((s e).Hears 3 239 true ∧ (s e).RosterOrdered ∧ (s e).byNumber? 99999999 = some e
        ∧ (s e).judgeCheckin (seatOf 3 239) e 999999 = .accepted ∧ e.presence = .expected)
      ∧ ((s d).Hears 3 239 true ∧ (s d).judgeCheckin (seatOf 3 239) d 999999 = .accepted ∧ d.presence = .displaced)
      ∧ (s d).judgeCheckin (seatOf 3 239) d 1 ≠ .accepted := by decide

theorem test_verdict_hypotheses :
    let s := desk { phase := .reading } who (.held 959)
    let t := handedIn { state := .reading, sitting := some 15, tags := List.range' 1 40 }
    (s.Hears 3 239 true ∧ (s.line 3).queue.length < Config.queued ∧ s.byNumber? 1 = none
        ∧ s.byNumber? 99999999 = some who)
      ∧ (240 ≤ 247 ∧ 247 < Config.units ∧ t.Hears 3 247 true ∧ (t.line 3).queue.length < Config.queued
        ∧ t.judgeTag (trayOf 3 247) 999999 = .trayBusy ∧ t.judgeTag (trayOf 3 247) 0 = .stray) := by decide +kernel

theorem test_handin_and_rest_hypotheses :
    let e := { who with
      seat := some 959, presence := .present, clock := .running, tag := some 999999, custody := .issued, used := 57600 }
    let s := desk { phase := .writing } e (.occupied 959)
    let r := desk { phase := .reading } e (.occupied 959)
    (s.Hears 3 239 true ∧ s.RosterOrdered ∧ s.byNumber? 99999999 = some e
        ∧ s.judgeHandin (seatOf 3 239) e = .accepted ∧ s.judgeRest (seatOf 3 239) e = .accepted
        ∧ s.judgeRestEnd (seatOf 3 239) e = .accepted ∧ (s.notice .help).count = 0)
      ∧ (r.Hears 3 239 true ∧ r.judgeHandin (seatOf 3 239) e ≠ .accepted) := by decide

/-! ### Keys and scoring -/

/-- A part with key 15 as given. -/
def keyed (k : Key) (r : Sitting := {}) (e : Entry := who) : State := { hall r e with scoring := { keys := [(15, k)] } }

theorem test_key_load_hypotheses :
    let s := keyed { state := .loading, q := 120, questions := [(1, question)] }
    let one := keyed { state := .loading, q := 1, questions := [(1, question)] }
    let p : QuestionParams := ⟨2, { b := true }, 41, false⟩
    (s.Ready .loadKey ∧ (s.key 15).state ≠ .locked ∧ (s.key 15).state = .loading ∧ 101 + (List.replicate 20 p).length
        ≤ (s.key 15).q + 1 ∧ ∀ x ∈ List.replicate 20 p,
          2 ≤ x.options ∧ x.options ≤ 5 ∧ x.accepted ≠ ({} : ChoiceSet) ∧ choicesBeyond x.accepted x.options = false)
      ∧ (one.Ready .lockKey ∧ (one.key 15).state = .loading ∧ ((one.key 15).question 1).loaded = true
        ∧ (one.key 15).q = 1) := by decide +kernel

theorem test_amendment_hypotheses :
    let s := keyed { amendedKey with questions := [(1, question)], revision := 30, amendments := [] } { phase := .closed }
    (s.Ready .amendKey ∧ (s.key 15).state = .locked ∧ (s.sitting 15).phase ≠ .released
        ∧ amendOutOfRange (s.key 15) 1 .void = false ∧ (s.key 15).revision < 31
        ∧ ((s.key 15).question 1).void = false ∧ alreadyAccepted ((s.key 15).question 1) .void = false)
      ∧ (amendOutOfRange (s.key 15) 1 (.addAlternative .e) = false
        ∧ alreadyAccepted ((s.key 15).question 1) (.addAlternative .e) = false) := by decide

theorem test_walk_hypotheses :
    let m : MarkRecord := { first := [.blank], working := [.blank], totals := some ⟨0, 480, 0, 0, 0⟩ }
    let e := { who with custody := .marked, mark := some m }
    let s (p : Option Nat) (q : List Nat) : State := { hall { phase := .closed } e with
      scoring := { keys := [(15, amendedKey)], walk := some ⟨15, p⟩, walkQueue := q } }
    ((s none []).power.power = .on ∧ (s none []).RosterOrdered ∧ (s none []).scoring.walk = some ⟨15, none⟩
        ∧ (s none []).nextVisit ⟨15, none⟩ = some e
        ∧ e.mark = some m)
      ∧ ((s (some 99999999) []).nextVisit ⟨15, some 99999999⟩ = none ∧ (s (some 99999999) []).scoring.walkQueue = [])
      ∧ ((s (some 99999999) [0]).nextVisit ⟨15, some 99999999⟩ = none ∧ (s (some 99999999) [0]).scoring.walkQueue = [0]) := by
  decide

theorem test_review_hypotheses :
    let m : MarkRecord :=
      { first := [.doubtful], second := some [.blank], working := [.doubtful], queries := [1] }
    let s (c : Custody) := keyed amendedKey { phase := .closed } { who with custody := c, mark := some m }
    let e (c : Custody) : Entry := { who with custody := c, mark := some m }
    let l : List (Nat × Mark) := [(1, .option .e)]
    ((s .provisional).RosterOrdered ∧ badNumber 99999999 = false
        ∧ (s .provisional).byNumber? 99999999 = some (e .provisional) ∧ (s .provisional).Ready .resolveQuery
        ∧ l ≠ [] ∧ l.length ≤ 8 ∧ (l.map Prod.fst).Nodup
        ∧ ∀ p ∈ l, 1 ≤ p.1 ∧ p.1 ∈ m.queries ∧ badResponse ((s .provisional).key 15) p = false)
      ∧ ((s .disputed).Ready .resolveDispute ∧ (s .disputed).byNumber? 99999999 = some (e .disputed)
        ∧ m.second = some [.blank])
      ∧ ((s .manual).Ready .manualMark ∧ (s .manual).RosterOrdered ∧ (s .manual).byNumber? 99999999 = some (e .manual))
      ∧ ((s .marked).Ready .releaseResults ∧ (s .marked).RosterOrdered ∧ ((s .marked).sitting 15).phase = .closed
        ∧ (s .marked).walkBusy 15 = false ∧ (s .marked).pendingOf 15 = []) := by decide

theorem test_score_hypotheses :
    let k : Key := { state := .locked, q := 120, penalty := .whole, floor := .zero, questions := [(120, question)] }
    let m : MarkRecord := { first := [], working := List.replicate 119 .blank ++ [.option .b] }
    (k.q ≤ 120 ∧ k.floor = .zero ∧ k.floors m.working = true)
      ∧ ({ k with floor := .none } : Key).floors m.working = false
      ∧ ({ k with questions := [] } : Key).maximum = 0 := by decide +kernel

theorem test_question_value_hypotheses :
    let x := { question with options := 4 }
    (({ question with void := true } : Question).void = true ∧ x.void = false)
      ∧ (hasChoice x.accepted .a = true ∧ hasChoice x.accepted .b = false)
      ∧ (({ multiple := .wrong } : Key).multiple = .wrong ∧ ({} : Key).multiple = .zero)
      ∧ (x.lawful ∧ x.options ≤ choiceIndex .e) := by
  refine ⟨by decide, by decide, by decide, ⟨?_, by decide⟩, by decide⟩
  intro o ho
  cases o <;> first | decide | cases ho

/-! ### Sheets and batches -/

theorem test_darkness_hypotheses :
    let t : Thresholds := { high := 1, low := 0 }
    let u : Thresholds := {}
    t.low < t.high ∧ t.high ≤ 1 ∧ 0 ≤ t.low ∧ (u.low < 351 ∧ 599 < u.high) := by decide

theorem test_outcome_hypotheses :
    let t : Thresholds := {}
    t.low < t.high ∧ 1 ≤ t.margin
      ∧ (∀ i, i < 5 → [350, 0, 350, 0, 350].getD i 0 ≤ t.low)
      ∧ ((∀ i, i < 5 → [351, 0, 599, 0, 0].getD i 0 < t.high) ∧ t.low < [351, 0, 599, 0, 0].getD 2 0)
      ∧ (t.high ≤ [0, 600, 0, 350, 0].getD 1 0 ∧ ∀ j, j < 5 → j ≠ 1 → [0, 600, 0, 350, 0].getD j 0 ≤ t.low)
      ∧ (t.high ≤ [0, 800, 600, 0, 0].getD 1 0
        ∧ (∀ j, j < 5 → j ≠ 1 → [0, 800, 600, 0, 0].getD j 0 + t.margin ≤ [0, 800, 600, 0, 0].getD 1 0)
        ∧ t.low < [0, 800, 600, 0, 0].getD 2 0)
      ∧ (t.high ≤ [0, 600, 401, 0, 0].getD 1 0 ∧ (∀ j, j < 5 → j ≠ 1 → [0, 600, 401, 0, 0].getD j 0 < t.high)
        ∧ t.low < [0, 600, 401, 0, 0].getD 2 0 ∧ [0, 600, 401, 0, 0].getD 1 0 < [0, 600, 401, 0, 0].getD 2 0 + t.margin)
      ∧ (t.high ≤ [799, 0, 0, 0, 600].getD 0 0 ∧ [799, 0, 0, 0, 600].getD 0 0 < [799, 0, 0, 0, 600].getD 4 0 + t.margin
        ∧ t.high ≤ [799, 0, 0, 0, 600].getD 4 0
        ∧ ∀ m, m < 5 → [799, 0, 0, 0, 600].getD m 0 ≤ [799, 0, 0, 0, 600].getD 0 0)
      ∧ ({ buffer := 0, calibration := {}, thresholds := {}, shape := [5] } : DecodeJob).thresholds.low < t.high := by
  decide

/-- A sheet of one row with the tag given, its check right. -/
def sheetOf (tag : Nat) : List Octet :=
  let body := [7] ++ octets 3 tag ++ [1, 200, 0, 0, 0, 255]
  body ++ lowFirst (crc body)

theorem test_sheet_hypotheses :
    let s (r : Option Receiving) (b : Table Buffer) : State :=
      { sheet := { ignoring := false, receiving := r, buffers := b, replies := [⟨7, 1, .overrun⟩] } }
    let busy : Table Buffer := [(0, { state := .waiting }), (1, { state := .decoding })]
    (({} : State).power.power = .on ∧ ({} : State).sheet.ignoring = true)
      ∧ ((s none [(0, { state := .waiting })]).sheet.receiving = none
        ∧ ((s none [(0, { state := .waiting })]).buffer 1).state = .free
        ∧ ∀ j, j < 2 → j ≠ 1 → ((s none [(0, { state := .waiting })]).buffer j).state ≠ .free)
      ∧ (((s none []).buffer 0).state = .free ∧ ((s none []).buffer 1).state = .free
        ∧ (s none []).sheet.freed = 0 :: [1])
      ∧ (((s none busy).buffer 0).state ≠ .free ∧ ((s none busy).buffer 1).state ≠ .free)
      ∧ ((s (some (.buffer 1)) [(1, { state := .receiving })]).sheet.receiving = some (.buffer 1)
        ∧ wholeSheet (sheetOf 999999) = true ∧ receptionVerdict (sheetOf 999999) = none
        ∧ wholeSheet (sheetOf 1000000) = true ∧ receptionVerdict (sheetOf 1000000) = some .tagUnreadable
        ∧ cutSheet ((sheetOf 1).take 11) = true)
      ∧ (s (some .overrun) busy).sheet.receiving = some .overrun
      ∧ (s none []).sheet.replies = ⟨7, 1, .overrun⟩ :: [] := by decide +kernel

theorem test_decoder_hypotheses :
    let b (c : BufferState) : Table Buffer := [(1, { state := c, sheet := 7, tag := 999999, rowCount := 1, rows := [[255]] })]
    let job : DecodeJob := { buffer := 1, calibration := {}, thresholds := {}, shape := [5] }
    let s (c : Custody) (a : BatchState) (p : SheetPort) : State := { handedIn
        { state := .reading, sitting := some 15, tags := [999999] } { who with tag := some 999999, custody := c } with
      sheet := p
      scoring := { keys := [(15, amendedKey)], batch := { state := a, tray := 31, reads := [0] } } }
    let w : SheetPort := { buffers := b .waiting, filled := [1] }
    let d : SheetPort := { buffers := b .decoding, filled := [1], job := some job }
    let q (c : Custody) : Prop := (s c .open d).sheet.job = some job
      ∧ (s c .open d).byTag? 999999 = some { who with tag := some 999999, custody := c }
    ((s .collected .none w).power.power = .on ∧ (s .collected .none w).sheet.job = none
        ∧ ((s .collected .none w).sheet.filled.find? fun i => ((s .collected .none w).buffer i).state == .waiting) = some 1
        ∧ (s .collected .none w).scoring.batch.state = .none)
      ∧ ((s .collected .open w).scoring.batch.state = .open
        ∧ ((s .collected .open w).tray (s .collected .open w).scoring.batch.tray).sitting = some 15)
      ∧ (q .void ∧ q .collected ∧ q .readOnce ∧ q .marked ∧ ((s .collected .open d).tray 31).tags.contains 999999 = true)
      ∧ ({ s .collected .open d with roster := {} } : State).byTag? 999999 = none := by
  intro b job s w d q
  simp only [q]
  decide +kernel

/-- A sheet in decode for the last position of a full tray, its script in a custody and with a record as given. -/
def readOf (c : Custody) (m : Option MarkRecord) (r : ReadPolicy) : State :=
  { handedIn { state := .reading, sitting := some 15, tags := List.range' 1 39 ++ [999999] }
      { who with tag := some 999999, custody := c, mark := m } with
    sheet :=
      { buffers := [(1, { state := .decoding, sheet := 7, tag := 999999, rowCount := 1, rows := [[255]] })]
        filled := [1]
        job := some { buffer := 1, calibration := {}, thresholds := {}, shape := [5] } }
    scoring :=
      { keys := [(15, { amendedKey with read := r })]
        batch := { state := .open, tray := 31, reads := List.replicate 40 0 } } }

theorem test_last_position : 999999 ∉ (List.range' 1 39 ++ [999999]).take (40 - 1) := by decide +kernel

theorem test_reads_hypotheses (c : Custody) (m : Option MarkRecord) (r : ReadPolicy) :
    let s := readOf c m r
    (s.power.power = .on ∧ s.RosterOrdered ∧ s.sheet.job.map DecodeJob.buffer = some 1 ∧ (s.buffer 1).tag = 999999)
      ∧ s.byTag? 999999 = some { who with tag := some 999999, custody := c, mark := m }
      ∧ ((s.tray s.scoring.batch.tray).tags[40 - 1]? = some 999999
        ∧ 999999 ∉ (s.tray s.scoring.batch.tray).tags.take (40 - 1))
      ∧ (s.key 15).read = r :=
  ⟨⟨rfl, ⟨by simp [readOf, handedIn], by simp [readOf, handedIn], by simp [readOf, handedIn, who, badNumber,
    Config.slots, Config.lastNumber]⟩, rfl, rfl⟩, rfl, ⟨rfl, test_last_position⟩, rfl⟩

theorem test_differing_reads :
    let l := (decode { buffer := 1, calibration := {}, thresholds := {}, shape := [5] } [[255]]).marks
    (∀ i, i < 3 → (i ∈ [1] ↔ markAt [.blank] i ≠ markAt l i)) ∧ markAt l 1 = .option .a := by decide +kernel

theorem test_batch_hypotheses :
    let s (r : Tray) (b : Batch) (p : SheetPort) : State := { handedIn r with
      sheet := p, scoring := { keys := [(15, amendedKey)], batch := b } }
    let a := s { state := .full, sitting := some 15, tags := List.range' 1 40 } {} {}
    let r : Tray := { state := .reading, sitting := some 15, tags := [999999] }
    let o := s r { state := .open, tray := 31, reads := [0] }
    let waiting : SheetPort := { buffers := [(1, { state := .waiting })], filled := [1] }
    let c := s r { state := .closing, tray := 31, reads := [0] } {}
    let job : DecodeJob := { buffer := 1, calibration := {}, thresholds := {}, shape := [5] }
    let h (owed : List Nat) := s r { state := .closing, tray := 31, reads := [0], owed := owed }
      { buffers := [(1, { state := .decoding, tag := 999999 })], filled := [1], job := some job }
    (a.Ready .beginBatch ∧ a.scoring.batch.state = .none ∧ (a.tray 31).state ≠ .empty ∧ (a.tray 31).state ≠ .reading
        ∧ (a.trayKey 31).state = .locked)
      ∧ ((o waiting).Ready .endBatch ∧ (o waiting).scoring.batch.state = .open ∧ (o waiting).inDecode ≠ [])
      ∧ ((o {}).Ready .endBatch ∧ (o {}).inDecode = [])
      ∧ (c.power.power = .on ∧ c.scoring.batch.state = .closing ∧ c.scoring.batch.owed = [])
      ∧ ((h [1]).scoring.batch.state = .closing ∧ (h [1]).sheet.job = some job ∧ 1 ∈ (h [1]).scoring.batch.owed
        ∧ ∀ i ∈ (h [1]).scoring.batch.owed, i = job.buffer)
      ∧ ((h [0, 1]).scoring.batch.state = .closing ∧ 1 ∈ (h [0, 1]).scoring.batch.owed
        ∧ ∃ i ∈ (h [0, 1]).scoring.batch.owed, i ≠ job.buffer) := by decide +kernel

end Sys2Proof.Tests
end

namespace Sys2Proof.Machine

variable {s t u : State} {p : Nat} {e : Entry}

/-! ### Entries by slot -/

theorem State.mem_of_entry? (h : s.entry? p = some e) : e ∈ s.roster.entries := List.mem_of_find?_eq_some h

/-- With every slot held once, an entry is the one found in its slot (R1). -/
theorem State.entry?_of_mem (hs : s.RosterOrdered) (h : e ∈ s.roster.entries) : s.entry? e.slot = some e := by
  obtain ⟨-, hslots, -⟩ := hs
  unfold State.entry?
  generalize s.roster.entries = l at h hslots
  induction l with
  | nil => cases h
  | cons x l ih =>
    rw [List.map_cons, List.nodup_cons] at hslots
    rcases List.mem_cons.1 h with rfl | h
    · simp
    · have hne : x.slot ≠ e.slot := fun he => hslots.1 (he ▸ List.mem_map_of_mem h)
      simpa [hne] using ih h hslots.2

theorem State.number_of_byNumber? {n : Nat} (h : s.byNumber? n = some e) : e.number = n := by
  simpa using List.find?_some h

theorem State.entry?_of_byNumber? {n : Nat} (hs : s.RosterOrdered) (h : s.byNumber? n = some e) :
    s.entry? e.slot = some e := State.entry?_of_mem hs (List.mem_of_find?_eq_some h)

theorem State.entry?_setEntries_map (g : Entry → Entry) (hg : ∀ e, (g e).slot = e.slot) (q : Nat) :
    (s.setEntries (s.roster.entries.map g)).entry? q = (s.entry? q).map g := by
  simp [State.entry?, List.find?_map, hg]

theorem State.entry?_modEntry (f : Entry → Entry) (hf : ∀ e, (f e).slot = e.slot) (q : Nat) :
    (s.modEntry p f).entry? q = if q = p then (s.entry? q).map f else s.entry? q := by
  unfold State.modEntry
  rw [State.entry?_setEntries_map _ (fun e => by split <;> simp [hf])]
  cases h : s.entry? q with
  | none => simp
  | some e => have := State.slot_of_entry? h; split <;> simp_all

@[simp] theorem State.seat_modEntry (f : Entry → Entry) (d : Nat) : (s.modEntry p f).seat d = s.seat d := rfl
@[simp] theorem State.sitting_modEntry (f : Entry → Entry) (k : Nat) : (s.modEntry p f).sitting k = s.sitting k := rfl
@[simp] theorem State.placement_modEntry (f : Entry → Entry) : (s.modEntry p f).placement = s.placement := rfl
@[simp] theorem State.entry?_setSeat (d : Nat) (v : Seat) (q : Nat) : (s.setSeat d v).entry? q = s.entry? q := rfl
@[simp] theorem State.sitting_setSeat (d : Nat) (v : Seat) (k : Nat) : (s.setSeat d v).sitting k = s.sitting k := rfl
@[simp] theorem State.entry?_setOffers (l : List Offer) (q : Nat) : (s.setOffers l).entry? q = s.entry? q := rfl
@[simp] theorem State.seat_setOffers (l : List Offer) (d : Nat) : (s.setOffers l).seat d = s.seat d := rfl
@[simp] theorem State.sitting_setOffers (l : List Offer) (k : Nat) : (s.setOffers l).sitting k = s.sitting k := rfl
@[simp] theorem State.entry?_modSitting (k : Nat) (f : Sitting → Sitting) (q : Nat) :
    (s.modSitting k f).entry? q = s.entry? q := rfl
@[simp] theorem State.seat_modSitting (k : Nat) (f : Sitting → Sitting) (d : Nat) :
    (s.modSitting k f).seat d = s.seat d := rfl

theorem State.modEntry_identities (f : Entry → Entry) (hf : ∀ e, identity (f e) = identity e) :
    (s.modEntry p f).roster.entries.map identity = s.roster.entries.map identity := by
  simp only [State.modEntry, State.setEntries_roster, List.map_map]
  exact List.map_congr_left fun e _ => by simp only [Function.comp]; split <;> simp [hf]

/-- The order of the roster speaks of the identities alone. -/
theorem State.rosterOrdered_of_identities (h : t.roster.entries.map identity = s.roster.entries.map identity)
    (hs : s.RosterOrdered) : t.RosterOrdered := by
  obtain ⟨hn, hslots, hbounds⟩ := hs
  have hnum : t.roster.entries.map Entry.number = s.roster.entries.map Entry.number := by
    simpa [Function.comp_def, identity] using congrArg (List.map fun x => x.2.1) h
  have hslot : t.roster.entries.map Entry.slot = s.roster.entries.map Entry.slot := by
    simpa [Function.comp_def, identity] using congrArg (List.map fun x => x.1) h
  refine ⟨hnum ▸ hn, hslot ▸ hslots, fun e he => ?_⟩
  have hmem : identity e ∈ s.roster.entries.map identity := h ▸ List.mem_map_of_mem he
  obtain ⟨x, hx, hxe⟩ := List.mem_map.1 hmem
  obtain ⟨h1, h2, -⟩ : x.slot = e.slot ∧ x.number = e.number ∧ x.sitting = e.sitting := by
    simpa [identity] using hxe
  exact h1 ▸ h2 ▸ hbounds x hx

/-! ### What the invariants read -/

/-- What the invariants read of a sitting: its phase, its definition and its writing elapsed. -/
def Sitting.timing (r : Sitting) : Phase × Definition × Nat := (r.phase, r.defn, r.elapsed)

/-- What the invariants read of an offer. -/
def Offer.pair (o : Offer) : Nat × Nat := (o.seat, o.slot)

/-- Nothing that the invariants of roster, seat map, offer table and sittings read differs. -/
structure SameHall (s t : State) : Prop where
  entries : t.roster.entries = s.roster.entries
  tenure : ∀ d, (t.seat d).tenure = (s.seat d).tenure
  offers : t.placement.offers.map Offer.pair = s.placement.offers.map Offer.pair
  timing : ∀ k, (t.sitting k).timing = (s.sitting k).timing

theorem SameHall.refl (s : State) : SameHall s s := ⟨rfl, fun _ => rfl, rfl, fun _ => rfl⟩

theorem SameHall.trans (h : SameHall s t) (g : SameHall t u) : SameHall s u :=
  ⟨g.entries.trans h.entries, fun d => (g.tenure d).trans (h.tenure d), g.offers.trans h.offers,
    fun k => (g.timing k).trans (h.timing k)⟩

theorem SameHall.ite {c : Prop} [Decidable c] (h : SameHall s t) (g : SameHall s u) :
    SameHall s (if c then t else u) := by split <;> assumption

theorem SameHall.foldl {β : Type} {f : State → β → State} (l : List β) (hf : ∀ u x, SameHall u (f u x)) (s : State) :
    SameHall s (l.foldl f s) := by
  induction l generalizing s with
  | nil => exact .refl s
  | cons x l ih => exact (hf s x).trans (ih _)

theorem SameHall.entry? (h : SameHall s t) (q : Nat) : t.entry? q = s.entry? q := by
  unfold State.entry?; rw [h.entries]

/-- What a frame of other parts leaves of the hall. -/
theorem OnlyChanges.sameHall {bs : List Part} (h : OnlyChanges bs s t)
    (hb : ∀ x ∈ bs, x ≠ .entries ∧ x ≠ .seats ∧ x ≠ .offers ∧ x ≠ .sittings) : SameHall s t := by
  have out {x : Part} (hx : x = .entries ∨ x = .seats ∨ x = .offers ∨ x = .sittings) : same x s t :=
    h.rest x fun hm => by obtain ⟨h1, h2, h3, h4⟩ := hb x hm; rcases hx with rfl | rfl | rfl | rfl <;> contradiction
  refine ⟨out (.inl rfl), fun d => ?_, ?_, fun k => ?_⟩
  · have hseats : t.seatMap.seats = s.seatMap.seats := out (.inr (.inl rfl))
    unfold State.seat; rw [hseats]
  · have hoffers : t.placement.offers = s.placement.offers := out (.inr (.inr (.inl rfl)))
    rw [hoffers]
  · have hsittings : t.control.sittings = s.control.sittings := out (.inr (.inr (.inr rfl)))
    unfold State.sitting; rw [hsittings]

/-! ### Seat map, offer table and roster name each other -/

/-- The seat map, the offer table and the roster name each other: an occupant is the entry with that seat, an offeree
the entry with that offer and the table's offer on that seat (R5, R21, R39). -/
structure State.Linked (s : State) : Prop where
  roster : s.RosterOrdered
  seated : ∀ d p, occupant (s.seat d).tenure = some p ↔ ∃ e, s.entry? p = some e ∧ e.seat = some d
  offered : ∀ d p, offeree (s.seat d).tenure = some p ↔ ∃ e, s.entry? p = some e ∧ e.offer = some d
  table : ∀ d p, offeree (s.seat d).tenure = some p ↔ (d, p) ∈ s.placement.offers.map Offer.pair
  nodup : (s.placement.offers.map Offer.seat).Nodup
  apart : ∀ p e, s.entry? p = some e → e.offer.isSome → e.seat = none
  limits : ∀ k, (s.sitting k).defn.lateLimit ≤ (s.sitting k).defn.writing

theorem offeree_eq_some {x : Tenure} : offeree x = some p ↔ x = .offered p := by
  cases x <;> simp [offeree]

theorem State.Linked.offered_entry (hs : s.Linked) {d : Nat} (h : (s.seat d).tenure = .offered p) :
    ∃ e, s.entry? p = some e ∧ e.offer = some d ∧ e.seat = none := by
  obtain ⟨e, he, hd⟩ := (hs.offered d p).1 (offeree_eq_some.2 h)
  exact ⟨e, he, hd, hs.apart p e he (by simp [hd])⟩

theorem State.Linked.tenure_of_offer (hs : s.Linked) {o : Offer} (ho : o ∈ s.placement.offers) :
    (s.seat o.seat).tenure = .offered o.slot :=
  offeree_eq_some.1 ((hs.table _ _).2 (List.mem_map.2 ⟨o, ho, rfl⟩))

theorem State.Linked.tenure_of_entry_offer (hs : s.Linked) (he : s.entry? p = some e) {d : Nat} (hd : e.offer = some d) :
    (s.seat d).tenure = .offered p := offeree_eq_some.1 ((hs.offered d p).2 ⟨e, he, hd⟩)

theorem State.Linked.occupant_of_seat (hs : s.Linked) (he : s.entry? p = some e) {d : Nat} (hd : e.seat = some d) :
    occupant (s.seat d).tenure = some p := (hs.seated d p).2 ⟨e, he, hd⟩

theorem SameHall.linked (h : SameHall s t) (hs : s.Linked) : t.Linked where
  roster := State.rosterOrdered_of_identities (by rw [h.entries]) hs.roster
  seated d p := by rw [h.tenure, h.entry?]; exact hs.seated d p
  offered d p := by rw [h.tenure, h.entry?]; exact hs.offered d p
  table d p := by rw [h.tenure, h.offers]; exact hs.table d p
  nodup := by
    have hseats (x : State) : x.placement.offers.map Offer.seat = (x.placement.offers.map Offer.pair).map Prod.fst := by
      simp [Function.comp_def, Offer.pair]
    rw [hseats, h.offers, ← hseats]; exact hs.nodup
  apart p e := by rw [h.entry?]; exact hs.apart p e
  limits k := by
    have hd : (t.sitting k).defn = (s.sitting k).defn := congrArg (fun x => x.2.1) (h.timing k)
    rw [hd]; exact hs.limits k

/-! ### Changes at one slot -/

/-- From `s` to `t` nothing of the hall has changed but the entry in slot `p`, its seat and its offer, and `t` is
linked. -/
structure OnlyAt (p : Nat) (s t : State) : Prop where
  links : t.Linked
  identities : t.roster.entries.map identity = s.roster.entries.map identity
  others : ∀ q, q ≠ p → t.entry? q = s.entry? q
  tenure : ∀ d q, q ≠ p → occupant (s.seat d).tenure = some q → (t.seat d).tenure = (s.seat d).tenure
  timing : ∀ k, (t.sitting k).timing = (s.sitting k).timing

theorem OnlyAt.refl (hs : s.Linked) (p : Nat) : OnlyAt p s s := ⟨hs, rfl, fun _ _ => rfl, fun _ _ _ _ => rfl, fun _ => rfl⟩

theorem OnlyAt.trans (h : OnlyAt p s t) (g : OnlyAt p t u) : OnlyAt p s u where
  links := g.links
  identities := g.identities.trans h.identities
  others q hq := (g.others q hq).trans (h.others q hq)
  tenure d q hq ho := by
    have ht := h.tenure d q hq ho
    exact (g.tenure d q hq (by rw [ht]; exact ho)).trans ht
  timing k := (g.timing k).trans (h.timing k)

theorem SameHall.onlyAt (h : SameHall s t) (hs : s.Linked) (p : Nat) : OnlyAt p s t :=
  ⟨h.linked hs, by rw [h.entries], fun q _ => h.entry? q, fun d _ _ _ => h.tenure d, h.timing⟩

theorem OnlyAt.sameHall (h : OnlyAt p s t) (g : SameHall t u) : OnlyAt p s u := h.trans (g.onlyAt h.links p)

/-- `t` is reached from `s` by changes at slot `p` alone, which leave the entry `e` there. -/
structure Brings (p : Nat) (e : Entry) (s t : State) : Prop extends OnlyAt p s t where
  entry : t.entry? p = some e

theorem Brings.trans {e' : Entry} (h : Brings p e s t) (g : Brings p e' t u) : Brings p e' s u :=
  ⟨h.toOnlyAt.trans g.toOnlyAt, g.entry⟩

theorem Brings.sameHall (h : Brings p e s t) (g : SameHall t u) : Brings p e s u :=
  ⟨h.toOnlyAt.sameHall g, (g.entry? p).trans h.entry⟩

theorem Brings.refl (hs : s.Linked) (he : s.entry? p = some e) : Brings p e s s := ⟨.refl hs p, he⟩

/-- A change of an entry that keeps its identity, its seat and its offer. -/
def keepsPlace (f : Entry → Entry) : Prop := ∀ e, identity (f e) = identity e ∧ (f e).seat = e.seat ∧ (f e).offer = e.offer

theorem keepsPlace.slot {f : Entry → Entry} (hf : keepsPlace f) (e : Entry) : (f e).slot = e.slot := by
  have := (hf e).1; simp only [identity, Prod.mk.injEq] at this; exact this.1

theorem keepsPlace.sitting {f : Entry → Entry} (hf : keepsPlace f) (e : Entry) : (f e).sitting = e.sitting := by
  have := (hf e).1; simp only [identity, Prod.mk.injEq] at this; exact this.2.2

/-- Entries changed with their places kept leave the links as they were. -/
theorem State.Linked.mapEntries (hs : s.Linked) {g : Entry → Entry} (hg : keepsPlace g) :
    (s.setEntries (s.roster.entries.map g)).Linked where
  roster := State.rosterOrdered_of_identities (s := s)
    (by simp only [State.setEntries_roster, List.map_map]; exact List.map_congr_left fun e _ => (hg e).1) hs.roster
  seated d p := by
    rw [State.entry?_setEntries_map g hg.slot]
    exact (hs.seated d p).trans (by cases s.entry? p <;> simp [(hg _).2.1])
  offered d p := by
    rw [State.entry?_setEntries_map g hg.slot]
    exact (hs.offered d p).trans (by cases s.entry? p <;> simp [(hg _).2.2])
  table := hs.table
  nodup := hs.nodup
  apart p e h := by
    rw [State.entry?_setEntries_map g hg.slot] at h
    obtain ⟨x, hx, rfl⟩ := Option.map_eq_some_iff.1 h
    rw [(hg x).2.1, (hg x).2.2]; exact hs.apart p x hx
  limits := hs.limits

theorem State.modEntry_onlyAt (hs : s.Linked) {f : Entry → Entry} (hf : keepsPlace f) : OnlyAt p s (s.modEntry p f) where
  links := hs.mapEntries (g := fun e => if e.slot = p then f e else e) fun e => by dsimp only; split <;> simp [hf e]
  identities := State.modEntry_identities f fun e => (hf e).1
  others q hq := by rw [State.entry?_modEntry f hf.slot, if_neg hq]
  tenure _ _ _ _ := rfl
  timing _ := rfl

theorem State.modEntry_brings (hs : s.Linked) (he : s.entry? p = some e) {f : Entry → Entry} (hf : keepsPlace f) :
    Brings p (f e) s (s.modEntry p f) :=
  ⟨State.modEntry_onlyAt hs hf, by rw [State.entry?_modEntry f hf.slot, if_pos rfl, he]; rfl⟩

/-- A seat with a tenure written, and the entry in a slot changed. -/
def State.rewired (s : State) (d : Nat) (x : Tenure) (p : Nat) (f : Entry → Entry) : State :=
  (s.setSeat d { s.seat d with tenure := x }).modEntry p f

theorem State.entry?_rewired {d : Nat} {x : Tenure} {f : Entry → Entry} (hf : ∀ e, (f e).slot = e.slot) (q : Nat) :
    (s.rewired d x p f).entry? q = if q = p then (s.entry? q).map f else s.entry? q :=
  State.entry?_modEntry f hf q

theorem State.tenure_rewired (d : Nat) (x : Tenure) (f : Entry → Entry) (j : Nat) :
    ((s.rewired d x p f).seat j).tenure = if j = d then x else (s.seat j).tenure := by
  unfold State.rewired
  rw [State.seat_modEntry, State.seat_setSeat]; split <;> rfl

theorem State.identities_rewired (d : Nat) (x : Tenure) {f : Entry → Entry} (hf : ∀ e, identity (f e) = identity e) :
    (s.rewired d x p f).roster.entries.map identity = s.roster.entries.map identity :=
  State.modEntry_identities f hf

/-- One seat and the entry in one slot are rewired: their link alone changes, and the offer table follows the seat. -/
theorem State.Linked.rewire (hs : s.Linked) {e' : Entry} {d : Nat} {x : Tenure} (he : s.entry? p = some e)
    (hid : t.roster.entries.map identity = s.roster.entries.map identity)
    (hentry : ∀ q, t.entry? q = if q = p then some e' else s.entry? q)
    (hten : ∀ j, (t.seat j).tenure = if j = d then x else (s.seat j).tenure)
    (htiming : ∀ k, (t.sitting k).timing = (s.sitting k).timing)
    (hheld : ∀ q, occupant (s.seat d).tenure = some q ∨ offeree (s.seat d).tenure = some q → q = p)
    (hseat : ∀ j, j ≠ d → (e'.seat = some j ↔ e.seat = some j))
    (hoffer : ∀ j, j ≠ d → (e'.offer = some j ↔ e.offer = some j))
    (hocc : ∀ q, occupant x = some q ↔ q = p ∧ e'.seat = some d)
    (hoff : ∀ q, offeree x = some q ↔ q = p ∧ e'.offer = some d)
    (htable : ∀ j q, (j, q) ∈ t.placement.offers.map Offer.pair ↔
      if j = d then offeree x = some q else (j, q) ∈ s.placement.offers.map Offer.pair)
    (hnodup : (t.placement.offers.map Offer.seat).Nodup) (hapart : e'.offer.isSome → e'.seat = none) :
    Brings p e' s t := by
  have other {q : Nat} (hq : q ≠ p) : t.entry? q = s.entry? q := by rw [hentry, if_neg hq]
  have here : t.entry? p = some e' := by rw [hentry, if_pos rfl]
  have defn (k : Nat) : (t.sitting k).defn = (s.sitting k).defn := congrArg (fun x => x.2.1) (htiming k)
  refine ⟨⟨⟨State.rosterOrdered_of_identities hid hs.roster, fun j q => ?_, fun j q => ?_, fun j q => ?_, hnodup,
    fun q x hx => ?_, fun k => by rw [defn]; exact hs.limits k⟩, hid, fun q => other, fun j q hq ho => ?_, htiming⟩, here⟩
  · rw [hten]
    by_cases hq : q = p
    · subst hq
      rw [here]
      by_cases hj : j = d
      · subst hj; simp [hocc]
      · rw [if_neg hj, hs.seated, he]; simp [hseat j hj]
    · rw [other hq, ← hs.seated]
      by_cases hj : j = d
      · subst hj
        simp only [if_true, hocc, hq, false_and, false_iff]
        exact fun h => hq (hheld q (.inl h))
      · rw [if_neg hj]
  · rw [hten]
    by_cases hq : q = p
    · subst hq
      rw [here]
      by_cases hj : j = d
      · subst hj; simp [hoff]
      · rw [if_neg hj, hs.offered, he]; simp [hoffer j hj]
    · rw [other hq, ← hs.offered]
      by_cases hj : j = d
      · subst hj
        simp only [if_true, hoff, hq, false_and, false_iff]
        exact fun h => hq (hheld q (.inr h))
      · rw [if_neg hj]
  · rw [hten, htable]
    by_cases hj : j = d
    · simp [hj]
    · simp only [hj, if_false]; exact hs.table j q
  · by_cases hq : q = p
    · subst hq; rw [here] at hx; cases hx; exact hapart
    · rw [other hq] at hx; exact hs.apart q x hx
  · rw [hten]
    by_cases hj : j = d
    · subst hj; exact absurd (hheld q (.inl ho)) hq
    · rw [if_neg hj]

end Sys2Proof.Machine

namespace Sys2Proof.Machine

variable {s t u : State} {p : Nat} {e : Entry}

/-! ### Operations that leave the hall as it is -/

theorem State.hand_sameHall (s : State) (z u : Nat) (b : Bool) (m : Msg) : SameHall s (s.hand z u b m) :=
  (State.hand_only s z u b m (List.Subset.refl _) (.refl _ _)).sameHall (by decide)

theorem State.handOffer_sameHall (s : State) (o : Offer) : SameHall s (s.handOffer o) :=
  (State.handOffer_only s o (List.Subset.refl _) (.refl _ _)).sameHall (by decide)

theorem State.removeOffer_sameHall (s : State) (d : Nat) : SameHall s (s.removeOffer d) :=
  (State.removeOffer_only s d (List.Subset.refl _) (.refl _ _)).sameHall (by decide)

theorem State.withdrawOffer_sameHall (s : State) (d n : Nat) : SameHall s (s.withdrawOffer d n) :=
  (State.withdrawOffer_only s d n (List.Subset.refl _) (.refl _ _)).sameHall (by decide)

theorem State.raise_sameHall (s : State) (k : NoticeKind) (x : Subject) : SameHall s (s.raise k x) :=
  (State.raise_only s k x (List.Subset.refl _) (.refl _ _)).sameHall (by decide)

theorem State.showSeat_sameHall (s : State) (d : Nat) (x : Shown) : SameHall s (s.showSeat d x) :=
  (State.showSeat_only s d x (List.Subset.refl _) (.refl _ _)).sameHall (by decide)

theorem State.queueClock_sameHall (s : State) (p : Nat) (b : Bool) : SameHall s (s.queueClock p b) :=
  (State.queueClock_only s p b (List.Subset.refl _) (.refl _ _)).sameHall (by decide)

theorem State.returnCandidate_sameHall (s : State) (o : Offer) : SameHall s (s.returnCandidate o) :=
  (State.returnCandidate_only s o (List.Subset.refl _) (.refl _ _)).sameHall (by decide)

theorem State.retryStranded_sameHall (s : State) (d : Nat) : SameHall s (s.retryStranded d) :=
  (State.retryStranded_only s d (List.Subset.refl _) (.refl _ _)).sameHall (by decide)

theorem State.appendReseat_sameHall (s : State) (r : Reseat) : SameHall s (s.appendReseat r) :=
  (State.appendReseat_only s r (List.Subset.refl _) (.refl _ _)).sameHall (by decide)

theorem State.passOver_sameHall (s : State) : SameHall s s.passOver :=
  (State.passOver_only s (List.Subset.refl _) (.refl _ _)).sameHall (by decide)

theorem State.leaveReseat_sameHall (s : State) (p : Nat) : SameHall s (s.leaveReseat p) :=
  (State.leaveReseat_only s p (List.Subset.refl _) (.refl _ _)).sameHall (by decide)

theorem State.leaveRetry_sameHall (s : State) (p : Nat) : SameHall s (s.leaveRetry p) :=
  (State.leaveRetry_only s p (List.Subset.refl _) (.refl _ _)).sameHall (by decide)

theorem State.setRun_sameHall (s : State) (r : Option Run) : SameHall s (s.setRun r) :=
  (State.setRun_only s r (List.Subset.refl _) (.refl _ _)).sameHall (by decide)

theorem State.setReseats_sameHall (s : State) (l : List Reseat) : SameHall s (s.setReseats l) :=
  (State.setReseats_only s l (List.Subset.refl _) (.refl _ _)).sameHall (by decide)

theorem State.finishTask_sameHall (s : State) (c : ResultCode) (b : Bool) (r : Report) :
    SameHall s (s.finishTask c b r) :=
  (State.finishTask_only s c b r (List.Subset.refl _) (.refl _ _)).sameHall (by decide)

theorem State.showCandidate_sameHall (s : State) (d p : Nat) (x : Nat → Nat → Shown) :
    SameHall s (s.showCandidate d p x) :=
  (State.showCandidate_only s d p x (List.Subset.refl _) (.refl _ _)).sameHall (by decide)

theorem State.countPlaced_sameHall (s : State) (o : Offer) : SameHall s (s.countPlaced o) :=
  (State.countPlaced_only s o (List.Subset.refl _) (.refl _ _)).sameHall (by decide)

/-- A sitting's record changed in its counts or its holds alone. -/
theorem State.modSitting_sameHall (s : State) (k : Nat) {f : Sitting → Sitting} (hf : ∀ r, (f r).timing = r.timing) :
    SameHall s (s.modSitting k f) :=
  ⟨rfl, fun _ => rfl, rfl, fun j => by
    unfold State.modSitting; rw [State.sitting_setSitting]; split <;> simp_all⟩

theorem State.count_sameHall (s : State) (p : Nat) {f : Sitting → Sitting} (hf : ∀ r, (f r).timing = r.timing) :
    SameHall s (s.count p f) := by
  unfold State.count
  split
  · exact State.modSitting_sameHall s _ hf
  · exact .refl s

theorem State.closeRun_sameHall (s : State) (r : Run) (a : AllocState) : SameHall s (s.closeRun r a) := by
  refine .trans (State.modSitting_sameHall s r.sitting ?_) (State.setRun_sameHall _ none)
  exact fun _ => rfl

theorem State.checkRun_sameHall (s : State) : SameHall s s.checkRun := by
  unfold State.checkRun
  split
  · split
    · exact (State.closeRun_sameHall _ _ _).trans (State.raise_sameHall _ _ _)
    · exact .refl s
  · exact .refl s

/-- A seat written with its tenure kept. -/
theorem State.setSeat_sameHall (s : State) {d : Nat} {v : Seat} (h : v.tenure = (s.seat d).tenure) :
    SameHall s (s.setSeat d v) :=
  ⟨rfl, fun j => by rw [State.seat_setSeat]; split <;> simp_all, rfl, fun _ => rfl⟩

/-- The change of a sitting's record is all of `changeSitting` that the hall sees. -/
theorem State.changeSitting_sameHall (s : State) (k : Nat) (f : Sitting → Sitting) :
    SameHall (s.setSitting k (f (s.sitting k))) (s.changeSitting k f) := by
  have told (u : State) (z : ZoneSet) : SameHall u (u.broadcast k z) :=
    (State.broadcast_only u k z (List.Subset.refl _) (.refl _ _)).sameHall (by decide)
  have rung (u : State) : SameHall u (u.ringBells k) :=
    (State.ringBells_only u k (List.Subset.refl _) (.refl _ _)).sameHall (by decide)
  have clocks (u : State) : SameHall u (u.clockHoldUpdate k) :=
    (State.clockHoldUpdate_only u k (List.Subset.refl _) (.refl _ _)).sameHall (by decide)
  unfold State.changeSitting
  dsimp only
  refine .trans ?_ (.ite (clocks _) (.refl _))
  refine .trans ?_ (.ite (State.raise_sameHall _ _ _) (.refl _))
  refine .trans ?_ (.ite ((State.raise_sameHall _ _ _).trans (rung _)) (.refl _))
  exact .ite (told _ _) (.refl _)

/-- A change of hold reasons is none of the hall. -/
theorem State.changeSitting_holds_sameHall (s : State) (k : Nat) {f : Sitting → Sitting}
    (hf : ∀ r, (f r).timing = r.timing) : SameHall s (s.changeSitting k f) :=
  (State.modSitting_sameHall s k hf).trans (State.changeSitting_sameHall s k f)

/-! ### Tenures and offers: the operations that rewire a seat -/

theorem offeree_of_occupant {x : Tenure} (h : occupant x = some p) : offeree x = none := by
  revert h; cases x <;> simp [occupant, offeree]

theorem State.Linked.offer_ne_of_occupant (hs : s.Linked) (he : s.entry? p = some e) {d q : Nat}
    (h : occupant (s.seat d).tenure = some q) : e.offer ≠ some d := fun hc => by
  have := hs.tenure_of_entry_offer he hc; simp [this, occupant] at h

/-- RELEASE of an entry's seat: the seat is EMPTY and the entry has none (R26). -/
theorem State.requestRelease_brings (hs : s.Linked) (he : s.entry? p = some e) {d : Nat} (hd : e.seat = some d) :
    Brings p { e with seat := none } s (s.requestRelease d) := by
  have hocc := hs.occupant_of_seat he hd
  have hv : Brings p { e with seat := none } s (s.rewired d .empty p fun e => { e with seat := none }) := by
    refine hs.rewire he (State.identities_rewired _ _ fun _ => rfl) (fun q => ?_)
      (State.tenure_rewired d .empty _) (fun k => rfl) (fun q hq => ?_) (fun j hj => ?_)
      (fun j _ => .rfl) (by simp [occupant]) (fun q => ?_) (fun j q => ?_) hs.nodup fun _ => rfl
    · rw [State.entry?_rewired (by intro; rfl)]; split <;> simp_all
    · simpa [hocc, offeree_of_occupant hocc, eq_comm] using hq
    · simp [hd, Ne.symm hj]
    · simp [offeree, hs.offer_ne_of_occupant he hocc]
    · by_cases hj : j = d
      · subst hj; rw [if_pos rfl]
        exact (hs.table j q).symm.trans (by rw [offeree_of_occupant hocc]; simp [offeree])
      · rw [if_neg hj]; rfl
  refine hv.sameHall ?_
  unfold State.requestRelease
  rw [hocc]
  exact (State.count_sameHall _ p (f := dropPlaced) fun _ => rfl).trans (.ite (State.showSeat_sameHall _ _ _) (.refl _))

theorem State.releaseSeat_brings (hs : s.Linked) (he : s.entry? p = some e) {d : Nat} (hd : e.seat = some d) :
    Brings p { e with seat := none } s (s.releaseSeat d) :=
  (State.requestRelease_brings hs he hd).sameHall (State.retryStranded_sameHall _ d)

/-- The table without the offer on seat `d`. -/
theorem mem_pairs_without (l : List Offer) (d j q : Nat) :
    (j, q) ∈ (l.filter fun o => o.seat != d).map Offer.pair ↔ j ≠ d ∧ (j, q) ∈ l.map Offer.pair := by
  simp only [List.mem_map, List.mem_filter, bne_iff_ne, Offer.pair, Prod.mk.injEq]
  constructor
  · rintro ⟨o, ⟨ho, hne⟩, rfl, rfl⟩; exact ⟨hne, o, ho, rfl, rfl⟩
  · rintro ⟨hne, o, ho, rfl, rfl⟩; exact ⟨o, ⟨ho, hne⟩, rfl, rfl⟩

/-- The end of an offer with CANCEL: the seat is EMPTY and its offeree has no offer (R24, R53, R55). -/
theorem State.dropOffer_cancel_brings (hs : s.Linked) {o : Offer} (ho : o ∈ s.placement.offers)
    (he : s.entry? o.slot = some e) :
    Brings o.slot { e with offer := none } s ((s.dropOffer o.seat).requestCancel o.seat) := by
  have hten := hs.tenure_of_offer ho
  obtain ⟨x, hx, hd, hseat⟩ := hs.offered_entry hten
  cases he.symm.trans hx
  have hv : (s.dropOffer o.seat).requestCancel o.seat
      = (s.dropOffer o.seat).rewired o.seat .empty o.slot fun e => { e with offer := none } := by
    unfold State.requestCancel
    rw [show ((s.dropOffer o.seat).seat o.seat) = s.seat o.seat from rfl, hten]
    rfl
  rw [hv]
  refine hs.rewire he
    (State.identities_rewired _ _ fun _ => rfl) (fun q => ?_) (State.tenure_rewired o.seat .empty _) (fun k => rfl)
    (fun q hq => ?_) (fun j _ => .rfl) (fun j hj => ?_) (by simp [occupant, hseat]) (by simp [offeree]) (fun j q => ?_)
    (hs.nodup.sublist (List.Sublist.map _ List.filter_sublist)) (by simp)
  · rw [State.entry?_rewired (by intro; rfl), show (s.dropOffer o.seat).entry? q = s.entry? q from rfl]
    split <;> simp_all
  · simpa [hten, occupant, offeree, eq_comm] using hq
  · simp [hd, Ne.symm hj]
  · refine (mem_pairs_without s.placement.offers o.seat j q).trans ?_
    by_cases hj : j = o.seat <;> simp [hj, offeree]

/-- The end of an offer with PLACE: the seat is HELD for its offeree (R25, R52). -/
theorem State.dropOffer_place_brings (hs : s.Linked) {o : Offer} (ho : o ∈ s.placement.offers)
    (he : s.entry? o.slot = some e) :
    Brings o.slot { e with offer := none, seat := some o.seat } s ((s.dropOffer o.seat).requestPlace o.seat)
      ∧ (((s.dropOffer o.seat).requestPlace o.seat).seat o.seat).tenure = .held o.slot := by
  have hten := hs.tenure_of_offer ho
  obtain ⟨x, hx, hd, hseat⟩ := hs.offered_entry hten
  cases he.symm.trans hx
  have hv : SameHall ((s.dropOffer o.seat).rewired o.seat (.held o.slot) o.slot
      fun e => { e with offer := none, seat := some o.seat }) ((s.dropOffer o.seat).requestPlace o.seat) := by
    unfold State.requestPlace
    rw [show ((s.dropOffer o.seat).seat o.seat) = s.seat o.seat from rfl, hten]
    exact State.count_sameHall _ o.slot (f := addPlaced) fun _ => rfl
  have hw : Brings o.slot { e with offer := none, seat := some o.seat } s
      ((s.dropOffer o.seat).rewired o.seat (.held o.slot) o.slot
        fun e => { e with offer := none, seat := some o.seat }) := by
    refine hs.rewire he
      (State.identities_rewired _ _ fun _ => rfl) (fun q => ?_) (State.tenure_rewired o.seat _ _) (fun k => rfl)
      (fun q hq => ?_) (fun j hj => ?_) (fun j hj => ?_) (by simp [occupant, eq_comm]) (by simp [offeree])
      (fun j q => ?_) (hs.nodup.sublist (List.Sublist.map _ List.filter_sublist)) (by simp)
    · rw [State.entry?_rewired (by intro; rfl), show (s.dropOffer o.seat).entry? q = s.entry? q from rfl]
      split <;> simp_all
    · simpa [hten, occupant, offeree, eq_comm] using hq
    · simp [hseat, Ne.symm hj]
    · simp [hd, Ne.symm hj]
    · refine (mem_pairs_without s.placement.offers o.seat j q).trans ?_
      by_cases hj : j = o.seat <;> simp [hj, offeree]
  refine ⟨hw.sameHall hv, ?_⟩
  rw [hv.tenure, State.tenure_rewired, if_pos rfl]

/-- An offer made on an EMPTY seat to a candidate with neither seat nor offer (R24, R49). -/
theorem State.makeOffer_brings (hs : s.Linked) (he : s.entry? p = some e) (hseat : e.seat = none) (hoffer : e.offer = none)
    {d : Nat} (hd : (s.seat d).tenure = .empty) (x : Purpose) (o : Option Nat) :
    Brings p { e with offer := some d } s (s.makeOffer p d x o) := by
  have hv : SameHall ((s.setOffers (s.placement.offers ++ [⟨d, p, x, o, .waiting⟩])).rewired d (.offered p) p
      fun e => { e with offer := some d }) (s.makeOffer p d x o) := by
    unfold State.makeOffer State.requestOffer
    dsimp only
    rw [State.seat_setOffers, hd]
    exact State.handOffer_sameHall _ _
  have habsent : d ∉ s.placement.offers.map Offer.seat := fun hm => by
    obtain ⟨o, ho, rfl⟩ := List.mem_map.1 hm
    rw [hs.tenure_of_offer ho] at hd; cases hd
  have hat : Brings p { e with offer := some d } s
      ((s.setOffers (s.placement.offers ++ [⟨d, p, x, o, .waiting⟩])).rewired d (.offered p) p
        fun e => { e with offer := some d }) := by
    refine hs.rewire he
      (State.identities_rewired _ _ fun _ => rfl) (fun q => ?_) (State.tenure_rewired d _ _) (fun k => rfl)
      (fun q hq => ?_) (fun j _ => .rfl) (fun j hj => ?_) (by simp [occupant, hseat]) (by simp [offeree, eq_comm])
      (fun j q => ?_) ?_ fun _ => hseat
    · rw [State.entry?_rewired (by intro; rfl), State.entry?_setOffers]
      split <;> simp_all
    · simp [hd, occupant, offeree] at hq
    · simp [hoffer, Ne.symm hj]
    · change (j, q) ∈ (s.placement.offers ++ [_]).map Offer.pair ↔ _
      rw [List.map_append, List.mem_append]
      by_cases hj : j = d
      · have : (j, q) ∉ s.placement.offers.map Offer.pair := fun hm => by
          have := (hs.table j q).2 hm; simp [hj, hd, offeree] at this
        simp only [this, false_or, if_pos hj]
        simp [hj, Offer.pair, offeree, eq_comm]
      · simp [hj, Offer.pair]
    · change ((s.placement.offers ++ [_]).map Offer.seat).Nodup
      rw [List.map_append]
      exact List.Nodup.append hs.nodup (List.nodup_singleton d) (by simpa using habsent)
  exact hat.sameHall hv

/-- A seat whose tenure passes from one state to another of the same occupant. -/
theorem State.setSeat_brings (hs : s.Linked) (he : s.entry? p = some e) {d : Nat} (hd : e.seat = some d) {v : Seat}
    (hv : occupant v.tenure = some p) : Brings p e s (s.setSeat d v) := by
  have h := hs.occupant_of_seat he hd
  refine hs.rewire (d := d) (x := v.tenure) he rfl (fun q => ?_) (fun j => ?_) (fun k => rfl) (fun q hq => ?_)
    (fun j _ => .rfl) (fun j _ => .rfl) (fun q => ?_) (fun q => ?_) (fun j q => ?_) hs.nodup (hs.apart p e he)
  · rw [State.entry?_setSeat]; split <;> simp_all
  · rw [State.seat_setSeat]; split <;> rfl
  · simpa [h, offeree_of_occupant h, eq_comm] using hq
  · simp [hv, hd, eq_comm]
  · simp [offeree_of_occupant hv, hs.offer_ne_of_occupant he h]
  · by_cases hj : j = d
    · subst hj; rw [if_pos rfl, offeree_of_occupant hv]
      exact (hs.table j q).symm.trans (by rw [offeree_of_occupant h])
    · rw [if_neg hj]; rfl

end Sys2Proof.Machine

namespace Sys2Proof.Machine

variable {s t u : State} {p : Nat} {e x : Entry} {C : Prop} {late : Option Nat}

/-! ### What each entry owes its seat, its clock and its sitting -/

/-- The bounds of an entry's clock that do not depend on whether it runs, rests or has ended. -/
def Entry.counted (e : Entry) : Prop :=
  e.used ≤ e.budget ∧ e.budget ≤ Config.lastBudget ∧ e.restUsed ≤ e.restAllowance ∧ e.restAllowance ≤ 3600
    ∧ e.allowance ≤ 100 ∧ -Config.lastAdjustSum ≤ e.adjustSum ∧ e.adjustSum ≤ Config.lastAdjustSum

theorem Entry.clockBounded_iff (e : Entry) :
    e.clockBounded ↔ e.counted ∧ (e.clock = .running → e.used < e.budget)
      ∧ (e.resting = true → e.restUsed < e.restAllowance)
      ∧ (e.clock = .ended → e.resting = false ∧ e.displacedCause = false) := by
  unfold Entry.clockBounded Entry.counted; tauto

theorem Sitting.admits_congr {r r' : Sitting} (h : r.timing = r'.timing) (e : Entry) : r.admits e ↔ r'.admits e := by
  obtain ⟨hp, hd, he⟩ : r.phase = r'.phase ∧ r.defn = r'.defn ∧ r.elapsed = r'.elapsed := by
    simpa [Sitting.timing] using h
  unfold Sitting.admits; rw [hp, hd, he]

/-- An entry whose clock has ended and that is awaited no longer fits every phase that admitted it with its clock open. -/
theorem Sitting.admits_of_ended {r : Sitting} (h : r.admits e) (hopen : e.clock ≠ .ended)
    (hnone : e.custody = .none → x.custody = .none) (hended : x.clock = .ended) (hpres : x.presence ≠ .expected) :
    r.admits x := by
  unfold Sitting.admits at h ⊢
  split at h <;> simp_all

/-- A phase that admits an entry admits it after its custody has moved on from a script that was or is no longer
awaited in the hall. -/
theorem Sitting.admits_of_custody {r : Sitting} (h : r.admits e) (hnone : e.custody ≠ .none) (hclock : x.clock = e.clock)
    (hpres : x.presence = e.presence) (hcustody : x.custody ≠ .handedIn) : r.admits x := by
  unfold Sitting.admits at h ⊢
  split at h <;> simp_all

/-- What an entry owes its seat, its clock and its sitting. `C` tells whether the bounds of its clock are claimed too;
`late` names a sitting in WRITING whose late limit is being acted on in this event, so that a candidate of it may still
be EXPECTED. -/
structure State.Sound (C : Prop) (late : Option Nat) (s : State) (e : Entry) : Prop where
  seat : ∀ d, e.seat = some d → seatedAs (s.seat d).tenure e
  offer : e.offer.isSome → e.presence = .expected ∨ e.presence = .displaced
  lawful : e.lawful
  admitted : (s.sitting e.sitting).admits e ∨ late = some e.sitting ∧ (s.sitting e.sitting).phase = .writing
  bounded : C → e.clockBounded
  runs : C → e.clock = .running → (s.sitting e.sitting).phase = .writing ∨ (s.sitting e.sitting).phase = .overtime

/-- The links hold and every entry is sound: what every command keeps. -/
structure State.Agreed (C : Prop) (late : Option Nat) (s : State) : Prop where
  links : s.Linked
  sound : ∀ p e, s.entry? p = some e → s.Sound C late e

theorem State.Sound.of_timing (h : s.Sound C late e) (ht : (t.sitting e.sitting).timing = (s.sitting e.sitting).timing)
    (hseat : ∀ d, e.seat = some d → (t.seat d).tenure = (s.seat d).tenure) : t.Sound C late e where
  seat d hd := by rw [hseat d hd]; exact h.seat d hd
  offer := h.offer
  lawful := h.lawful
  admitted := by
    rw [Sitting.admits_congr ht, show (t.sitting e.sitting).phase = _ from congrArg Prod.fst ht]; exact h.admitted
  bounded := h.bounded
  runs := by rw [show (t.sitting e.sitting).phase = _ from congrArg Prod.fst ht]; exact h.runs

theorem SameHall.sound (h : SameHall s t) (hs : s.Sound C late e) : t.Sound C late e :=
  hs.of_timing (h.timing _) fun d _ => h.tenure d

theorem SameHall.agreed (h : SameHall s t) (hs : s.Agreed C late) : t.Agreed C late :=
  ⟨h.linked hs.links, fun p e he => h.sound (hs.sound p e (by rw [← h.entry?]; exact he))⟩

/-- After changes at one slot only the entry of that slot need be examined. -/
theorem OnlyAt.agreed (h : OnlyAt p s t) (hs : s.Agreed C late) (hp : ∀ e, t.entry? p = some e → t.Sound C late e) :
    t.Agreed C late := by
  refine ⟨h.links, fun q e he => ?_⟩
  by_cases hq : q = p
  · subst hq; exact hp e he
  · rw [h.others q hq] at he
    exact (hs.sound q e he).of_timing (h.timing _) fun d hd =>
      h.tenure d q hq (hs.links.occupant_of_seat he hd)

theorem Brings.agreed (h : Brings p e s t) (hs : s.Agreed C late) (hp : t.Sound C late e) : t.Agreed C late :=
  h.toOnlyAt.agreed hs fun x hx => by rw [h.entry] at hx; cases hx; exact hp

/-- An ended entry with its clock's counters in bounds and no seat or offer left. -/
theorem State.sound_of_gone (hseat : e.seat = none) (hoffer : e.offer = none) (hclock : e.clock = .ended)
    (hrest : e.resting = false) (hcause : e.displacedCause = false) (hcount : C → e.counted) (hlawful : e.lawful)
    (hadm : (s.sitting e.sitting).admits e ∨ late = some e.sitting ∧ (s.sitting e.sitting).phase = .writing) :
    s.Sound C late e where
  seat d hd := by simp [hseat] at hd
  offer h := by simp [hoffer] at h
  lawful := hlawful
  admitted := hadm
  bounded hC := (Entry.clockBounded_iff e).2 ⟨hcount hC, by simp [hclock], by simp [hrest], fun _ => ⟨hrest, hcause⟩⟩
  runs _ h := by simp [hclock] at h

/-! ### The invariants of the statements -/

theorem seatedAs_occupant {x : Tenure} (h : seatedAs x e) : occupant x = some e.slot := by
  cases x <;> simp_all [seatedAs, occupant]

/-- The agreement of the statements is the links with every entry sound. -/
theorem State.agreed_of_seatsAgree (hr : s.RosterOrdered) (h : s.SeatsAgree) (hc : C → s.ClocksBounded) :
    s.Agreed C none := by
  obtain ⟨hocc, hoff, htable, hnodup, hlimits, hentries⟩ := h
  have places {q : Nat} {e : Entry} (he : s.entry? q = some e) : s.places e := (hentries e (State.mem_of_entry? he)).1
  refine ⟨⟨hr, fun d q => ⟨hocc d q, ?_⟩, fun d q => ⟨fun h => hoff d q (offeree_eq_some.1 h), ?_⟩,
    fun d q => ⟨fun h => ?_, fun h => ?_⟩, hnodup, fun q e he ho => ?_, hlimits⟩, fun q e he => ?_⟩
  · rintro ⟨e, he, hd⟩
    rw [← State.slot_of_entry? he]; exact seatedAs_occupant ((places he).1 d hd)
  · rintro ⟨e, he, hd⟩
    rw [← State.slot_of_entry? he]; exact offeree_eq_some.2 ((places he).2 d hd).1
  · obtain ⟨e, he, hd⟩ := hoff d q (offeree_eq_some.1 h)
    obtain ⟨-, -, -, o, ho, hod, hos⟩ := (places he).2 d hd
    exact List.mem_map.2 ⟨o, ho, by simp [Offer.pair, hod, hos, State.slot_of_entry? he]⟩
  · obtain ⟨o, ho, heq⟩ := List.mem_map.1 h
    obtain ⟨rfl, rfl⟩ : o.seat = d ∧ o.slot = q := by simpa [Offer.pair] using heq
    exact offeree_eq_some.2 (htable o ho)
  · obtain ⟨d, hd⟩ := Option.isSome_iff_exists.1 ho
    exact ((places he).2 d hd).2.1
  · have hmem := State.mem_of_entry? he
    obtain ⟨⟨hseat, hoffer⟩, hlawful, hadm⟩ := hentries e hmem
    refine ⟨hseat, fun h => ?_, hlawful, .inl hadm, fun hC => (hc hC e hmem).1, fun hC => (hc hC e hmem).2⟩
    obtain ⟨d, hd⟩ := Option.isSome_iff_exists.1 h
    exact (hoffer d hd).2.2.1

theorem State.Agreed.seatsAgree (h : s.Agreed C none) : s.SeatsAgree := by
  have hl := h.links
  refine ⟨fun d q => (hl.seated d q).1, fun d q hd => (hl.offered d q).1 (offeree_eq_some.2 hd),
    fun o ho => hl.tenure_of_offer ho, hl.nodup, hl.limits, fun e he => ?_⟩
  have hentry := State.entry?_of_mem hl.roster he
  have hsound := h.sound _ e hentry
  refine ⟨⟨hsound.seat, fun d hd => ?_⟩, hsound.lawful, hsound.admitted.resolve_right (by simp)⟩
  have hten := hl.tenure_of_entry_offer hentry hd
  have hsome : e.offer.isSome := by simp [hd]
  obtain ⟨o, ho, heq⟩ := List.mem_map.1 ((hl.table d e.slot).1 (offeree_eq_some.2 hten))
  exact ⟨hten, hl.apart _ e hentry hsome, hsound.offer hsome, o, ho, by simpa [Offer.pair] using heq⟩

theorem State.Agreed.clocksBounded (h : s.Agreed True none) : s.ClocksBounded := fun e he =>
  have hsound := h.sound _ e (State.entry?_of_mem h.links.roster he)
  ⟨hsound.bounded trivial, hsound.runs trivial⟩

end Sys2Proof.Machine

namespace Sys2Proof.Machine

variable {s t u : State} {p : Nat} {e x : Entry} {C : Prop} {late : Option Nat}

/-! ### The end of an offer, of a need for a seat, of a tenure -/

/-- What follows the CANCEL of an offer that fails is none of the hall. -/
theorem State.failOffer_sameHall (s : State) (o : Offer) (tell : Bool) :
    SameHall ((s.dropOffer o.seat).requestCancel o.seat) (s.failOffer o tell) := by
  unfold State.failOffer
  dsimp only
  refine .trans ?_ ((State.returnCandidate_sameHall _ _).trans (State.retryStranded_sameHall _ _))
  refine .trans (State.removeOffer_sameHall _ o.seat) (.ite ?_ (.refl _))
  split
  · exact State.withdrawOffer_sameHall _ _ _
  · exact .refl _

theorem State.cancelOffer_sameHall (s : State) (o : Offer) :
    SameHall ((s.dropOffer o.seat).requestCancel o.seat) (s.cancelOffer o) := by
  unfold State.cancelOffer
  dsimp only
  refine .trans ?_ (State.retryStranded_sameHall _ _)
  refine .trans ?_ (.ite (State.passOver_sameHall _) (.refl _))
  refine .trans (State.removeOffer_sameHall _ o.seat) (.ite ?_ (.refl _))
  split
  · exact State.withdrawOffer_sameHall _ _ _
  · exact .refl _

theorem State.failOffer_brings (hs : s.Linked) {o : Offer} (ho : o ∈ s.placement.offers) (he : s.entry? o.slot = some e)
    (tell : Bool) : Brings o.slot { e with offer := none } s (s.failOffer o tell) :=
  (State.dropOffer_cancel_brings hs ho he).sameHall (State.failOffer_sameHall s o tell)

theorem State.cancelOffer_brings (hs : s.Linked) {o : Offer} (ho : o ∈ s.placement.offers)
    (he : s.entry? o.slot = some e) : Brings o.slot { e with offer := none } s (s.cancelOffer o) :=
  (State.dropOffer_cancel_brings hs ho he).sameHall (State.cancelOffer_sameHall s o)

/-- An entry without its offer is as sound as it was. -/
theorem State.Sound.without_offer (h : s.Sound C late e) : s.Sound C late { e with offer := none } :=
  ⟨h.seat, fun hc => by simp at hc, h.lawful, h.admitted, h.bounded, h.runs⟩

/-- The entry at one slot passes into `x`, its seats elsewhere unread: soundness of one with no seat moves with the
timing alone. -/
theorem State.Sound.of_seatless (h : s.Sound C late e) (hseat : e.seat = none)
    (ht : ∀ k, (t.sitting k).timing = (s.sitting k).timing) : t.Sound C late e :=
  h.of_timing (ht _) fun d hd => by simp [hseat] at hd

theorem State.failOffer_agreed (h : s.Agreed C late) {o : Offer} (ho : o ∈ s.placement.offers) (tell : Bool) :
    (s.failOffer o tell).Agreed C late := by
  obtain ⟨e, he, -, hseat⟩ := h.links.offered_entry (h.links.tenure_of_offer ho)
  have hb := State.failOffer_brings h.links ho he tell
  exact hb.agreed h ((h.sound _ e he).without_offer.of_seatless hseat hb.timing)

theorem State.cancelOffer_agreed (h : s.Agreed C late) {o : Offer} (ho : o ∈ s.placement.offers) :
    (s.cancelOffer o).Agreed C late := by
  obtain ⟨e, he, -, hseat⟩ := h.links.offered_entry (h.links.tenure_of_offer ho)
  have hb := State.cancelOffer_brings h.links ho he
  exact hb.agreed h ((h.sound _ e he).without_offer.of_seatless hseat hb.timing)

theorem State.offerOn?_mem {d : Nat} {o : Offer} (h : s.offerOn? d = some o) : o ∈ s.placement.offers :=
  List.mem_of_find?_eq_some h

theorem State.Linked.offerFor?_none (hs : s.Linked) (he : s.entry? p = some e) (h : s.offerFor? p = none) :
    e.offer = none := by
  cases hd : e.offer with
  | none => rfl
  | some d =>
    obtain ⟨o, ho, heq⟩ := List.mem_map.1
      ((hs.table d p).1 (offeree_eq_some.2 (hs.tenure_of_entry_offer he hd)))
    have := List.find?_eq_none.1 h o ho
    simp_all [Offer.pair]

/-- The end of a candidate's need for a seat takes its offer and leaves its seat (R55). -/
theorem State.endNeed_brings (hs : s.Linked) (he : s.entry? p = some e) :
    Brings p { e with offer := none } s (s.endNeed p) := by
  unfold State.endNeed
  dsimp only
  refine Brings.sameHall ?_ ((State.leaveReseat_sameHall _ p).trans (State.leaveRetry_sameHall _ p))
  cases h : s.offerFor? p with
  | none =>
    have hoff := hs.offerFor?_none he h
    exact Brings.refl hs (by rw [he, ← hoff])
  | some o =>
    obtain rfl : o.slot = p := by simpa using List.find?_some h
    exact State.cancelOffer_brings hs (List.mem_of_find?_eq_some h) he

theorem State.endNeed_tenure (hs : s.Linked) {d : Nat} (hd : occupant (s.seat d).tenure = some p) :
    ((s.endNeed p).seat d).tenure = (s.seat d).tenure := by
  obtain ⟨e, he, hseat⟩ := (hs.seated d p).1 hd
  have hfor : s.offerFor? p = none := List.find?_eq_none.2 fun o ho hslot => by
    obtain rfl : o.slot = p := by simpa using hslot
    obtain ⟨x, hx, -, hnone⟩ := hs.offered_entry (hs.tenure_of_offer ho)
    rw [he] at hx; cases hx; simp [hseat] at hnone
  unfold State.endNeed
  rw [hfor]
  exact ((State.leaveReseat_sameHall s p).trans (State.leaveRetry_sameHall _ p)).tenure d

/-- A HELD seat of the candidate is released (R90). -/
theorem State.releaseHeld_brings (hs : s.Linked) (he : s.entry? p = some e)
    (hheld : ∀ d, e.seat = some d → (s.seat d).tenure = .held p) :
    Brings p { e with seat := none } s (s.releaseHeld p) := by
  unfold State.releaseHeld
  cases hd : e.seat with
  | none => simpa [he, hd] using Brings.refl hs (by rw [he, ← hd])
  | some d => simpa [he, hd, hheld d hd] using State.releaseSeat_brings hs he hd

/-- A VACATED seat of the candidate is released (R110, R113, R116). -/
theorem State.releaseVacated_brings (hs : s.Linked) (he : s.entry? p = some e)
    (hvacated : ∀ d, e.seat = some d → ∃ t, (s.seat d).tenure = .vacated p t) :
    Brings p { e with seat := none } s (s.releaseVacated p) := by
  unfold State.releaseVacated
  cases hd : e.seat with
  | none => simpa [he, hd] using Brings.refl hs (by rw [he, ← hd])
  | some d =>
    obtain ⟨t, ht⟩ := hvacated d hd
    simpa [he, hd, ht] using State.releaseSeat_brings hs he hd

/-! ### What a sound entry's presence says of its seat -/

theorem State.Sound.held (h : s.Sound C late e) (hp : e.presence = .expected ∨ e.presence = .displaced) {d : Nat}
    (hd : e.seat = some d) : (s.seat d).tenure = .held e.slot := by
  have := h.seat d hd
  revert this
  cases (s.seat d).tenure <;> rcases hp with hp | hp <;> simp [seatedAs, hp, eq_comm]

theorem State.Sound.occupied (h : s.Sound C late e) (hp : e.presence = .present) :
    ∃ d, e.seat = some d ∧ (s.seat d).tenure = .occupied e.slot := by
  have hlaw := h.lawful
  simp only [Entry.lawful, hp] at hlaw
  obtain ⟨d, hd⟩ := Option.isSome_iff_exists.1 hlaw.1
  refine ⟨d, hd, ?_⟩
  have := h.seat d hd
  revert this
  cases (s.seat d).tenure <;> simp [seatedAs, hp, eq_comm]

theorem State.Sound.vacated (h : s.Sound C late e) (hp : e.presence = .finished) {d : Nat} (hd : e.seat = some d) :
    ∃ t, (s.seat d).tenure = .vacated e.slot t := by
  have := h.seat d hd
  revert this
  cases (s.seat d).tenure with
  | vacated q t => exact fun hv => ⟨t, by rw [hv.1]⟩
  | _ => simp [seatedAs, hp]

/-- Only a script in the hall or awaited from a VACATED seat, or a candidate awaited, has a seat. -/
theorem State.Sound.seat_none (h : s.Sound C late e) (hp : e.presence = .finished ∨ e.presence = .absent)
    (hc : e.custody ≠ .handedIn) : e.seat = none := by
  cases hd : e.seat with
  | none => rfl
  | some d =>
    have := h.seat d hd
    revert this
    cases (s.seat d).tenure <;> rcases hp with hp | hp <;> simp [seatedAs, hp, hc]

theorem State.Sound.offer_none (h : s.Sound C late e) (hp : e.presence ≠ .expected) (hd : e.presence ≠ .displaced) :
    e.offer = none := by
  cases ho : e.offer with
  | none => rfl
  | some d => simpa [hp, hd] using h.offer (by simp [ho])

/-- A custody beyond the hall, or of a script handed in, is one of a FINISHED candidate. -/
theorem State.Sound.finished (h : s.Sound C late e) (hn : e.custody ≠ .none) (hi : e.custody ≠ .issued) :
    e.presence = .finished := by
  have := h.lawful
  revert this
  unfold Entry.lawful
  cases e.presence <;> simp_all

theorem State.Sound.issued_iff (h : s.Sound C late e) :
    e.custody = .issued ↔ e.presence = .present ∨ e.presence = .displaced := by
  have := h.lawful
  revert this
  unfold Entry.lawful
  cases e.presence <;> simp_all

theorem State.Sound.clock_open (h : s.Sound C late e) (hp : e.presence = .present ∨ e.presence = .displaced) :
    e.clock ≠ .ended := by
  have := h.lawful
  unfold Entry.lawful at this
  rcases hp with hp | hp <;> simp_all

end Sys2Proof.Machine

namespace Sys2Proof.Machine

variable {s s0 t u : State} {p k : Nat} {e x : Entry} {C : Prop} {late late' : Option Nat}

/-! ### A sitting's record is written -/

theorem State.setSitting_linked (hs : s.Linked) {r : Sitting} (hr : r.defn.lateLimit ≤ r.defn.writing) :
    (s.setSitting k r).Linked :=
  ⟨hs.roster, hs.seated, hs.offered, hs.table, hs.nodup, hs.apart, fun j => by
    rw [State.sitting_setSitting]; split
    · exact hr
    · exact hs.limits j⟩

/-- The hall agrees after a sitting's record is written when the new record admits each of its entries. -/
theorem State.setSitting_agreed (h : s.Agreed C late) {r : Sitting} (hr : r.defn.lateLimit ≤ r.defn.writing)
    (hlate : ∀ j, j ≠ k → late = some j → late' = some j)
    (hadm : ∀ p e, s.entry? p = some e → e.sitting = k →
      (r.admits e ∨ late' = some k ∧ r.phase = .writing)
        ∧ (C → e.clock = .running → r.phase = .writing ∨ r.phase = .overtime)) :
    (s.setSitting k r).Agreed C late' := by
  refine ⟨State.setSitting_linked h.links hr, fun p e he => ?_⟩
  have hsound := h.sound p e he
  refine ⟨hsound.seat, hsound.offer, hsound.lawful, ?_, hsound.bounded, ?_⟩
  · rw [State.sitting_setSitting]
    by_cases hk : e.sitting = k
    · simpa [hk] using (hadm p e he hk).1
    · simpa only [hk, if_false] using hsound.admitted.imp_right fun hl => ⟨hlate _ hk hl.1, hl.2⟩
  · rw [State.sitting_setSitting]
    by_cases hk : e.sitting = k
    · simpa [hk] using (hadm p e he hk).2
    · simpa only [hk, if_false] using hsound.runs

theorem State.changeSitting_agreed (h : s.Agreed C late) {f : Sitting → Sitting}
    (hr : (f (s.sitting k)).defn.lateLimit ≤ (f (s.sitting k)).defn.writing)
    (hlate : ∀ j, j ≠ k → late = some j → late' = some j)
    (hadm : ∀ p e, s.entry? p = some e → e.sitting = k →
      ((f (s.sitting k)).admits e ∨ late' = some k ∧ (f (s.sitting k)).phase = .writing)
        ∧ (C → e.clock = .running → (f (s.sitting k)).phase = .writing ∨ (f (s.sitting k)).phase = .overtime)) :
    (s.changeSitting k f).Agreed C late' :=
  (State.changeSitting_sameHall s k f).agreed (State.setSitting_agreed h hr hlate hadm)

/-! ### The end of a clock -/

/-- An entry of a sitting in OVERTIME is awaited no longer. -/
theorem State.Sound.not_expected_of_overtime (h : s.Sound C late e)
    (hp : (s.sitting e.sitting).phase = .overtime) : e.presence ≠ .expected := by
  obtain h | ⟨-, h⟩ := h.admitted
  · simpa [Sitting.admits, hp] using h
  · simp [hp] at h

/-- With no clock open a sitting may enter COLLECTING (R70). -/
theorem State.enterCollecting_agreed (h : s.Agreed C late) (hopen : s.openClocks k = false)
    (hpres : ∀ p e, s.entry? p = some e → e.sitting = k → e.presence ≠ .expected) :
    (s.enterCollecting k).Agreed C late := by
  refine State.changeSitting_agreed h (h.links.limits k) (fun _ _ hl => hl) fun p e he hk => ?_
  have hclock : e.clock = .ended := by
    have hmem : e ∈ s.entriesOf k := List.mem_filter.2 ⟨State.mem_of_entry? he, by simp [hk]⟩
    simpa using List.any_eq_false.1 hopen e hmem
  exact ⟨.inl ⟨hclock, hpres p e he hk⟩, fun _ hrun => by simp [hclock] at hrun⟩

/-- The end of a sitting's last clock brings it to COLLECTING with every clock ended (R70). -/
theorem State.clockEnded_agreed (h : s.Agreed C late) (k : Nat) : (s.clockEnded k).Agreed C late := by
  unfold State.clockEnded
  split
  · next hc =>
    obtain ⟨hover, hopen⟩ : (s.sitting k).phase = .overtime ∧ s.openClocks k = false := by simpa using hc
    exact State.enterCollecting_agreed h hopen fun p e he hk =>
      (h.sound p e he).not_expected_of_overtime (hk ▸ hover)
  · exact h

theorem State.tellEnd_agreed (h : s.Agreed C late) (p : Nat) : (s.tellEnd p).Agreed C late := by
  unfold State.tellEnd
  split
  · exact State.clockEnded_agreed h _
  · exact h

/-- Outside OVERTIME the end of a clock is not told on. -/
theorem State.tellEnd_of_phase (he : s.entry? p = some e) (hp : (s.sitting e.sitting).phase ≠ .overtime) :
    s.tellEnd p = s := by
  unfold State.tellEnd State.clockEnded
  simp [he, hp]

theorem State.seat_count (p : Nat) (f : Sitting → Sitting) (d : Nat) : (s.count p f).seat d = s.seat d := by
  unfold State.count; split <;> rfl

theorem State.finishPresent_brings (hs : s.Linked) (he : s.entry? p = some e) :
    Brings p { endClock e with presence := .finished } s (s.finishPresent p) :=
  (State.modEntry_brings hs he (f := fun e => { endClock e with presence := .finished }) fun _ => ⟨rfl, rfl, rfl⟩).sameHall
    (State.count_sameHall _ p (f := dropPresent) fun _ => rfl)

theorem State.handIn_brings (hs : s.Linked) (he : s.entry? p = some e) :
    Brings p { e with custody := .handedIn } s (s.handIn p) :=
  (State.modEntry_brings hs he (f := fun e => { e with custody := .handedIn }) fun _ => ⟨rfl, rfl, rfl⟩).sameHall
    (State.count_sameHall _ p (f := addAwaiting) fun _ => rfl)

theorem State.seat_finishPresent (p d : Nat) : (s.finishPresent p).seat d = s.seat d := State.seat_count ..

theorem State.seat_handIn (p d : Nat) : (s.handIn p).seat d = s.seat d := State.seat_count ..

/-- The entry a candidate leaves when its clock ends with its script handed in (R92, R93). -/
def handedInEntry (e : Entry) : Entry := { endClock e with presence := .finished, custody := .handedIn }

theorem State.finish_handIn_brings (hs : s.Linked) (he : s.entry? p = some e) :
    Brings p (handedInEntry e) s ((s.finishPresent p).handIn p) :=
  have hf := State.finishPresent_brings hs he
  hf.trans (State.handIn_brings hf.links hf.entry)

theorem State.seat_finish_handIn (p d : Nat) : ((s.finishPresent p).handIn p).seat d = s.seat d := by
  rw [State.seat_handIn, State.seat_finishPresent]

/-- What admits a candidate with its clock open admits it with its clock ended and no longer awaited. -/
theorem State.Sound.admitted_ended (h : s.Sound C late e) (hopen : e.clock ≠ .ended) (hk : x.sitting = e.sitting)
    (hnone : e.custody = .none → x.custody = .none) (hended : x.clock = .ended) (hpres : x.presence ≠ .expected)
    (ht : ∀ k, (t.sitting k).timing = (s.sitting k).timing) :
    (t.sitting x.sitting).admits x ∨ late = some x.sitting ∧ (t.sitting x.sitting).phase = .writing := by
  rw [hk, Sitting.admits_congr (ht _), show (t.sitting e.sitting).phase = _ from congrArg Prod.fst (ht _)]
  exact h.admitted.imp_left fun hadm => Sitting.admits_of_ended hadm hopen hnone hended hpres

/-- What stands before Sitting Control is told that a PRESENT candidate's clock has ended (R92, steps 1 to 4). -/
theorem State.endPresent_eq (hs : s.Linked) (he : s.entry? p = some e) (hsound : s.Sound False late e)
    (hp : e.presence = .present) :
    ∃ v, s.endPresent p = v.tellEnd p ∧ Brings p (handedInEntry e) s v
      ∧ ∀ d, e.seat = some d → ∃ tag, e.tag = some tag ∧ (v.seat d).tenure = .vacated p tag := by
  obtain ⟨d, hd, hocc⟩ := hsound.occupied hp
  rw [State.slot_of_entry? he] at hocc
  have hlaw := hsound.lawful
  simp only [Entry.lawful, hp] at hlaw
  obtain ⟨tag, htag⟩ := Option.isSome_iff_exists.1 hlaw.2.2.2
  have hb := State.finish_handIn_brings hs he
  have hv : ((s.finishPresent p).handIn p).requestVacate d
      = ((s.finishPresent p).handIn p).setSeat d { s.seat d with tenure := .vacated p tag } := by
    unfold State.requestVacate State.tagOf
    rw [State.seat_finish_handIn, hocc]
    simp only [hb.entry]
    simp [handedInEntry, endClock, htag]
  refine ⟨((s.finishPresent p).handIn p).requestVacate d, ?_, ?_, fun j hj => ?_⟩
  · unfold State.endPresent
    simp only [hb.entry, Option.bind_some, show (handedInEntry e).seat = some d from hd]
  · rw [hv]
    exact hb.trans (State.setSeat_brings hb.links hb.entry (show (handedInEntry e).seat = some d from hd) rfl)
  · rw [hd] at hj; cases hj
    exact ⟨tag, htag, by rw [hv, State.seat_setSeat, if_pos rfl]⟩

theorem handedInEntry_sound (hsound : s.Sound False late e) (hcount : C → e.counted)
    (hp : e.presence = .present ∨ e.presence = .displaced)
    (ht : ∀ k, (t.sitting k).timing = (s.sitting k).timing) (hoffer : x.offer = none)
    (hx : x = handedInEntry e ∨ x = { handedInEntry e with offer := none, seat := none })
    (hseat : ∀ d, x.seat = some d → ∃ tag, e.tag = some tag ∧ (t.seat d).tenure = .vacated e.slot tag) :
    t.Sound C late x := by
  have hissued := hsound.issued_iff.2 hp
  have hadm := hsound.admitted_ended (t := t) (x := handedInEntry e) (hsound.clock_open hp) rfl
    (by simp [hissued]) rfl (by simp [handedInEntry]) ht
  have hclock : x.clock = .ended ∧ x.resting = false ∧ x.displacedCause = false := by rcases hx with rfl | rfl <;> exact ⟨rfl, rfl, rfl⟩
  refine ⟨fun d hd => ?_, by simp [hoffer], ?_, ?_, fun hC => (Entry.clockBounded_iff x).2 ⟨?_, ?_⟩, ?_⟩
  · obtain ⟨tag, htag, hten⟩ := hseat d hd
    rw [hten]
    rcases hx with rfl | rfl
    · exact ⟨rfl, rfl, rfl, htag⟩
    · cases hd
  · rcases hx with rfl | rfl <;> exact ⟨rfl, by simp [handedInEntry]⟩
  · rcases hx with rfl | rfl <;> exact hadm
  · rcases hx with rfl | rfl <;> exact hcount hC
  · simp [hclock]
  · simp [hclock]

/-- The end of a PRESENT candidate's clock (R92). -/
theorem State.endPresent_agreed (h : s0.Agreed C late) (hb : Brings p e s0 s) (hsound : s.Sound False late e)
    (hcount : C → e.counted) (hp : e.presence = .present) : (s.endPresent p).Agreed C late := by
  obtain ⟨v, heq, hv, hvac⟩ := State.endPresent_eq hb.links hb.entry hsound hp
  rw [heq]
  refine State.tellEnd_agreed ((hb.trans hv).agreed h ?_) p
  refine handedInEntry_sound hsound hcount (.inl hp) hv.timing (hsound.offer_none (by simp [hp]) (by simp [hp])) (.inl rfl) ?_
  rw [State.slot_of_entry? hb.entry]
  exact hvac

/-- The end of a DISPLACED candidate's clock (R93). -/
theorem State.endDisplaced_eq (hs : s.Linked) (he : s.entry? p = some e) (hsound : s.Sound False late e)
    (hp : e.presence = .displaced) :
    ∃ v, s.endDisplaced p = (v.tellEnd p).checkRun
      ∧ Brings p { handedInEntry e with offer := none, seat := none } s v := by
  have hb := State.finish_handIn_brings hs he
  have hn := State.endNeed_brings hb.links hb.entry
  refine ⟨_, rfl, hb.trans (hn.trans (State.releaseHeld_brings hn.links hn.entry fun d hd => ?_))⟩
  have hheld := hsound.held (.inr hp) hd
  rw [State.slot_of_entry? he] at hheld
  have hten : (((s.finishPresent p).handIn p).seat d).tenure = .held p := by rw [State.seat_finish_handIn, hheld]
  rw [State.endNeed_tenure hb.links (by rw [hten]; rfl), hten]

theorem State.endDisplaced_agreed (h : s0.Agreed C late) (hb : Brings p e s0 s) (hsound : s.Sound False late e)
    (hcount : C → e.counted) (hp : e.presence = .displaced) : (s.endDisplaced p).Agreed C late := by
  obtain ⟨v, heq, hv⟩ := State.endDisplaced_eq hb.links hb.entry hsound hp
  rw [heq]
  refine (State.checkRun_sameHall _).agreed (State.tellEnd_agreed ((hb.trans hv).agreed h ?_) p)
  exact handedInEntry_sound hsound hcount (.inr hp) hv.timing rfl (.inr rfl) (by simp)

theorem Sitting.admits_endClock {r : Sitting} (h : r.admits e) : r.admits (endClock e) := by
  unfold Sitting.admits at h ⊢
  split at h <;> simp_all [endClock]

/-- A clock that ends with its candidate not in the hall leaves the entry sound. -/
theorem State.Sound.clock_ended (hsound : s.Sound False late e) (hcount : C → e.counted) (hp : e.presence ≠ .present)
    (hd : e.presence ≠ .displaced) : s.Sound C late (endClock e) where
  seat := hsound.seat
  offer := hsound.offer
  lawful := by
    have := hsound.lawful
    unfold Entry.lawful at this ⊢
    revert this hp hd
    simp only [endClock]
    cases e.presence <;> simp
  admitted := hsound.admitted.imp_left Sitting.admits_endClock
  bounded hC := (Entry.clockBounded_iff _).2
    ⟨hcount hC, by simp [endClock], by simp [endClock], by simp [endClock]⟩
  runs _ := by simp [endClock]

/-- The expiry of a clock, by presence (R93). -/
theorem State.expire_agreed (h : s0.Agreed C late) (hb : Brings p e s0 s) (hsound : s.Sound False late e)
    (hcount : C → e.counted) : (s.expire p).Agreed C late := by
  unfold State.expire
  rw [hb.entry]
  dsimp only
  have closed (hp : e.presence ≠ .present) (hd : e.presence ≠ .displaced) :
      ((s.modEntry p endClock).tellEnd p).Agreed C late := by
    have hv := State.modEntry_brings hb.links hb.entry (f := endClock) fun _ => ⟨rfl, rfl, rfl⟩
    exact State.tellEnd_agreed ((hb.trans hv).agreed h ((hsound.clock_ended hcount hp hd).of_timing rfl fun _ _ => rfl)) p
  cases hp : e.presence with
  | present => exact (State.queueClock_sameHall _ p true).agreed (State.endPresent_agreed h hb hsound hcount hp)
  | displaced => exact State.endDisplaced_agreed h hb hsound hcount hp
  | expected | finished | absent => exact closed (by simp [hp]) (by simp [hp])

end Sys2Proof.Machine

namespace Sys2Proof.Machine

variable {s s0 t u : State} {p k : Nat} {e x : Entry} {C : Prop} {late late' : Option Nat}

/-! ### Candidates awaited no longer -/

/-- The entry an EXPECTED candidate leaves when it is awaited no longer, with presence `q` (R90, R94). -/
def goneEntry (q : Presence) (e : Entry) : Entry := { endClock e with presence := q, seat := none, offer := none }

/-- The end of an EXPECTED candidate's clock as ABSENT or FINISHED, its HELD seat and its offer given up (R90, R94). -/
theorem State.leave_brings (hs : s.Linked) (he : s.entry? p = some e) (hsound : s.Sound C late e)
    (hp : e.presence = .expected) (q : Presence) :
    Brings p (goneEntry q e) s
      (((s.modEntry p fun e => { endClock e with presence := q }).releaseHeld p).endNeed p) := by
  have hm := State.modEntry_brings hs he (f := fun e => { endClock e with presence := q }) fun _ => ⟨rfl, rfl, rfl⟩
  have hr := State.releaseHeld_brings hm.links hm.entry fun d hd => by
    rw [State.seat_modEntry, hsound.held (.inl hp) hd, State.slot_of_entry? he]
  exact hm.trans (hr.trans (State.endNeed_brings hr.links hr.entry))

theorem State.Sound.gone (h : s.Sound C late e) (hp : e.presence = .expected) {q : Presence}
    (hq : q = .absent ∨ q = .finished) (ht : ∀ k, (t.sitting k).timing = (s.sitting k).timing) :
    t.Sound C none (goneEntry q e) := by
  have hnone : e.custody = .none := by simpa [Entry.lawful, hp] using h.lawful
  have hcount (hC : C) : e.counted := ((Entry.clockBounded_iff e).1 (h.bounded hC)).1
  have hne : (goneEntry q e).presence ≠ .expected := by rcases hq with rfl | rfl <;> simp [goneEntry]
  refine State.sound_of_gone rfl rfl rfl rfl rfl hcount ?_ (.inl ?_)
  · rcases hq with rfl | rfl <;> simp [Entry.lawful, goneEntry, endClock, hnone]
  · change (t.sitting e.sitting).admits _
    rw [Sitting.admits_congr (ht _)]
    obtain hadm | ⟨-, hw⟩ := h.admitted
    · have hc : (goneEntry q e).custody = e.custody := rfl
      have hended : (goneEntry q e).clock = .ended := rfl
      revert hadm
      unfold Sitting.admits
      split <;> simp_all
    · simp [Sitting.admits, hw, hne]

theorem State.Sound.mono (h : s.Sound C none e) : s.Sound C late e :=
  ⟨h.seat, h.offer, h.lawful, .inl (h.admitted.resolve_right (by simp)), h.bounded, h.runs⟩

/-- An EXPECTED candidate becomes ABSENT (R90). -/
theorem State.makeAbsent_brings (hs : s.Linked) (he : s.entry? p = some e) (hsound : s.Sound C late e)
    (hp : e.presence = .expected) : Brings p (goneEntry .absent e) s (s.makeAbsent p) :=
  State.leave_brings hs he hsound hp .absent

theorem State.makeAbsent_agreed (h : s.Agreed C late) (he : s.entry? p = some e) (hp : e.presence = .expected) :
    (s.makeAbsent p).Agreed C late :=
  have hsound := h.sound p e he
  have hb := State.makeAbsent_brings h.links he hsound hp
  hb.agreed h (hsound.gone hp (.inl rfl) hb.timing).mono

/-- END_CANDIDATE of an EXPECTED candidate (R94). -/
theorem State.endExpected_agreed (h : s.Agreed C late) (he : s.entry? p = some e) (hp : e.presence = .expected) :
    (s.endExpected p).Agreed C late := by
  have hsound := h.sound p e he
  have hb := State.leave_brings h.links he hsound hp .finished
  exact (State.checkRun_sameHall _).agreed
    (State.tellEnd_agreed (hb.agreed h (hsound.gone hp (.inr rfl) hb.timing).mono) p)

/-! ### Runs over the entries of a sitting -/

theorem State.slotsOf_nodup (hs : s.RosterOrdered) (f : Entry → Bool) : (s.slotsOf k f).Nodup :=
  hs.2.1.sublist (List.Sublist.map _ (List.filter_sublist.trans List.filter_sublist))

theorem State.mem_slotsOf (hs : s.RosterOrdered) {f : Entry → Bool} :
    p ∈ s.slotsOf k f ↔ ∃ e, s.entry? p = some e ∧ e.sitting = k ∧ f e = true := by
  simp only [State.slotsOf, State.entriesOf, List.mem_map, List.mem_filter, beq_iff_eq]
  constructor
  · rintro ⟨e, ⟨⟨he, hk⟩, hf⟩, rfl⟩; exact ⟨e, State.entry?_of_mem hs he, hk, hf⟩
  · rintro ⟨e, he, hk, hf⟩; exact ⟨e, ⟨⟨State.mem_of_entry? he, hk⟩, hf⟩, State.slot_of_entry? he⟩

/-- An operation done at each slot of a list, which changes that slot alone, finds each entry as it stood at first and
leaves of it what one operation leaves. -/
theorem foldl_onlyAt {f : State → Nat → State} {I : State → Prop} {pre post : Entry → Prop}
    (hf : ∀ u p e, I u → u.entry? p = some e → pre e → I (f u p) ∧ OnlyAt p u (f u p)
      ∧ ∃ x, (f u p).entry? p = some x ∧ post x)
    {l : List Nat} (hl : l.Nodup) (hs : I s) (hpre : ∀ p ∈ l, ∃ e, s.entry? p = some e ∧ pre e) :
    I (l.foldl f s) ∧ (∀ q, q ∉ l → (l.foldl f s).entry? q = s.entry? q)
      ∧ (∀ q ∈ l, ∃ x, (l.foldl f s).entry? q = some x ∧ post x)
      ∧ (∀ k, ((l.foldl f s).sitting k).timing = (s.sitting k).timing) := by
  induction l generalizing s with
  | nil => exact ⟨hs, fun _ _ => rfl, by simp, fun _ => rfl⟩
  | cons p l ih =>
    obtain ⟨hp, hl⟩ := List.nodup_cons.1 hl
    obtain ⟨e, he, hpe⟩ := hpre p (by simp)
    obtain ⟨hi, hat, x, hx, hpost⟩ := hf s p e hs he hpe
    obtain ⟨hI, hout, hin, ht⟩ := ih hl hi fun q hq => by
      rw [hat.others q (fun h => hp (h ▸ hq))]; exact hpre q (by simp [hq])
    refine ⟨hI, fun q hq => ?_, fun q hq => ?_, fun k => (ht k).trans (hat.timing k)⟩
    · obtain ⟨hne, hnot⟩ : q ≠ p ∧ q ∉ l := by simpa using hq
      exact (hout q hnot).trans (hat.others q hne)
    · rcases List.mem_cons.1 hq with rfl | hq
      · exact ⟨x, by rw [List.foldl_cons, hout _ hp, hx], hpost⟩
      · exact hin q hq

/-- The late limit: no candidate of the sitting is EXPECTED after it (R90). -/
theorem State.absences_agreed (h : s.Agreed C late) (hlate : ∀ j, j ≠ k → late ≠ some j) :
    (s.absences k).Agreed C none ∧ ∀ j, ((s.absences k).sitting j).timing = (s.sitting j).timing := by
  have hfold := foldl_onlyAt (f := State.makeAbsent) (I := fun u => u.Agreed C late)
    (pre := fun e => e.presence = .expected) (post := fun e => e.presence ≠ .expected)
    (fun u p e hu he hp => ⟨State.makeAbsent_agreed hu he hp,
      (State.makeAbsent_brings hu.links he (hu.sound p e he) hp).toOnlyAt,
      _, (State.makeAbsent_brings hu.links he (hu.sound p e he) hp).entry, by simp [goneEntry]⟩)
    (State.slotsOf_nodup (k := k) h.links.roster fun e => decide (e.presence = .expected)) h fun p hp => by
      obtain ⟨e, he, -, hexp⟩ := (State.mem_slotsOf h.links.roster).1 hp
      exact ⟨e, he, by simpa using hexp⟩
  obtain ⟨hagreed, hout, hin, ht⟩ := hfold
  have hcheck := State.checkRun_sameHall
    ((s.slotsOf k fun e => decide (e.presence = .expected)).foldl State.makeAbsent s)
  refine ⟨hcheck.agreed ⟨hagreed.links, fun p e he => ?_⟩, fun j => (hcheck.timing j).trans (ht j)⟩
  have hsound := hagreed.sound p e he
  refine ⟨hsound.seat, hsound.offer, hsound.lawful, .inl ?_, hsound.bounded, hsound.runs⟩
  obtain hadm | ⟨hl, hw⟩ := hsound.admitted
  · exact hadm
  · have hk : e.sitting = k := by
      by_contra hne; exact hlate _ hne hl
    have hne : e.presence ≠ .expected := by
      by_cases hp : p ∈ s.slotsOf k fun e => decide (e.presence = .expected)
      · obtain ⟨x, hx, hpost⟩ := hin p hp
        rw [he] at hx; cases hx; exact hpost
      · have hes := he
        rw [hout p hp] at hes
        exact fun hc => hp ((State.mem_slotsOf h.links.roster).2 ⟨e, hes, hk, by simp [hc]⟩)
    simp [Sitting.admits, hw, hne]

end Sys2Proof.Machine

namespace Sys2Proof.Machine

variable {s s0 t u : State} {p k : Nat} {e x : Entry} {C : Prop} {late late' : Option Nat}

/-! ### Warnings, the start of clocks -/

theorem State.queueWarn_sameHall (s : State) (e : Entry) (m : Nat) : SameHall s (s.queueWarn e m) :=
  (State.queueWarn_only s e m (List.Subset.refl _) (.refl _ _)).sameHall (by decide)

/-- Warnings set their flags and touch nothing else of an entry (R101). -/
theorem State.fireWarnings_brings (hs : s.Linked) (he : s.entry? p = some e) :
    ∃ a b, Brings p { e with warned1 := a, warned2 := b } s (s.fireWarnings p) := by
  have flag1 : Brings p { e with warned1 := true } s
      ((s.modEntry p fun e => { e with warned1 := true }).queueWarn e 1) :=
    (State.modEntry_brings hs he (f := fun e => { e with warned1 := true }) fun _ => ⟨rfl, rfl, rfl⟩).sameHall
      (State.queueWarn_sameHall _ _ _)
  have flag2 {v : State} {y : Entry} (hv : Brings p y s v) : Brings p { y with warned2 := true } s
      ((v.modEntry p fun e => { e with warned2 := true }).queueWarn e 2) :=
    hv.trans ((State.modEntry_brings hv.links hv.entry (f := fun e => { e with warned2 := true })
      fun _ => ⟨rfl, rfl, rfl⟩).sameHall (State.queueWarn_sameHall _ _ _))
  unfold State.fireWarnings
  rw [he]
  dsimp only
  split
  · split <;> split
    · exact ⟨true, true, flag2 flag1⟩
    · exact ⟨e.warned1, true, flag2 (.refl hs he)⟩
    · exact ⟨true, e.warned2, flag1⟩
    · exact ⟨e.warned1, e.warned2, .refl hs he⟩
  · exact ⟨e.warned1, e.warned2, .refl hs he⟩

theorem State.fireWarnings_seat (p d : Nat) : (s.fireWarnings p).seat d = s.seat d := by
  have h : (s.fireWarnings p).seatMap.seats = s.seatMap.seats :=
    (State.fireWarnings_only s p (List.Subset.refl _) (.refl _ _)).rest .seats (by decide)
  unfold State.seat; rw [h]

theorem State.fireWarnings_agreed (h : s0.Agreed C late) (hb : Brings p e s0 s) (hsound : s.Sound C late e) :
    (s.fireWarnings p).Agreed C late := by
  obtain ⟨a, b, hw⟩ := State.fireWarnings_brings hb.links hb.entry
  have hflags : s.Sound C late { e with warned1 := a, warned2 := b } :=
    ⟨hsound.seat, hsound.offer, hsound.lawful, hsound.admitted, hsound.bounded, hsound.runs⟩
  exact (hb.trans hw).agreed h (hflags.of_timing (hw.timing _) fun d _ => by rw [State.fireWarnings_seat])

/-- An expiry outside OVERTIME changes its own slot alone, and the clock there has ended. -/
theorem State.expire_onlyAt (hs : s.Linked) (he : s.entry? p = some e) (hsound : s.Sound False late e)
    (hphase : (s.sitting e.sitting).phase ≠ .overtime) :
    OnlyAt p s (s.expire p) ∧ ∃ x, (s.expire p).entry? p = some x ∧ x.clock = .ended := by
  have phase {v : State} {y : Entry} (hv : Brings p y s v) (hk : y.sitting = e.sitting) :
      (v.sitting y.sitting).phase ≠ .overtime := by
    rw [hk, show (v.sitting e.sitting).phase = _ from congrArg Prod.fst (hv.timing _)]; exact hphase
  unfold State.expire
  rw [he]
  dsimp only
  have closed : Brings p (endClock e) s ((s.modEntry p endClock).tellEnd p) := by
    have hv := State.modEntry_brings hs he (f := endClock) fun _ => ⟨rfl, rfl, rfl⟩
    rw [State.tellEnd_of_phase hv.entry (phase hv rfl)]; exact hv
  cases hp : e.presence with
  | present =>
    obtain ⟨v, heq, hv, -⟩ := State.endPresent_eq hs he hsound hp
    have hb := hv.sameHall (State.queueClock_sameHall v p true)
    rw [heq, State.tellEnd_of_phase hv.entry (phase hv rfl)]
    exact ⟨hb.toOnlyAt, _, hb.entry, rfl⟩
  | displaced =>
    obtain ⟨v, heq, hv⟩ := State.endDisplaced_eq hs he hsound hp
    have hb := hv.sameHall (State.checkRun_sameHall v)
    rw [heq, State.tellEnd_of_phase hv.entry (phase hv rfl)]
    exact ⟨hb.toOnlyAt, _, hb.entry, rfl⟩
  | expected | finished | absent => exact ⟨closed.toOnlyAt, _, closed.entry, rfl⟩

/-- A WAITING clock of a sitting in WRITING starts (R87). -/
theorem State.startClock_agreed (h : s.Agreed C late) (he : s.entry? p = some e) (hwait : e.clock = .waiting)
    (hphase : (s.sitting e.sitting).phase = .writing) :
    (s.startClock p).Agreed C late ∧ OnlyAt p s (s.startClock p)
      ∧ ∃ x, (s.startClock p).entry? p = some x ∧ x.clock ≠ .waiting := by
  have hsound := h.sound p e he
  have hb := State.modEntry_brings h.links he (f := fun e => { e with clock := .running }) fun _ => ⟨rfl, rfl, rfl⟩
  have hcount (hC : C) : Entry.counted { e with clock := .running } := ((Entry.clockBounded_iff e).1 (hsound.bounded hC)).1
  have hrun : (s.modEntry p fun e => { e with clock := .running }).Sound False late { e with clock := .running } := by
    refine ⟨hsound.seat, hsound.offer, ?_, ?_, False.elim, fun _ _ => .inl hphase⟩
    · have := hsound.lawful
      unfold Entry.lawful at this ⊢
      revert this
      cases e.presence <;> simp [hwait]
    · refine hsound.admitted.imp_left fun hadm => ?_
      simpa [Sitting.admits, hphase] using hadm
  unfold State.startClock
  dsimp only
  rw [hb.entry]
  dsimp only
  split
  · obtain ⟨hat, x, hx, hend⟩ := State.expire_onlyAt hb.links hb.entry hrun (by
      change (s.sitting e.sitting).phase ≠ _; simp [hphase])
    exact ⟨State.expire_agreed h hb hrun hcount, hb.toOnlyAt.trans hat, x, hx, by simp [hend]⟩
  · next hrem =>
    have hfull : (s.modEntry p fun e => { e with clock := .running }).Sound C late { e with clock := .running } := by
      refine ⟨hrun.seat, hrun.offer, hrun.lawful, hrun.admitted, fun hC => ?_, fun _ _ => .inl hphase⟩
      obtain ⟨-, -, hrest, -⟩ := (Entry.clockBounded_iff e).1 (hsound.bounded hC)
      exact (Entry.clockBounded_iff _).2 ⟨hcount hC, fun _ => Nat.lt_of_sub_ne_zero hrem, hrest, by simp⟩
    obtain ⟨a, b, hw⟩ := State.fireWarnings_brings hb.links hb.entry
    have hall : SameHall ((s.modEntry p fun e => { e with clock := .running }).fireWarnings p)
        (if ((s.modEntry p fun e => { e with clock := .running }).fireWarnings p).atOccupied { e with clock := .running }
          then ((s.modEntry p fun e => { e with clock := .running }).fireWarnings p).queueClock p true
          else (s.modEntry p fun e => { e with clock := .running }).fireWarnings p) :=
      .ite (State.queueClock_sameHall _ _ _) (.refl _)
    exact ⟨hall.agreed (State.fireWarnings_agreed h hb hfull), ((hb.trans hw).sameHall hall).toOnlyAt, _,
      ((hb.trans hw).sameHall hall).entry, by simp⟩

/-- Every WAITING clock of a sitting in WRITING starts (R87). -/
theorem State.startClocks_agreed (h : s.Agreed C late) (hphase : (s.sitting k).phase = .writing) :
    (s.startClocks k).Agreed C late ∧ ∀ j, ((s.startClocks k).sitting j).timing = (s.sitting j).timing := by
  have hfold := foldl_onlyAt (f := State.startClock)
    (I := fun u => u.Agreed C late ∧ (u.sitting k).phase = .writing)
    (pre := fun e => e.sitting = k ∧ e.clock = .waiting) (post := fun e => e.clock ≠ .waiting)
    (fun u p e hu he hp => by
      obtain ⟨hu, hw⟩ := hu
      obtain ⟨hk, hc⟩ := hp
      obtain ⟨hagreed, hat, hpost⟩ := State.startClock_agreed hu he hc (by rw [hk]; exact hw)
      exact ⟨⟨hagreed, by rw [show ((u.startClock p).sitting k).phase = _ from congrArg Prod.fst (hat.timing k)]; exact hw⟩,
        hat, hpost⟩)
    (State.slotsOf_nodup (k := k) h.links.roster fun e => decide (e.clock = .waiting)) ⟨h, hphase⟩ fun p hp => by
      obtain ⟨e, he, hk, hc⟩ := (State.mem_slotsOf h.links.roster).1 hp
      exact ⟨e, he, hk, by simpa using hc⟩
  exact ⟨hfold.1.1, hfold.2.2.2⟩

/-! ### The phases of a sitting -/

/-- Once the late limit lies ahead, no exception is left. -/
theorem State.Agreed.settle_late (h : s.Agreed C (some k)) (hl : (s.sitting k).elapsed < (s.sitting k).defn.lateLimit) :
    s.Agreed C none := by
  refine ⟨h.links, fun p e he => ?_⟩
  have hsound := h.sound p e he
  refine ⟨hsound.seat, hsound.offer, hsound.lawful, .inl ?_, hsound.bounded, hsound.runs⟩
  obtain hadm | ⟨hk, hw⟩ := hsound.admitted
  · exact hadm
  · obtain rfl : k = e.sitting := by simpa using hk
    simp only [Sitting.admits, hw]; omega

/-- The sitting record at its entry to WRITING, the writing elapsed at its start (R67). -/
def writingEntered (r : Sitting) : Sitting := { r with phase := .writing, elapsed := 0 }

/-- Entry to WRITING (R67, R87). -/
theorem State.enterWriting_agreed (h : s.Agreed C none) (k : Nat) : (s.enterWriting k).Agreed C none := by
  have hwriting : (s.changeSitting k writingEntered).Agreed C (some k) :=
    State.changeSitting_agreed h (h.links.limits k) (by simp) fun _ _ _ _ => ⟨.inr ⟨rfl, rfl⟩, fun _ _ => .inl rfl⟩
  have ht : ((s.changeSitting k writingEntered).sitting k).timing = (writingEntered (s.sitting k)).timing := by
    rw [(State.changeSitting_sameHall s k writingEntered).timing, State.sitting_setSitting, if_pos rfl]
  obtain ⟨hclocks, hct⟩ := State.startClocks_agreed hwriting (k := k) (congrArg Prod.fst ht)
  unfold State.enterWriting
  dsimp only
  split
  · exact (State.absences_agreed hclocks fun j hj => by simpa using hj.symm).1
  · next hl =>
    have hkt := (hct k).trans ht
    have helapsed : (((s.changeSitting k writingEntered).startClocks k).sitting k).elapsed = 0 := congrArg (fun x => x.2.2) hkt
    have hdefn : (((s.changeSitting k writingEntered).startClocks k).sitting k).defn = (s.sitting k).defn :=
      congrArg (fun x => x.2.1) hkt
    exact hclocks.settle_late (by rw [helapsed, hdefn]; omega)

/-- No clock runs in a sitting that is in neither WRITING nor OVERTIME. -/
theorem State.Sound.not_running (h : s.Sound C late e) (hC : C) (hw : (s.sitting e.sitting).phase ≠ .writing)
    (ho : (s.sitting e.sitting).phase ≠ .overtime) : e.clock ≠ .running := fun hrun => by
  rcases h.runs hC hrun with h | h <;> contradiction

/-- A sitting opens or starts its reading time: every entry is admitted (R66, R67). -/
theorem State.changeSitting_early_agreed (h : s.Agreed C none) {f : Sitting → Sitting}
    (hold : (s.sitting k).phase = .defined ∨ (s.sitting k).phase = .opened) (hdefn : ∀ r, (f r).defn = r.defn)
    (hnew : ∀ r, (f r).phase = .opened ∨ (f r).phase = .reading) : (s.changeSitting k f).Agreed C none := by
  refine State.changeSitting_agreed h (by rw [hdefn]; exact h.links.limits k) (by simp) fun p e he hk => ?_
  refine ⟨.inl ?_, fun hC hrun => ?_⟩
  · rcases hnew (s.sitting k) with hn | hn <;> simp [Sitting.admits, hn]
  · refine absurd hrun ((h.sound p e he).not_running hC ?_ ?_) <;> rcases hold with ho | ho <;> simp [hk, ho]

theorem State.enterOpen_agreed (h : s.Agreed C none) (hold : (s.sitting k).phase = .defined) :
    (s.enterOpen k).Agreed C none :=
  State.changeSitting_early_agreed h (.inl hold) (fun _ => rfl) fun _ => .inl rfl

theorem State.sittingStart_agreed (h : s.Agreed C none) (hold : (s.sitting k).phase = .opened) :
    (s.sittingStart k).Agreed C none := by
  unfold State.sittingStart
  split
  · exact State.changeSitting_early_agreed h (.inr hold) (fun _ => rfl) fun _ => .inr rfl
  · exact State.enterWriting_agreed h k

theorem State.countReading_agreed (h : s.Agreed C none) (k : Nat) : (s.countReading k).Agreed C none := by
  have hcount : (s.modSitting k fun r => { r with readingLeft := r.readingLeft - 1 }).Agreed C none :=
    (State.modSitting_sameHall s k (f := fun r => { r with readingLeft := r.readingLeft - 1 }) fun _ => rfl).agreed h
  unfold State.countReading
  dsimp only
  split
  · exact State.enterWriting_agreed hcount k
  · exact hcount

end Sys2Proof.Machine

namespace Sys2Proof.Machine

variable {s s0 t u : State} {p k : Nat} {e x : Entry} {C : Prop} {late late' : Option Nat}

/-! ### The hall second: sittings -/

/-- Writing elapsed advances, and what the late limit then asks for is done (R69, R90). -/
theorem State.advanceWriting_agreed (h : s.Agreed C none) {n : Nat}
    (hphase : (s.sitting k).phase = .writing ∨ (s.sitting k).phase = .overtime)
    (hn : n ≤ (s.sitting k).elapsed + 1) {v : State}
    (hv : v = if (s.sitting k).elapsed < n && decide (n = (s.sitting k).defn.lateLimit) then
      (s.modSitting k fun r => { r with elapsed := n }).absences k else s.modSitting k fun r => { r with elapsed := n }) :
    v.Agreed C none ∧ (v.sitting k).timing = ((s.sitting k).phase, (s.sitting k).defn, n) := by
  have hk : ((s.modSitting k fun r => { r with elapsed := n }).sitting k).timing
      = ((s.sitting k).phase, (s.sitting k).defn, n) := by
    unfold State.modSitting; rw [State.sitting_setSitting, if_pos rfl]; rfl
  have hbound : (s.sitting k).defn.lateLimit ≤ (s.sitting k).defn.writing := h.links.limits k
  split at hv
  · have hlate : (s.modSitting k fun r => { r with elapsed := n }).Agreed C (some k) := by
      refine State.setSitting_agreed h hbound (by simp) fun p e he hek => ⟨?_, fun _ _ => hphase⟩
      obtain hadm := (h.sound p e he).admitted.resolve_right (by simp)
      rw [hek] at hadm
      rcases hphase with hp | hp
      · exact .inr ⟨rfl, hp⟩
      · exact .inl (by simpa [Sitting.admits, hp] using hadm)
    obtain ⟨hagreed, ht⟩ := State.absences_agreed hlate (k := k) fun j hj => by simpa using hj.symm
    exact hv ▸ ⟨hagreed, (ht k).trans hk⟩
  · next hc =>
    refine hv ▸ ⟨State.setSitting_agreed h hbound (by simp) fun p e he hek => ⟨.inl ?_, fun _ _ => hphase⟩, hk⟩
    obtain hadm := (h.sound p e he).admitted.resolve_right (by simp)
    rw [hek] at hadm
    rcases hphase with hp | hp
    · simp only [Sitting.admits, hp] at hadm ⊢
      simp only [Bool.and_eq_true, decide_eq_true_eq] at hc
      exact fun hl => hadm (by omega)
    · simpa [Sitting.admits, hp] using hadm

/-- One hall second of WRITING or OVERTIME (R69, R70). -/
theorem State.countWriting_agreed (h : s.Agreed C none)
    (hphase : (s.sitting k).phase = .writing ∨ (s.sitting k).phase = .overtime) :
    (s.countWriting k).Agreed C none := by
  unfold State.countWriting
  dsimp only
  have hn : min Config.lastSecond ((s.sitting k).elapsed + 1) ≤ (s.sitting k).elapsed + 1 := Nat.min_le_right _ _
  generalize min Config.lastSecond ((s.sitting k).elapsed + 1) = n at hn ⊢
  generalize hv : (if (s.sitting k).elapsed < n && decide (n = (s.sitting k).defn.lateLimit) then
      (s.modSitting k fun r => { r with elapsed := n }).absences k else s.modSitting k fun r => { r with elapsed := n }) = v
  obtain ⟨hagreed, ht⟩ := State.advanceWriting_agreed h hphase hn hv.symm
  split
  · next hw =>
    obtain ⟨hwriting, hend⟩ : (v.sitting k).phase = .writing ∧ n = (s.sitting k).defn.writing := by simpa using hw
    obtain ⟨hdefn, helapsed⟩ : (v.sitting k).defn = (s.sitting k).defn ∧ (v.sitting k).elapsed = n := by
      simpa [Sitting.timing] using (Prod.mk.inj ht).2
    have hpres (q : Nat) (y : Entry) (hy : v.entry? q = some y) (hyk : y.sitting = k) : y.presence ≠ .expected := by
      have hadm := (hagreed.sound q y hy).admitted.resolve_right (by simp)
      rw [hyk] at hadm
      simp only [Sitting.admits, hwriting] at hadm
      exact hadm (by rw [hdefn, helapsed, hend]; exact h.links.limits k)
    split
    · exact State.changeSitting_agreed hagreed (hagreed.links.limits k) (by simp) fun q y hy hyk =>
        ⟨.inl (hpres q y hy hyk), fun _ _ => .inr rfl⟩
    · next hopen => exact State.enterCollecting_agreed hagreed (by simpa using hopen) hpres
  · exact hagreed

/-- One hall second of a sitting, by its phase (R65, R69). -/
theorem State.takeSitting_agreed (h : s.Agreed C none) (k : Nat) : (s.takeSitting k).Agreed C none := by
  unfold State.takeSitting
  split
  · next hp =>
    split
    · dsimp only
      split
      · next hstart =>
        have hopened : ((s.enterOpen k).sitting k).phase = .opened := by
          unfold State.startsNow at hstart
          simp only [Bool.and_eq_true, decide_eq_true_eq] at hstart
          exact hstart.1.1
        exact State.sittingStart_agreed (State.enterOpen_agreed h hp) hopened
      · exact State.enterOpen_agreed h hp
    · exact h
  · next hp =>
    split
    · exact State.sittingStart_agreed h hp
    · exact h
  · split
    · exact h
    · exact State.countReading_agreed h k
  · next hp =>
    split
    · exact h
    · exact State.countWriting_agreed h (.inl hp)
  · next hp =>
    split
    · exact h
    · exact State.countWriting_agreed h (.inr hp)
  · exact h

/-! ### The hall second: clocks -/

theorem State.countOf_eq {c : Count} (h : s.countOf e = c) (hc : c ≠ .nothing) :
    e.clock = .running ∧ ((c = .rest ∧ e.resting = true) ∨ c = .used) := by
  unfold State.countOf at h
  split at h
  · next hrun =>
    simp only [Bool.and_eq_true, decide_eq_true_eq] at hrun
    refine ⟨hrun.1, ?_⟩
    split at h
    · exact absurd h.symm hc
    · split at h
      · next hr => exact .inl ⟨h.symm, hr⟩
      · exact .inr h.symm
  · exact absurd h.symm hc

/-- One hall second of one clock (R86). -/
theorem State.takeClock_agreed (h : s.Agreed C late) (n : Nat) : (s.takeClock n).Agreed C late := by
  unfold State.takeClock
  cases hn : s.byNumber? n with
  | none => exact h
  | some e =>
    have he := State.entry?_of_byNumber? h.links.roster hn
    have hsound := h.sound _ e he
    dsimp only
    cases hc : s.countOf e with
    | nothing => exact h
    | rest =>
      obtain ⟨hrun, hrest⟩ := State.countOf_eq hc (by simp)
      have hresting : e.resting = true := by simpa using hrest
      have hb := State.modEntry_brings h.links he (f := fun e => { e with restUsed := e.restUsed + 1 })
        fun _ => ⟨rfl, rfl, rfl⟩
      have hcount (hC : C) : Entry.counted { e with restUsed := e.restUsed + 1 } := by
        obtain ⟨⟨h1, h2, h3, h4⟩, -, hr, -⟩ := (Entry.clockBounded_iff e).1 (hsound.bounded hC)
        exact ⟨h1, h2, hr hresting, h4⟩
      dsimp only
      split
      · have hend := State.modEntry_brings hb.links hb.entry (f := fun e => { e with resting := false })
          fun _ => ⟨rfl, rfl, rfl⟩
        refine (State.queueClock_sameHall _ _ _).agreed ((hb.trans hend).agreed h
          ⟨hsound.seat, hsound.offer, hsound.lawful, hsound.admitted, fun hC => ?_, hsound.runs⟩)
        obtain ⟨-, hused, -, -⟩ := (Entry.clockBounded_iff e).1 (hsound.bounded hC)
        exact (Entry.clockBounded_iff _).2 ⟨hcount hC, hused, by simp, by simp [hrun]⟩
      · next hleft =>
        refine hb.agreed h ⟨hsound.seat, hsound.offer, hsound.lawful, hsound.admitted, fun hC => ?_, hsound.runs⟩
        obtain ⟨-, hused, -, hend⟩ := (Entry.clockBounded_iff e).1 (hsound.bounded hC)
        exact (Entry.clockBounded_iff _).2 ⟨hcount hC, hused, fun _ => Nat.lt_of_not_le hleft, hend⟩
    | used =>
      obtain ⟨hrun, -⟩ := State.countOf_eq hc (by simp)
      have hb := State.modEntry_brings h.links he (f := fun e => { e with used := e.used + 1 }) fun _ => ⟨rfl, rfl, rfl⟩
      have hcount (hC : C) : Entry.counted { e with used := e.used + 1 } := by
        obtain ⟨⟨-, h2⟩, hu, -, -⟩ := (Entry.clockBounded_iff e).1 (hsound.bounded hC)
        exact ⟨hu hrun, h2⟩
      dsimp only
      split
      · exact State.expire_agreed h hb
          ⟨hsound.seat, hsound.offer, hsound.lawful, hsound.admitted, False.elim, False.elim⟩ hcount
      · next hleft =>
        have hmore : (s.modEntry e.slot fun e => { e with used := e.used + 1 }).Sound C late { e with used := e.used + 1 } := by
          refine ⟨hsound.seat, hsound.offer, hsound.lawful, hsound.admitted, fun hC => ?_, hsound.runs⟩
          obtain ⟨-, -, hrest, hend⟩ := (Entry.clockBounded_iff e).1 (hsound.bounded hC)
          exact (Entry.clockBounded_iff _).2 ⟨hcount hC, fun _ => Nat.lt_of_sub_ne_zero hleft, hrest, hend⟩
        split
        · exact State.fireWarnings_agreed h hb hmore
        · split
          · exact (State.queueClock_sameHall _ _ _).agreed (hb.agreed h hmore)
          · exact hb.agreed h hmore

/-! ### The hall second: offers, and every item -/

theorem State.failDeadline_agreed (h : s.Agreed C late) (d : Nat) : (s.failDeadline d).Agreed C late := by
  unfold State.failDeadline
  cases ho : s.offerOn? d with
  | none => exact h
  | some o => exact State.failOffer_agreed h (State.offerOn?_mem ho) true

theorem foldl_agreed {β : Type} {f : State → β → State} (hf : ∀ u x, u.Agreed C late → (f u x).Agreed C late)
    (l : List β) (h : s.Agreed C late) : (l.foldl f s).Agreed C late := by
  induction l generalizing s with
  | nil => exact h
  | cons x l ih => exact ih (hf s x h)

/-- The stage of an offer is none of the hall. -/
theorem State.setOffers_map_sameHall (s : State) {f : Offer → Offer} (hf : ∀ o, (f o).pair = o.pair) :
    SameHall s (s.setOffers (s.placement.offers.map f)) :=
  ⟨rfl, fun _ => rfl, by
    rw [State.setOffers_placement, List.map_map]; exact List.map_congr_left fun o _ => hf o, fun _ => rfl⟩

theorem tickOffer_pair (o : Offer) : (tickOffer o).pair = o.pair := by unfold tickOffer; split <;> rfl

theorem State.takeOffers_agreed (h : s.Agreed C late) : s.takeOffers.Agreed C late :=
  foldl_agreed (fun _ d hu => State.failDeadline_agreed hu d) _ ((State.setOffers_map_sameHall s tickOffer_pair).agreed h)

theorem State.take_agreed (h : s.Agreed C none) (i : HallItem) : (s.take i).Agreed C none := by
  cases i with
  | lockout =>
    exact ((State.takeLockout_only s (List.Subset.refl _) (.refl _ _)).sameHall (by decide)).agreed h
  | offers => exact State.takeOffers_agreed h
  | clock n => exact State.takeClock_agreed h n
  | bell o => exact ((State.takeBell_only s o (List.Subset.refl _) (.refl _ _)).sameHall (by decide)).agreed h
  | sitting k => exact State.takeSitting_agreed h k

theorem State.setOwed_agreed (h : s.Agreed C late) (l : List HallItem) : (s.setOwed l).Agreed C late :=
  ((State.setOwed_only s l (List.Subset.refl _) (.refl _ _)).sameHall (by decide)).agreed h

theorem State.catchUp_agreed (h : s.Agreed C none) : s.catchUp.Agreed C none :=
  foldl_agreed (fun _ i hu => State.take_agreed hu i) _
    (foldl_agreed (fun _ d hu => State.failDeadline_agreed hu d) _ (State.setOwed_agreed h _))

theorem State.advanceTime_agreed (h : s.Agreed C late) : s.advanceTime.Agreed C late :=
  ((State.advanceTime_only s (List.Subset.refl _) (.refl _ _)).sameHall (by decide)).agreed h

theorem State.takeSecond_agreed (h : s.Agreed C none) (l : List HallItem) : (s.takeSecond l).Agreed C none :=
  foldl_agreed (fun _ i hu => State.take_agreed hu i) _ (State.setOwed_agreed h _)

theorem State.settled_agreed (h : s.Agreed C late) (i : HallItem) : (s.settled i).Agreed C late :=
  State.setOwed_agreed h _

theorem State.reach_agreed (h : s.Agreed C none) (i : HallItem) (b : Bool) : (s.reach i b).Agreed C none := by
  unfold State.reach
  split
  · exact State.take_agreed (State.settled_agreed h i) i
  · exact h

end Sys2Proof.Machine

namespace Sys2Proof.Machine

variable {s s0 t u : State} {p k : Nat} {e x : Entry} {C : Prop} {late late' : Option Nat}

/-! ### Budgets -/

/-- The effects of a recomputed budget, with the entry in its slot as the recomputation leaves it (R100). -/
theorem State.afterRebudget_agreed (h : s0.Agreed C late) (hb : Brings p e s0 s) (hsound : s.Sound False late e)
    (hcount : C → e.counted) (hrest : C → e.resting = true → e.restUsed < e.restAllowance)
    (hended : C → e.clock = .ended → e.resting = false ∧ e.displacedCause = false)
    (hruns : C → e.clock = .running → (s.sitting e.sitting).phase = .writing ∨ (s.sitting e.sitting).phase = .overtime) :
    (s.afterRebudget p).Agreed C late := by
  have sound (hu : C → e.clock = .running → e.used < e.budget) : s.Sound C late e :=
    ⟨hsound.seat, hsound.offer, hsound.lawful, hsound.admitted,
      fun hC => (Entry.clockBounded_iff e).2 ⟨hcount hC, hu hC, hrest hC, hended hC⟩, hruns⟩
  unfold State.afterRebudget
  rw [hb.entry]
  dsimp only
  split
  · split
    · exact State.expire_agreed h hb hsound hcount
    · next hrem =>
      have hfired := State.fireWarnings_agreed h hb (sound fun _ _ => Nat.lt_of_sub_ne_zero hrem)
      split
      · exact (State.queueClock_sameHall _ _ _).agreed hfired
      · exact hfired
  · next hrun => exact hb.agreed h (sound fun _ hr => absurd hr hrun)

theorem budgetOf_bounds (w a : Nat) (sum : Int) {used : Nat} (h : used ≤ Config.lastBudget) :
    used ≤ budgetOf w a sum used ∧ budgetOf w a sum used ≤ Config.lastBudget := by
  have := clampInt_bounds (lo := used) (hi := Config.lastBudget) (by exact_mod_cast h) (budgetFormula w a sum)
  unfold budgetOf
  omega

theorem Entry.counted.rebudget (h : e.counted) (w : Nat) : (rebudget w e).counted := by
  obtain ⟨hu, hb, hrest⟩ := h
  obtain ⟨hl, hr⟩ := budgetOf_bounds w e.allowance e.adjustSum (Nat.le_trans hu hb)
  exact ⟨hl, hr, hrest⟩

/-- An allowance or an adjustment is written, the budget recomputed, and what it reaches done (R14, R99, R100). -/
theorem State.rebudget_agreed (h : s.Agreed C late) (he : s.entry? p = some e) {f : Entry → Entry}
    (hf : ∀ e, ∃ a sum, f e = { e with allowance := a, adjustSum := sum })
    (hcount : C → (f e).counted) (w : Nat) :
    ((s.modEntry p fun e => rebudget w (f e)).afterRebudget p).Agreed C late := by
  have hsound := h.sound p e he
  have hb := State.modEntry_brings h.links he (f := fun e => rebudget w (f e)) fun e => by
    obtain ⟨a, sum, hx⟩ := hf e; dsimp only; rw [hx]; exact ⟨rfl, rfl, rfl⟩
  have bounds (hC : C) := (Entry.clockBounded_iff e).1 (hsound.bounded hC)
  obtain ⟨a, sum, hx⟩ := hf e
  refine State.afterRebudget_agreed h hb ?_ (fun hC => (hcount hC).rebudget w) ?_ ?_ ?_ <;> rw [hx]
  · exact ⟨hsound.seat, hsound.offer, hsound.lawful, hsound.admitted, False.elim, False.elim⟩
  · exact fun hC => (bounds hC).2.2.1
  · exact fun hC => (bounds hC).2.2.2
  · exact hsound.runs

theorem State.amendAllowance_agreed (h : s.Agreed C late) (p : Nat) (a : Option Nat) :
    (s.amendAllowance p a).Agreed C late := by
  cases a with
  | none => exact h
  | some a =>
    unfold State.amendAllowance
    cases he : s.entry? p with
    | none => exact h
    | some e =>
      refine State.rebudget_agreed h he (fun e => ⟨_, e.adjustSum, rfl⟩) (fun hC => ?_) _
      obtain ⟨h1, h2, h3, h4, -, h5⟩ := ((Entry.clockBounded_iff e).1 ((h.sound p e he).bounded hC)).1
      exact ⟨h1, h2, h3, h4, (clampNat_bounds (by omega) a).2, h5⟩

theorem State.adjust_agreed (h : s.Agreed C late) (he : s.entry? e.slot = some e) (n : Int) :
    (s.adjust e n).Agreed C late := by
  refine State.rebudget_agreed h he (fun e => ⟨e.allowance, _, rfl⟩) (fun hC => ?_) _
  obtain ⟨h1, h2, h3, h4, h5, -⟩ := ((Entry.clockBounded_iff e).1 ((h.sound _ e he).bounded hC)).1
  exact ⟨h1, h2, h3, h4, h5, clampInt_bounds (by decide) _⟩

theorem State.amendRest_agreed (h : s.Agreed C late) (p : Nat) (a : Option Nat) : (s.amendRest p a).Agreed C late := by
  cases a with
  | none => exact h
  | some r =>
    unfold State.amendRest
    cases he : s.entry? p with
    | none => exact h
    | some e =>
      have hsound := h.sound p e he
      have hb := State.modEntry_brings h.links he (f := fun e => { e with restAllowance := restWritten e.restUsed r })
        fun _ => ⟨rfl, rfl, rfl⟩
      have hused : e.restUsed ≤ restWritten e.restUsed r := Nat.le_max_left _ _
      have hcount (hC : C) : Entry.counted { e with restAllowance := restWritten e.restUsed r } := by
        obtain ⟨h1, h2, h3, h4, h5⟩ := ((Entry.clockBounded_iff e).1 (hsound.bounded hC)).1
        exact ⟨h1, h2, hused, Nat.max_le.2 ⟨by omega, (clampNat_bounds (by omega) r).2⟩, h5⟩
      dsimp only
      split
      · have hend := State.modEntry_brings hb.links hb.entry (f := fun e => { e with resting := false })
          fun _ => ⟨rfl, rfl, rfl⟩
        refine (State.queueClock_sameHall _ _ _).agreed ((hb.trans hend).agreed h
          ⟨hsound.seat, hsound.offer, hsound.lawful, hsound.admitted, fun hC => ?_, hsound.runs⟩)
        obtain ⟨-, hrun, -, hc⟩ := (Entry.clockBounded_iff e).1 (hsound.bounded hC)
        exact (Entry.clockBounded_iff _).2 ⟨hcount hC, hrun, by simp, fun hx => ⟨rfl, (hc hx).2⟩⟩
      · next hleft =>
        refine hb.agreed h ⟨hsound.seat, hsound.offer, hsound.lawful, hsound.admitted, fun hC => ?_, hsound.runs⟩
        obtain ⟨-, hrun, -, hc⟩ := (Entry.clockBounded_iff e).1 (hsound.bounded hC)
        refine (Entry.clockBounded_iff _).2 ⟨hcount hC, hrun, fun hr => ?_, hc⟩
        simp only [Bool.and_eq_true, decide_eq_true_eq, not_and] at hleft
        exact Nat.lt_of_le_of_ne hused fun hc => hleft hc.symm hr

/-! ### Offers made and accepted -/

theorem usable_tenure {v : Seat} (h : usable v = true) : v.tenure = .empty := by
  simp only [usable, Bool.and_eq_true, decide_eq_true_eq] at h; exact h.1.2

theorem State.fits_tenure {d : Nat} (h : s.fits e d = true) : (s.seat d).tenure = .empty := by
  simp only [State.fits, Bool.and_eq_true] at h; exact usable_tenure h.1.1

theorem State.firstIn_fits {f : Nat → Bool} {g d : Nat} (h : s.firstIn e f g = some d) : s.fits e d = true := by
  have := List.find?_some h
  simp only [Bool.and_eq_true] at this; exact this.1.1

theorem State.pass_fits {f : Nat → Bool} {d : Nat} (h : s.pass e f = some d) : s.fits e d = true := by
  unfold State.pass at h
  split at h
  · next h1 => cases h; exact State.firstIn_fits h1
  · split at h
    · next h2 => cases h; exact State.firstIn_fits h2
    · exact State.firstIn_fits h

theorem State.search_fits {f : Nat → Bool} {d : Nat} (h : s.search e f = some d) : s.fits e d = true := by
  unfold State.search at h
  split at h
  · exact State.pass_fits h
  · split at h
    · next h1 => cases h; exact State.pass_fits h1
    · exact State.pass_fits h

theorem State.searchReseat_fits {r : Reseat} {d : Nat} (h : s.searchReseat e r = some d) : s.fits e d = true := by
  unfold State.searchReseat at h
  dsimp only at h
  split at h
  · split at h
    · next hf =>
      cases h
      simp only [State.suits, Bool.and_eq_true] at hf
      exact hf.1.2
    · exact State.search_fits h
  · exact State.search_fits h

/-- A candidate that waits outside the hall is as sound with another HELD seat, or none, and with another offer. -/
theorem State.Sound.replaced (h : s.Sound C late e) (hp : e.presence = .expected ∨ e.presence = .displaced)
    (ht : ∀ k, (t.sitting k).timing = (s.sitting k).timing) {a b : Option Nat}
    (ha : ∀ d, a = some d → (t.seat d).tenure = .held e.slot) :
    t.Sound C late { e with seat := a, offer := b } := by
  have hphase : (t.sitting e.sitting).phase = (s.sitting e.sitting).phase := congrArg Prod.fst (ht _)
  refine ⟨fun d hd => by rw [ha d hd]; exact ⟨rfl, hp⟩, fun _ => hp, ?_, ?_, h.bounded, fun hC => ?_⟩
  · have := h.lawful
    unfold Entry.lawful at this ⊢
    rcases hp with hp | hp <;> simpa [hp] using this
  · change (t.sitting e.sitting).admits _ ∨ late = some e.sitting ∧ (t.sitting e.sitting).phase = _
    rw [Sitting.admits_congr (ht _), hphase]
    exact h.admitted
  · change _ → (t.sitting e.sitting).phase = _ ∨ (t.sitting e.sitting).phase = _
    rw [hphase]; exact h.runs hC

/-- An offer made to a candidate that awaits a seat (R49). -/
theorem State.makeOffer_agreed (h : s0.Agreed C late) (hb : Brings p e s0 s) (hsound : s.Sound C late e)
    (hp : e.presence = .expected ∨ e.presence = .displaced)
    (hseat : e.seat = none) (hoffer : e.offer = none) {d : Nat} (hd : (s.seat d).tenure = .empty) (x : Purpose)
    (o : Option Nat) : (s.makeOffer p d x o).Agreed C late := by
  have hm := State.makeOffer_brings hb.links hb.entry hseat hoffer hd x o
  exact (hb.trans hm).agreed h (hsound.replaced hp hm.timing fun d hd => by simp [hseat] at hd)

theorem State.serveRun_agreed (h : s.Agreed C late) (r : Run) (p : Nat) : (s.serveRun r p).Agreed C late := by
  have passed (v : Run) : (s.setRun (some v)).Agreed C late := (State.setRun_sameHall s _).agreed h
  unfold State.serveRun
  cases he : s.entry? p with
  | none => exact passed _
  | some e =>
    dsimp only
    split
    · next hwait =>
      simp only [awaitsPlacement, Bool.and_eq_true, decide_eq_true_eq, Option.isNone_iff_eq_none] at hwait
      obtain ⟨⟨⟨-, hp⟩, hseat⟩, hoffer⟩ := hwait
      split
      · next d hd =>
        have hrun := passed r
        have he' : (s.setRun (some r)).entry? p = some e := he
        have hfree : (s.seat d).tenure = .empty := State.fits_tenure (State.search_fits hd)
        exact State.makeOffer_agreed hrun (Brings.refl hrun.links he') (hrun.sound p e he') (.inl hp) hseat hoffer hfree _ _
      · exact passed _
    · exact passed _

theorem State.serveReseat_agreed (h : s.Agreed C late) (r : Reseat) : (s.serveReseat r).Agreed C late := by
  unfold State.serveReseat
  cases he : s.entry? r.slot with
  | none => exact h
  | some e =>
    dsimp only
    split
    · next hwait =>
      simp only [awaitsReseat, Bool.and_eq_true, Bool.or_eq_true, decide_eq_true_eq, Option.isNone_iff_eq_none] at hwait
      obtain ⟨⟨hp, hseat⟩, hoffer⟩ := hwait
      split
      · next d hd =>
        exact State.makeOffer_agreed h (.refl h.links he) (h.sound _ e he) hp hseat hoffer
          (State.fits_tenure (State.searchReseat_fits hd)) _ _
      · exact (State.raise_sameHall _ _ _).agreed h
    · exact h

theorem State.checkRun_agreed (h : s.Agreed C late) : s.checkRun.Agreed C late := (State.checkRun_sameHall s).agreed h

/-- One step of the placement unit (R45). -/
theorem State.placementStep_agreed (h : s.Agreed C late) : s.placementStep.Agreed C late := by
  unfold State.placementStep
  split
  · split
    · exact State.checkRun_agreed (State.serveReseat_agreed ((State.setReseats_sameHall s _).agreed h) _)
    · split
      · split
        · exact State.checkRun_agreed (State.serveRun_agreed h _ _)
        · split
          · exact State.checkRun_agreed (State.serveRun_agreed h _ _)
          · exact h
      · exact h
  · exact h

/-- A matching ACCEPT places the candidate (R52). -/
theorem State.acceptOffer_agreed (h : s.Agreed C late) {o : Offer} (ho : o ∈ s.placement.offers) :
    (s.acceptOffer o).Agreed C late := by
  obtain ⟨e, he, hd, -⟩ := h.links.offered_entry (h.links.tenure_of_offer ho)
  have hsound := h.sound _ e he
  have hp := hsound.offer (by simp [hd])
  obtain ⟨hb, hten⟩ := State.dropOffer_place_brings h.links ho he
  have hplaced : ((s.dropOffer o.seat).requestPlace o.seat).Agreed C late :=
    hb.agreed h (hsound.replaced hp hb.timing fun d hd => by
      obtain rfl : o.seat = d := by simpa using hd
      rw [hten, State.slot_of_entry? he])
  unfold State.acceptOffer
  refine State.checkRun_agreed ((State.countPlaced_sameHall _ o).agreed ((State.showCandidate_sameHall _ _ _ _).agreed
    ((State.removeOffer_sameHall _ o.seat).agreed hplaced)))

end Sys2Proof.Machine

namespace Sys2Proof.Machine

variable {s s0 t u : State} {p k : Nat} {e x : Entry} {C : Prop} {late late' : Option Nat}

/-! ### A candidate loses its seat -/

/-- The entry a candidate leaves that is awaited or in the hall and loses its seat: a PRESENT one is DISPLACED and
paused for it (R28, R60, R97). -/
def awayEntry (e : Entry) : Entry :=
  if e.presence = .present then
    { e with seat := none, presence := .displaced, resting := false, displacedCause := true }
  else { e with seat := none }

theorem Sitting.admits_same {r : Sitting} (h : r.admits e) (hclock : x.clock = e.clock) (hcustody : x.custody = e.custody)
    (hpres : x.presence = .expected → e.presence = .expected) : r.admits x := by
  unfold Sitting.admits at h ⊢
  split at h <;> simp_all
  tauto

theorem State.Sound.displaced (h : s.Sound C late e) (hp : e.presence = .present)
    (ht : ∀ k, (t.sitting k).timing = (s.sitting k).timing) :
    t.Sound C late { e with seat := none, presence := .displaced, resting := false, displacedCause := true } := by
  have hphase : (t.sitting e.sitting).phase = (s.sitting e.sitting).phase := congrArg Prod.fst (ht _)
  have hopen := h.clock_open (.inl hp)
  have hlaw := h.lawful
  simp only [Entry.lawful, hp] at hlaw
  refine ⟨by simp, fun _ => .inr rfl, hlaw.2, ?_, fun hC => ?_, fun hC => ?_⟩
  · change (t.sitting e.sitting).admits _ ∨ late = some e.sitting ∧ (t.sitting e.sitting).phase = _
    rw [Sitting.admits_congr (ht _), hphase]
    exact h.admitted.imp_left fun hadm => by refine Sitting.admits_same hadm rfl rfl ?_; simp
  · obtain ⟨hcount, hused, -, -⟩ := (Entry.clockBounded_iff e).1 (h.bounded hC)
    exact (Entry.clockBounded_iff _).2 ⟨hcount, hused, by simp, fun hc => absurd hc hopen⟩
  · change _ → (t.sitting e.sitting).phase = _ ∨ (t.sitting e.sitting).phase = _
    rw [hphase]; exact h.runs hC

theorem State.Sound.away (h : s.Sound C late e)
    (hp : e.presence = .expected ∨ e.presence = .displaced ∨ e.presence = .present)
    (ht : ∀ k, (t.sitting k).timing = (s.sitting k).timing) : t.Sound C late (awayEntry e) := by
  unfold awayEntry
  split
  · next hpres => exact h.displaced hpres ht
  · next hpres => exact h.replaced (by tauto) ht (by simp)

theorem State.displace_brings (hs : s.Linked) (he : s.entry? p = some e) :
    Brings p { e with presence := .displaced, resting := false, displacedCause := true } s (s.displace p) :=
  State.modEntry_brings hs he (f := fun e => { e with presence := .displaced, resting := false, displacedCause := true })
    fun _ => ⟨rfl, rfl, rfl⟩

/-- The seat of a candidate HELD or OCCUPIED is lost (R28). -/
theorem State.loseCandidate_agreed (h : s.Agreed C late) {d : Nat} {sat : Bool}
    (hd : (s.seat d).tenure = if sat then .occupied p else .held p) : (s.loseCandidate d p sat).Agreed C late := by
  have hocc : occupant (s.seat d).tenure = some p := by rw [hd]; cases sat <;> rfl
  obtain ⟨e, he, hseat⟩ := (h.links.seated d p).1 hocc
  have hsound := h.sound p e he
  have hseated := hsound.seat d hseat
  have hr := (State.requestRelease_brings h.links he hseat).sameHall
    (State.appendReseat_sameHall _ { slot := p, former := some d, excluded := none })
  unfold State.loseCandidate
  refine (State.raise_sameHall _ _ _).agreed ?_
  cases sat with
  | true =>
    have hp : e.presence = .present := by rw [hd] at hseated; exact hseated.2
    have hb := hr.trans (State.displace_brings hr.links hr.entry)
    exact hb.agreed h (hsound.displaced hp hb.timing)
  | false =>
    have hp : e.presence = .expected ∨ e.presence = .displaced := by
      rw [hd] at hseated; exact hseated.2
    exact hr.agreed h (hsound.replaced hp hr.timing (by simp))

theorem State.loseSeat_agreed (h : s.Agreed C late) (d : Nat) : (s.loseSeat d).Agreed C late := by
  have hdown : SameHall s (s.setSeat d { s.seat d with link := .down }) := State.setSeat_sameHall s rfl
  have h1 := hdown.agreed h
  have hten := hdown.tenure d
  unfold State.loseSeat
  cases ht : (s.seat d).tenure with
  | empty | vacated => exact h1
  | offered q =>
    dsimp only
    cases ho : s.offerOn? d with
    | none => exact h1
    | some o => exact State.failOffer_agreed h1 (State.offerOn?_mem ho) false
  | held q => exact State.loseCandidate_agreed h1 (sat := false) (hten.trans ht)
  | occupied q => exact State.loseCandidate_agreed h1 (sat := true) (hten.trans ht)

/-! ### Links and slots -/

theorem State.setLinkRecord_sameHall (s : State) (z u : Nat) (v : LinkRecord) : SameHall s (s.setLinkRecord z u v) :=
  (State.setLinkRecord_state_only s z u v (List.Subset.refl _) (.refl _ _)).sameHall (by decide)

theorem State.goDown_agreed (h : s.Agreed C late) (z u : Nat) : (s.goDown z u).Agreed C late := by
  have h1 := ((State.setLinkRecord_sameHall s z u
    { s.linkRecord z u with state := .down, misses := 0, goods := 0, joinAwaited := false }).trans
    (State.raise_sameHall _ .deskLost (unitSubject z u))).agreed h
  unfold State.goDown
  dsimp only
  split
  · exact State.loseSeat_agreed h1 _
  · exact h1

theorem State.countMiss_agreed (h : s.Agreed C late) (z u : Nat) : (s.countMiss z u).Agreed C late := by
  unfold State.countMiss
  dsimp only
  split
  · exact h
  · exact (State.setLinkRecord_sameHall _ _ _ _).agreed h
  · split
    · exact State.goDown_agreed h z u
    · exact (State.setLinkRecord_sameHall _ _ _ _).agreed h

theorem State.closeWindow_agreed (h : s.Agreed C late) (z : Nat) (f : Frame) : (s.closeWindow z f).Agreed C late := by
  have h1 := ((State.endMiss_only s z (List.Subset.refl _) (.refl _ _)).sameHall (by decide)).agreed h
  unfold State.closeWindow
  split
  · exact h1
  · exact State.countMiss_agreed h1 z _

/-- A good answer counted changes a link, and a regain brings candidates to the reseat queue, no more (R29, R132). -/
theorem State.countGood_sameHall (s : State) (z u : Nat) : SameHall s (s.countGood z u) := by
  unfold State.countGood
  dsimp only
  split
  · exact .refl s
  · exact State.setLinkRecord_sameHall _ _ _ _
  · split
    · unfold State.goUp
      dsimp only
      refine .trans ?_ ((State.handResync_only _ z u (List.Subset.refl _) (.refl _ _)).sameHall (by decide))
      refine ((State.setLinkRecord_sameHall _ _ _ _).trans (State.raise_sameHall _ _ _)).trans (.ite ?_ (.refl _))
      exact (State.setSeat_sameHall (v := { State.seat _ _ with link := .up }) _ rfl).trans
        (State.retryStranded_sameHall _ _)
    · exact State.setLinkRecord_sameHall _ _ _ _

theorem State.endGood_sameHall (s : State) (z : Nat) : SameHall s (s.endGood z) :=
  (State.endGood_only s z (List.Subset.refl _) (.refl _ _)).sameHall (by decide)

theorem State.answer_agreed (h : s.Agreed C late) (z u : Nat) {f : State → State}
    (hf : ∀ v, v.Agreed C late → (f v).Agreed C late) : (s.answer z u f).Agreed C late := by
  have hgood := (State.endGood_sameHall s z).agreed h
  unfold State.answer
  split
  · exact h
  · split
    · exact hgood
    · exact hf _ hgood

/-- A new event of a unit is taken in a hall that agrees (R134). -/
theorem State.takeEvent_agreed (h : s.Agreed C late) (z u : Nat) (n : Bool) {f : State → State}
    (hf : ∀ v, v.Agreed C late → (f v).Agreed C late) : (s.takeEvent z u n f).Agreed C late := by
  refine State.answer_agreed h z u fun v hv => ?_
  have hc := (State.countGood_sameHall v z u).agreed hv
  dsimp only
  split
  · exact hf _ ((State.setLinkRecord_sameHall _ _ _ _).agreed hc)
  · exact hc

theorem State.deskEvent_agreed (h : s.Agreed C late) (z u : Nat) (n : Bool) {f : Nat → State → State}
    (hf : ∀ d v, v.Agreed C late → (f d v).Agreed C late) : (s.deskEvent z u n f).Agreed C late :=
  State.takeEvent_agreed h z u n fun v hv => by
    split
    · exact hf _ v hv
    · exact hv

/-! ### JOIN -/

theorem State.joinSeat_agreed (h : s.Agreed C late) (d : Nat) (c : CapSet) : (s.joinSeat d c).Agreed C late := by
  have h1 := (State.setSeat_sameHall s (v := { s.seat d with caps := c }) rfl).agreed h
  unfold State.joinSeat
  split
  · exact ((State.showSeat_sameHall _ _ _).trans (State.retryStranded_sameHall _ _)).agreed h1
  · split
    · next o ho => exact (State.showSeat_sameHall _ _ _).agreed (State.failOffer_agreed h1 (State.offerOn?_mem ho) false)
    · exact h1
  · exact (State.showCandidate_sameHall _ _ _ _).agreed h1
  · exact ((State.showCandidate_sameHall _ _ _ _).trans (State.queueClock_sameHall _ _ _)).agreed h1
  · exact (State.showSeat_sameHall _ _ _).agreed h1

theorem State.deliverJoin_agreed (h : s.Agreed C late) (z u : Nat) (c : CapSet) : (s.deliverJoin z u c).Agreed C late := by
  have h1 := ((State.removeQueued_only s z (resyncTo u) (List.Subset.refl _) (.refl _ _)).sameHall (by decide)).agreed h
  unfold State.deliverJoin
  dsimp only
  split
  · exact State.joinSeat_agreed h1 _ c
  · exact ((State.showTray_only _ _ (List.Subset.refl _) (.refl _ _)).sameHall (by decide)).agreed h1

theorem State.takeJoin_agreed (h : s.Agreed C late) (z u : Nat) (kind : UnitKind) (c : CapSet) :
    (s.takeJoin z u kind c).Agreed C late := by
  have hgood := (State.endGood_sameHall s z).agreed h
  unfold State.takeJoin
  split
  · exact h
  · dsimp only
    split
    · split
      · unfold State.joinUnknown
        refine State.deliverJoin_agreed ?_ z u c
        refine SameHall.agreed (.ite ?_ (.refl _)) ((State.setLinkRecord_sameHall _ z u { state := .up }).agreed hgood)
        exact State.setSeat_sameHall (v := { State.seat _ _ with link := .up }) _ rfl
      · exact hgood
    · split
      · exact hgood
      · exact State.deliverJoin_agreed
          (((State.countGood_sameHall _ _ _).trans (State.setLinkRecord_sameHall _ _ _ _)).agreed hgood) z u c
    · split
      · exact hgood
      · exact (State.countGood_sameHall _ _ _).agreed hgood

end Sys2Proof.Machine

namespace Sys2Proof.Machine

variable {s s0 t u : State} {p k : Nat} {e x : Entry} {C : Prop} {late late' : Option Nat}

/-! ### Desk events -/

/-- What an accepted CHECKIN has passed (R88). -/
theorem State.judgeCheckin_accepted {d tag : Nat} (h : s.judgeCheckin d e tag = .accepted) :
    e.presence ≠ .absent ∧ e.presence ≠ .finished ∧ e.clock ≠ .ended ∧ (s.sitting e.sitting).phase ≠ .defined
      ∧ s.checkinSeat d e = true ∧ (e.presence = .expected → s.tagRefused tag = false)
      ∧ (e.presence ≠ .expected → e.tag = some tag) := by
  unfold State.judgeCheckin at h
  repeat' split at h
  all_goals simp_all

/-- The seat of an accepted check-in is the candidate's, OCCUPIED by a PRESENT one and HELD otherwise. -/
theorem State.checkinSeat_eq {d : Nat} (h : s.checkinSeat d e = true) :
    e.seat = some d ∧ ((e.presence = .present ∧ ∃ q, (s.seat d).tenure = .occupied q)
      ∨ (e.presence = .expected ∨ e.presence = .displaced) ∧ ∃ q, (s.seat d).tenure = .held q) := by
  unfold State.checkinSeat at h
  simp only [Bool.and_eq_true, decide_eq_true_eq] at h
  refine ⟨h.1, ?_⟩
  have := h.2
  split at this <;> simp_all

/-- A HELD seat is OCCUPIED by its candidate (R25). -/
theorem State.requestOccupy_brings (hs : s.Linked) (he : s.entry? p = some e) {d : Nat} (hd : e.seat = some d)
    (hheld : (s.seat d).tenure = .held p) :
    Brings p e s (s.requestOccupy d) ∧ ((s.requestOccupy d).seat d).tenure = .occupied p := by
  unfold State.requestOccupy
  rw [hheld]
  exact ⟨State.setSeat_brings hs he hd rfl, by dsimp only; rw [State.seat_setSeat, if_pos rfl]⟩

/-- The entry a first check-in leaves (R89). -/
def checkedIn (tag : Nat) (e : Entry) : Entry := { e with tag := some tag, custody := .issued, presence := .present }

theorem State.issueTag_brings (hs : s.Linked) (he : s.entry? p = some e) (tag : Nat) :
    Brings p { e with tag := some tag, custody := .issued } s (s.issueTag p tag) := by
  have hall : SameHall s { s with roster := { s.roster with tags := s.roster.tags ++ [(tag, p)] } } :=
    ⟨rfl, fun _ => rfl, rfl, fun _ => rfl⟩
  have hb := Brings.sameHall (.refl hs he) hall
  exact hb.trans (State.modEntry_brings hb.links hb.entry (f := fun e => { e with tag := some tag, custody := .issued })
    fun _ => ⟨rfl, rfl, rfl⟩)

/-- What an accepted CHECKIN leaves of the candidate and its seat, by presence (R89). -/
theorem State.acceptCheckin_brings (h : s.Agreed C late) (he : s.entry? p = some e) {d tag : Nat}
    (hj : s.judgeCheckin d e tag = .accepted) :
    ∃ x, Brings p x s (s.acceptCheckin d e tag) ∧ x.presence = .present ∧ x.seat = some d
      ∧ ((s.acceptCheckin d e tag).seat d).tenure = .occupied p
      ∧ (e.presence = .expected → x = checkedIn tag e)
      ∧ (e.presence = .displaced → x = { e with presence := .present, displacedCause := false })
      ∧ (e.presence = .present → x = e) := by
  obtain ⟨-, -, -, -, hseat, -⟩ := State.judgeCheckin_accepted hj
  obtain ⟨hd, hten⟩ := State.checkinSeat_eq hseat
  have hsound := h.sound p e he
  obtain rfl : e.slot = p := State.slot_of_entry? he
  unfold State.acceptCheckin
  rcases hten with ⟨hp, -⟩ | ⟨hp, -⟩
  · obtain ⟨j, hj, hocc⟩ := hsound.occupied hp
    obtain rfl : d = j := by simpa [hd] using hj
    simp only [hp]
    exact ⟨e, .refl h.links he, hp, hd, hocc, by simp, by simp, fun _ => rfl⟩
  · have hheld : (s.seat d).tenure = .held e.slot := hsound.held hp hd
    rcases hp with hp | hp <;> simp only [hp]
    · have hi := State.issueTag_brings h.links he tag
      obtain ⟨ho, hot⟩ := State.requestOccupy_brings hi.links hi.entry (d := d) hd hheld
      have hm := State.modEntry_brings ho.links ho.entry (f := fun e => { e with presence := .present })
        fun _ => ⟨rfl, rfl, rfl⟩
      have hc := State.count_sameHall ((s.issueTag e.slot tag |>.requestOccupy d).modEntry e.slot fun e => { e with presence := .present })
        e.slot (f := addPresent) fun _ => rfl
      exact ⟨_, (hi.trans (ho.trans hm)).sameHall hc, rfl, hd, by rw [hc.tenure]; exact hot, fun _ => rfl, by simp, by simp⟩
    · obtain ⟨ho, hot⟩ := State.requestOccupy_brings h.links he hd hheld
      have hm := State.modEntry_brings ho.links ho.entry
        (f := fun e => { e with presence := .present, displacedCause := false }) fun _ => ⟨rfl, rfl, rfl⟩
      exact ⟨_, ho.trans hm, rfl, hd, hot, by simp, fun _ => rfl, by simp⟩

theorem State.acceptCheckin_agreed (h : s.Agreed C late) (he : s.entry? p = some e) {d tag : Nat}
    (hj : s.judgeCheckin d e tag = .accepted) : (s.acceptCheckin d e tag).Agreed C late := by
  obtain ⟨-, -, hopen, hdefined, hseat, -⟩ := State.judgeCheckin_accepted hj
  obtain ⟨hd, hten⟩ := State.checkinSeat_eq hseat
  obtain ⟨x, hb, hpres, hxseat, hocc, hexp, hdis, hprs⟩ := State.acceptCheckin_brings h he hj
  have hsound := h.sound p e he
  have hslot := State.slot_of_entry? he
  have hphase : ((s.acceptCheckin d e tag).sitting e.sitting).phase = (s.sitting e.sitting).phase :=
    congrArg Prod.fst (hb.timing _)
  have hoff : x.offer = none := by
    cases hx : x.offer with
    | none => rfl
    | some j => have := hb.links.apart p x hb.entry (by simp [hx]); simp [hxseat] at this
  have hx : x.slot = e.slot ∧ x.sitting = e.sitting ∧ x.clock = e.clock := by
    rcases hten with ⟨hp, -⟩ | ⟨hp | hp, -⟩
    · rw [hprs hp]; exact ⟨rfl, rfl, rfl⟩
    · rw [hexp hp]; exact ⟨rfl, rfl, rfl⟩
    · rw [hdis hp]; exact ⟨rfl, rfl, rfl⟩
  obtain ⟨hxslot, hxsit, hxclock⟩ := hx
  refine hb.agreed h ⟨fun j hj => ?_, by simp [hoff], ?_, ?_, fun hC => ?_, fun hC => ?_⟩
  · obtain rfl : d = j := by simpa [hxseat] using hj
    rw [hocc]; exact ⟨by rw [hxslot, hslot], hpres⟩
  · have hlaw := hsound.lawful
    unfold Entry.lawful at hlaw ⊢
    rcases hten with ⟨hp, -⟩ | ⟨hp | hp, -⟩
    · rw [hprs hp]; exact hlaw
    · simp [hopen, hexp hp, checkedIn, hd]
    · simp only [hp] at hlaw
      simp [hopen, hdis hp, hlaw, hd]
  · rw [hxsit, Sitting.admits_congr (hb.timing _), hphase]
    refine hsound.admitted.imp_left fun hadm => ?_
    unfold Sitting.admits at hadm ⊢
    split at hadm <;> simp_all
  · obtain ⟨hcount, hused, hrest, hend⟩ := (Entry.clockBounded_iff e).1 (hsound.bounded hC)
    rcases hten with ⟨hp, -⟩ | ⟨hp | hp, -⟩
    · rw [hprs hp]; exact hsound.bounded hC
    · rw [hexp hp]; exact hsound.bounded hC
    · rw [hdis hp]; exact (Entry.clockBounded_iff _).2 ⟨hcount, hused, hrest, fun hc => absurd hc hopen⟩
  · rw [hxclock, hxsit, hphase]; exact hsound.runs hC

theorem State.answerDesk_sameHall (s : State) (d : Nat) (k : EventKind) (n : Nat) (v : DeskVerdict) :
    SameHall s (s.answerDesk d k n v) := State.hand_sameHall _ _ _ _ _

theorem State.checkin_agreed (h : s.Agreed C late) (d n tag : Nat) : (s.checkin d n tag).Agreed C late := by
  unfold State.checkin
  cases hn : s.byNumber? n with
  | none => exact (State.answerDesk_sameHall _ _ _ _ _).agreed h
  | some e =>
    have he := State.entry?_of_byNumber? h.links.roster hn
    dsimp only
    split
    · next hj =>
      exact ((State.answerDesk_sameHall _ _ _ _ _).trans (State.queueClock_sameHall _ _ _)).agreed
        (State.acceptCheckin_agreed h he hj)
    · exact (State.answerDesk_sameHall _ _ _ _ _).agreed h

/-- The candidate that sits at a seat with its clock open is PRESENT (R91, R95). -/
theorem State.Agreed.present_of_sitsAt (h : s.Agreed C late) (he : s.entry? e.slot = some e) {d : Nat}
    (hs : s.sitsAt d e = true) (hopen : e.clock ≠ .ended) : e.presence = .present := by
  have hsound := h.sound _ e he
  have seat (hocc : occupant (s.seat d).tenure = some e.slot) : e.seat = some d := by
    obtain ⟨y, hy, hd⟩ := (h.links.seated d e.slot).1 hocc
    rw [he] at hy; cases hy; exact hd
  unfold State.sitsAt at hs
  split at hs
  · next q hten =>
    obtain rfl : q = e.slot := by simpa using hs
    have := hsound.seat d (seat (by rw [hten]; rfl))
    rw [hten] at this; exact this.2
  · next q tag hten =>
    obtain rfl : q = e.slot := by simpa using hs
    have := hsound.seat d (seat (by rw [hten]; rfl))
    rw [hten] at this
    have hlaw := hsound.lawful
    simp only [Entry.lawful, this.2.1] at hlaw
    exact absurd hlaw.1 hopen
  · cases hs

theorem State.Sound.unclocked (h : s.Sound C late e) : s.Sound False late e :=
  ⟨h.seat, h.offer, h.lawful, h.admitted, False.elim, False.elim⟩

theorem State.Sound.counted (h : s.Sound C late e) (hC : C) : e.counted := ((Entry.clockBounded_iff e).1 (h.bounded hC)).1

theorem State.judgeHandin_accepted {d : Nat} (h : s.judgeHandin d e = .accepted) :
    s.sitsAt d e = true ∧ e.clock ≠ .ended := by
  unfold State.judgeHandin at h
  dsimp only at h
  split at h
  · cases h
  · next hs =>
    split at h
    · cases h
    · next hc => exact ⟨by simpa using hs, hc⟩

theorem State.handin_agreed (h : s.Agreed C late) (d n : Nat) : (s.handin d n).Agreed C late := by
  unfold State.handin
  cases hn : s.byNumber? n with
  | none => exact (State.answerDesk_sameHall _ _ _ _ _).agreed h
  | some e =>
    have he := State.entry?_of_byNumber? h.links.roster hn
    have hsound := h.sound _ e he
    dsimp only
    split
    · next hj =>
      obtain ⟨hsits, hopen⟩ := State.judgeHandin_accepted hj
      refine ((State.answerDesk_sameHall _ _ _ _ _).trans (State.queueClock_sameHall _ _ _)).agreed ?_
      exact State.endPresent_agreed h (.refl h.links he) hsound.unclocked hsound.counted (h.present_of_sitsAt he hsits hopen)
    · exact (State.answerDesk_sameHall _ _ _ _ _).agreed h

theorem State.judgeRest_accepted {d : Nat} (h : s.judgeRest d e = .accepted) :
    e.clock ≠ .ended ∧ e.restUsed ≠ e.restAllowance := by
  unfold State.judgeRest at h
  dsimp only at h
  repeat' split at h
  all_goals simp_all

/-- REST begins or ends: the pause cause REST alone is written (R95, R96). -/
theorem State.rest_agreed (h : s.Agreed C late) (he : s.entry? p = some e) {b : Bool}
    (hb : b = true → e.clock ≠ .ended ∧ e.restUsed ≠ e.restAllowance) :
    (s.modEntry p fun e => { e with resting := b }).Agreed C late := by
  have hsound := h.sound p e he
  refine (State.modEntry_brings h.links he (f := fun e => { e with resting := b }) fun _ => ⟨rfl, rfl, rfl⟩).agreed h
    ⟨hsound.seat, hsound.offer, hsound.lawful, hsound.admitted, fun hC => ?_, hsound.runs⟩
  obtain ⟨hcount, hused, -, hend⟩ := (Entry.clockBounded_iff e).1 (hsound.bounded hC)
  refine (Entry.clockBounded_iff _).2 ⟨hcount, hused, fun hr => ?_, fun hc => ⟨?_, (hend hc).2⟩⟩
  · exact Nat.lt_of_le_of_ne hcount.2.2.1 (hb hr).2
  · cases b with
    | false => rfl
    | true => exact absurd hc (hb rfl).1

theorem State.restBegin_agreed (h : s.Agreed C late) (d n : Nat) : (s.restBegin d n).Agreed C late := by
  unfold State.restBegin
  cases hn : s.byNumber? n with
  | none => exact (State.answerDesk_sameHall _ _ _ _ _).agreed h
  | some e =>
    have he := State.entry?_of_byNumber? h.links.roster hn
    dsimp only
    split
    · next hj =>
      split
      · exact (State.answerDesk_sameHall _ _ _ _ _).agreed h
      · exact ((State.answerDesk_sameHall _ _ _ _ _).trans (State.queueClock_sameHall _ _ _)).agreed
          (State.rest_agreed h he fun _ => State.judgeRest_accepted hj)
    · exact (State.answerDesk_sameHall _ _ _ _ _).agreed h

theorem State.restEnd_agreed (h : s.Agreed C late) (d n : Nat) : (s.restEnd d n).Agreed C late := by
  unfold State.restEnd
  cases hn : s.byNumber? n with
  | none => exact (State.answerDesk_sameHall _ _ _ _ _).agreed h
  | some e =>
    have he := State.entry?_of_byNumber? h.links.roster hn
    dsimp only
    split
    · split
      · exact ((State.answerDesk_sameHall _ _ _ _ _).trans (State.queueClock_sameHall _ _ _)).agreed
          (State.rest_agreed h he (by simp))
      · exact (State.answerDesk_sameHall _ _ _ _ _).agreed h
    · exact (State.answerDesk_sameHall _ _ _ _ _).agreed h

theorem State.matching_mem {d n : Nat} {o : Offer} (h : s.matching d n = some o) : o ∈ s.placement.offers := by
  unfold State.matching at h
  split at h
  · next o' ho =>
    split at h
    · cases h; exact State.offerOn?_mem ho
    · cases h
  · cases h

theorem State.refuseOffer_agreed (h : s.Agreed C late) {o : Offer} (ho : o ∈ s.placement.offers) (c : CapSet) :
    (s.refuseOffer o c).Agreed C late :=
  State.failOffer_agreed ((State.setSeat_sameHall s (v := { s.seat o.seat with caps := c }) rfl).agreed h) ho false

end Sys2Proof.Machine

namespace Sys2Proof.Machine

variable {s s0 t u : State} {p k : Nat} {e x : Entry} {C : Prop} {late late' : Option Nat}

/-! ### Scripts -/

theorem State.entry?_of_byTag? {t : Nat} (h : s.byTag? t = some e) : s.entry? e.slot = some e := by
  obtain ⟨q, -, he⟩ := Option.bind_eq_some_iff.1 h
  rw [State.slot_of_entry? he]; exact he

theorem State.setTray_sameHall (s : State) (u : Nat) (r : Tray) : SameHall s (s.setTray u r) :=
  ⟨rfl, fun _ => rfl, rfl, fun _ => rfl⟩

theorem State.setBatch_sameHall (s : State) (b : Batch) : SameHall s (s.setBatch b) :=
  ⟨rfl, fun _ => rfl, rfl, fun _ => rfl⟩

theorem State.showTray_sameHall (s : State) (u : Nat) : SameHall s (s.showTray u) :=
  (State.showTray_only s u (List.Subset.refl _) (.refl _ _)).sameHall (by decide)

theorem State.removeTag_sameHall (s : State) (u t : Nat) : SameHall s (s.removeTag u t) :=
  (State.removeTag_only s u t (List.Subset.refl _) (.refl _ _)).sameHall (by decide)

/-- A script that has left its candidate's hands passes into another such custody: with no seat awaiting it, the entry
stays sound (R105, R113). -/
theorem State.Sound.script (h : s.Sound C late e) (hn : e.custody ≠ .none) (hi : e.custody ≠ .issued) {c : Custody}
    (hc : c ≠ .issued) (hh : c ≠ .handedIn) (tray : Option Nat) (mark : Option MarkRecord)
    (ht : ∀ k, (t.sitting k).timing = (s.sitting k).timing) :
    t.Sound C late { e with custody := c, seat := none, tray := tray, mark := mark } := by
  have hfin := h.finished hn hi
  have hlaw : e.clock = .ended := by have := h.lawful; simp only [Entry.lawful, hfin] at this; exact this.1
  refine ⟨by simp, h.offer, ?_, ?_, h.bounded, fun _ hr => by simp [hlaw] at hr⟩
  · simp [Entry.lawful, hfin, hlaw, hc]
  · rw [Sitting.admits_congr (ht _), show (t.sitting e.sitting).phase = _ from congrArg Prod.fst (ht _)]
    exact h.admitted.imp_left fun hadm => Sitting.admits_of_custody hadm hn rfl rfl hh

/-- The custody and record of a script beyond the hall are written (R110, R166). -/
theorem State.modScript_agreed (h : s.Agreed C late) (he : s.entry? p = some e) (hn : e.custody ≠ .none)
    (hi : e.custody ≠ .issued) (hh : e.custody ≠ .handedIn) {c : Custody} (hc : c ≠ .issued) (hc' : c ≠ .handedIn)
    {f : Entry → Entry} (hf : ∀ x, ∃ mark, f x = { x with custody := c, mark := mark }) :
    (s.modEntry p f).Agreed C late := by
  have hsound := h.sound p e he
  have hseat : e.seat = none := hsound.seat_none (.inl (hsound.finished hn hi)) hh
  have hb := State.modEntry_brings h.links he (f := f) fun x => by
    obtain ⟨mark, hx⟩ := hf x; rw [hx]; exact ⟨rfl, rfl, rfl⟩
  obtain ⟨mark, hx⟩ := hf e
  have hkeep : { e with seat := none } = e := by rw [← hseat]
  refine hb.agreed h ?_
  rw [hx, ← hkeep]
  exact hsound.script hn hi hc hc' e.tray mark hb.timing

/-- Entries changed with their places kept: each need only stay sound. -/
theorem State.mapEntries_agreed (h : s.Agreed C late) {g : Entry → Entry} (hg : keepsPlace g)
    (hsound : ∀ e, s.Sound C late e → s.Sound C late (g e)) : (s.setEntries (s.roster.entries.map g)).Agreed C late := by
  refine ⟨h.links.mapEntries hg, fun q x hx => ?_⟩
  rw [State.entry?_setEntries_map g hg.slot] at hx
  obtain ⟨e, he, rfl⟩ := Option.map_eq_some_iff.1 hx
  exact (hsound e (h.sound q e he)).of_timing rfl fun _ _ => rfl

/-- Neither the tray nor the mark record of an entry is read by the invariants. -/
theorem State.Sound.remark (h : s.Sound C late e) (tray : Option Nat) (mark : Option MarkRecord) :
    s.Sound C late { e with tray := tray, mark := mark } :=
  ⟨h.seat, h.offer, h.lawful, h.admitted, h.bounded, h.runs⟩

/-- A script taken from its VACATED seat, or found later: the seat is released (R110, R111, R113). -/
theorem State.collect_agreed (h : s.Agreed C late) (he : s.entry? p = some e) (hn : e.custody ≠ .none)
    (hi : e.custody ≠ .issued) {c : Custody} (hc : c ≠ .issued) (hh : c ≠ .handedIn) {f : Entry → Entry}
    (hf : ∀ x, ∃ tray, f x = { x with custody := c, tray := tray }) {g : Sitting → Sitting}
    (hg : ∀ r, (g r).timing = r.timing) :
    (((s.modEntry p f).count p g).releaseVacated p).Agreed C late
      ∧ ∃ tray, Brings p { e with custody := c, seat := none, tray := tray } s
        (((s.modEntry p f).count p g).releaseVacated p) := by
  have hsound := h.sound p e he
  obtain ⟨tray, hx⟩ := hf e
  have hm := State.modEntry_brings h.links he (f := f) fun x => by
    obtain ⟨tray, hx⟩ := hf x; rw [hx]; exact ⟨rfl, rfl, rfl⟩
  have hb := hm.sameHall (State.count_sameHall (s.modEntry p f) p hg)
  have hr := State.releaseVacated_brings hb.links hb.entry fun d hd => by
    rw [State.seat_count, State.seat_modEntry]
    rw [hx] at hd
    obtain ⟨tag, ht⟩ := hsound.vacated (hsound.finished hn hi) hd
    exact ⟨tag, by rw [ht, State.slot_of_entry? he]⟩
  have hall := hb.trans hr
  rw [hx] at hall
  exact ⟨hall.agreed h (hsound.script hn hi hc hh tray e.mark hall.timing), tray, hall⟩

theorem State.judgeTag_accept {u t : Nat} (h : s.judgeTag u t = .accept) :
    ∃ e, s.byTag? t = some e ∧ (e.custody = .handedIn ∨ e.custody = .missing) := by
  unfold State.judgeTag at h
  split at h
  · cases h
  · split at h
    · cases h
    · next e he => exact ⟨e, he, by (repeat' split at h) <;> simp_all⟩

theorem State.readTag_agreed (h : s.Agreed C late) (u t : Nat) : (s.readTag u t).Agreed C late := by
  unfold State.readTag
  dsimp only
  refine (State.hand_sameHall _ _ _ _ _).agreed ?_
  split
  · next hj =>
    obtain ⟨e, hbt, hc⟩ := State.judgeTag_accept hj
    rw [hbt]
    unfold State.acceptTag
    refine (State.collect_agreed (e := e) ((State.setTray_sameHall _ _ _).agreed h) (State.entry?_of_byTag? hbt)
      ?_ ?_ (c := .collected) (by simp) (by simp) (fun x => ⟨some u, rfl⟩) fun r => ?_).1
    · rcases hc with hc | hc <;> simp [hc]
    · rcases hc with hc | hc <;> simp [hc]
    · split <;> rfl
  · exact (State.raise_sameHall _ _ _).agreed h
  · split
    · exact (State.raise_sameHall _ _ _).agreed h
    · exact h
  · exact h

end Sys2Proof.Machine

namespace Sys2Proof.Machine

variable {s s0 t u : State} {p k : Nat} {e x : Entry} {C : Prop} {late late' : Option Nat}

/-! ### Marks -/

theorem State.countFinal_sameHall (s : State) (k : Nat) : SameHall s (s.countFinal k) :=
  State.modSitting_sameHall s k (f := addFinal) fun _ => rfl

/-- A script that stands in a tray, or did: neither awaited, in the hall, nor taken at its seat (R105). -/
def Custody.beyond (c : Custody) : Prop := c ≠ .none ∧ c ≠ .issued ∧ c ≠ .handedIn

/-- The record of a script in a tray is settled (R184). -/
theorem State.settle_agreed (h : s.Agreed C late) (he : s.entry? e.slot = some e) (hb : e.custody.beyond)
    (r : MarkRecord) : (s.settle e r).Agreed C late := by
  obtain ⟨hn, hi, hh⟩ := hb
  have put {c : Custody} (hc : c ≠ .issued) (hc' : c ≠ .handedIn) (m : MarkRecord) :
      (s.modEntry e.slot fun x => { x with custody := c, mark := some m }).Agreed C late :=
    State.modScript_agreed h he hn hi hh hc hc' fun x => ⟨some m, rfl⟩
  unfold State.settle
  dsimp only
  split
  · exact (State.countFinal_sameHall _ _).agreed (put (by simp) (by simp) _)
  · split
    · exact (State.raise_sameHall _ _ _).agreed (put (by simp) (by simp) _)
    · exact (State.raise_sameHall _ _ _).agreed (put (by simp) (by simp) _)

theorem State.storeSecond_agreed (h : s.Agreed C late) (he : s.entry? e.slot = some e) (hb : e.custody.beyond)
    (m : MarkRecord) : (s.storeSecond e m).Agreed C late := by
  unfold State.storeSecond
  dsimp only
  split
  · exact State.settle_agreed h he hb m
  · exact (State.raise_sameHall _ _ _).agreed
      (State.modScript_agreed h he hb.1 hb.2.1 hb.2.2 (by simp) (by simp) fun x => ⟨_, rfl⟩)

theorem State.storeRead_agreed (h : s.Agreed C late) (he : s.entry? e.slot = some e) (hb : e.custody.beyond) (r : Read)
    (out : Bool) : (s.storeRead e r out).Agreed C late := by
  unfold State.storeRead
  split
  · exact State.storeSecond_agreed h he hb _
  · dsimp only
    split
    · exact State.settle_agreed h he hb _
    · exact State.modScript_agreed h he hb.1 hb.2.1 hb.2.2 (by simp) (by simp) fun x => ⟨_, rfl⟩

theorem isRepeat_beyond {r : ReadPolicy} {c : Custody} (h : isRepeat r c = false) : c.beyond := by
  unfold isRepeat at h
  unfold Custody.beyond
  split at h <;> simp_all

theorem State.matchSheet_sameHall (s : State) (p : Nat) (b : Bool) : SameHall s (s.matchSheet p b) :=
  State.setBatch_sameHall _ _

theorem State.identify_agreed (h : s.Agreed C late) (t : Nat) (r : Read) : (s.identify t r).1.Agreed C late := by
  unfold State.identify
  split
  · exact h
  · next e he =>
    split
    · exact h
    · split
      · exact h
      · split
        · exact (State.setBatch_sameHall _ _).agreed h
        · next hr =>
          exact State.storeRead_agreed ((State.matchSheet_sameHall _ _ _).agreed h) (State.entry?_of_byTag? he)
            (isRepeat_beyond (by simpa using hr)) r _

theorem State.handOver_agreed (h : s.Agreed C late) (job : DecodeJob) : (s.handOver job).Agreed C late :=
  ((State.answerSheet_only _ _ _ (List.Subset.refl _) (.refl _ _)).sameHall (by decide)).agreed
    (State.identify_agreed h _ _)

theorem State.decoderStep_sameHall (s : State) : SameHall s s.decoderStep :=
  (State.decoderStep_only s (List.Subset.refl _) (.refl _ _)).sameHall (by decide)

theorem State.decoderEvent_agreed (h : s.Agreed C late) : s.decoderEvent.Agreed C late := by
  unfold State.decoderEvent
  split
  · exact State.handOver_agreed h _
  · exact (State.decoderStep_sameHall s).agreed h

/-- The mark record alone of an entry is written. -/
theorem State.modMark_agreed (h : s.Agreed C late) {f : Entry → Entry} (hf : ∀ x, ∃ mark, f x = { x with mark := mark }) :
    (s.modEntry p f).Agreed C late := by
  refine State.mapEntries_agreed h (g := fun e => if e.slot = p then f e else e) (fun x => ?_) fun x hx => ?_
  · obtain ⟨mark, hm⟩ := hf x
    dsimp only; split
    · rw [hm]; exact ⟨rfl, rfl, rfl⟩
    · exact ⟨rfl, rfl, rfl⟩
  · obtain ⟨mark, hm⟩ := hf x
    split
    · rw [hm]; exact hx.remark x.tray mark
    · exact hx

theorem State.startWalk_sameHall (s : State) : SameHall s s.startWalk :=
  (State.startWalk_only s (List.Subset.refl _) (.refl _ _)).sameHall (by decide)

theorem State.walkStep_agreed (h : s.Agreed C late) : s.walkStep.Agreed C late := by
  have walked (w : Option Walk) : ({ s with scoring := { s.scoring with walk := w } } : State).Agreed C late :=
    SameHall.agreed (s := s) ⟨rfl, fun _ => rfl, rfl, fun _ => rfl⟩ h
  unfold State.walkStep
  split
  · exact h
  · split
    · dsimp only
      split
      · split
        · exact State.modMark_agreed (walked _) fun x => ⟨_, rfl⟩
        · exact walked _
      · exact walked _
    · exact ((State.raise_sameHall _ _ _).trans (State.startWalk_sameHall _)).agreed (walked none)

theorem State.resolveQueries_agreed (h : s.Agreed C late) (he : s.entry? e.slot = some e) (hb : e.custody.beyond)
    (m : MarkRecord) (l : List (Nat × Mark)) : (s.resolveQueries e m l).Agreed C late := by
  unfold State.resolveQueries
  dsimp only
  split
  · exact (State.countFinal_sameHall _ _).agreed
      (State.modScript_agreed h he hb.1 hb.2.1 hb.2.2 (by simp) (by simp) fun x => ⟨_, rfl⟩)
  · exact State.modMark_agreed h fun x => ⟨_, rfl⟩

/-- CLEAR_TRAY: the tray numbers of the listed scripts become none (R119). -/
theorem State.emptyTray_agreed (h : s.Agreed C late) (u : Nat) : (s.emptyTray u).Agreed C late := by
  unfold State.emptyTray
  refine ((State.setTray_sameHall _ _ _).trans (State.showTray_sameHall _ _)).agreed
    (State.mapEntries_agreed h (fun x => ?_) fun x hx => ?_)
  · split <;> exact ⟨rfl, rfl, rfl⟩
  · split
    · exact hx.remark none x.mark
    · exact hx

/-! ### The void of a script -/

/-- The entry of a script void in the hall (R116). -/
def voidedEntry (e : Entry) : Entry :=
  { endClock e with presence := .finished, custody := .void, seat := none, offer := none }

theorem voidedEntry_sound (hsound : s.Sound C late e) (hi : e.custody = .issued)
    (ht : ∀ k, (t.sitting k).timing = (s.sitting k).timing) : t.Sound C late (voidedEntry e) := by
  have hopen := hsound.clock_open (hsound.issued_iff.1 hi)
  refine State.sound_of_gone rfl rfl rfl rfl rfl hsound.counted (by simp [Entry.lawful, voidedEntry, endClock]) ?_
  exact hsound.admitted_ended (x := voidedEntry e) hopen rfl (by simp [hi]) rfl (by simp [voidedEntry]) ht

/-- An ISSUED script is void: its candidate is FINISHED and gives up its seat, or its need for one (R116). -/
theorem State.voidIssued_agreed (h : s.Agreed C late) (he : s.entry? e.slot = some e) (hi : e.custody = .issued) :
    ((s.modEntry e.slot fun x => { x with custody := .void }).voidIssued e).Agreed C late := by
  have hsound := h.sound _ e he
  have hm := State.modEntry_brings h.links he (f := fun x => { x with custody := .void }) fun _ => ⟨rfl, rfl, rfl⟩
  have hf := hm.trans (State.finishPresent_brings hm.links hm.entry)
  unfold State.voidIssued
  dsimp only
  split
  · next hp =>
    have hn := State.endNeed_brings hf.links hf.entry
    have hr := State.releaseHeld_brings hn.links hn.entry fun d hd => by
      have hheld := hsound.held (.inr hp) hd
      have hkeep : (((s.modEntry e.slot fun x => { x with custody := .void }).finishPresent e.slot).seat d).tenure
          = .held e.slot := by rw [State.seat_finishPresent, State.seat_modEntry, hheld]
      rw [State.endNeed_tenure hf.links (by rw [hkeep]; rfl), hkeep]
    have hb := hf.trans (hn.trans hr)
    exact State.checkRun_agreed (State.tellEnd_agreed (hb.agreed h (voidedEntry_sound (e := e) hsound hi hb.timing)) _)
  · next hp =>
    have hpres : e.presence = .present := (hsound.issued_iff.1 hi).resolve_right hp
    obtain ⟨d, hd, -⟩ := hsound.occupied hpres
    have hoff := hsound.offer_none (by simp [hpres]) hp
    rw [hd]
    have hr := hf.trans (State.releaseSeat_brings hf.links hf.entry (d := d) hd)
    have hx : { voidedEntry e with offer := e.offer } = voidedEntry e := by rw [hoff]; rfl
    exact State.tellEnd_agreed (hr.agreed h (hx ▸ voidedEntry_sound hsound hi hr.timing)) _

theorem State.voidCollected_agreed (h : s.Agreed C late) (e : Entry) : (s.voidCollected e).Agreed C late := by
  have removed (v : State) (hv : SameHall s v) (f : Sitting → Sitting) (hf : ∀ r, (f r).timing = r.timing) :
      ((v.modEntry e.slot fun x => { x with tray := none, mark := none }).count e.slot f).Agreed C late := by
    refine (State.count_sameHall _ e.slot hf).agreed (State.mapEntries_agreed (hv.agreed h) (fun x => ?_) fun x hx => ?_)
    · split <;> exact ⟨rfl, rfl, rfl⟩
    · split
      · exact hx.remark none none
      · exact hx
  unfold State.voidCollected
  dsimp only
  refine removed _ ?_ _ fun r => by split <;> rfl
  split
  · exact State.removeTag_sameHall _ _ _
  · exact .refl s

/-- VOID_SCRIPT (R116). -/
theorem State.voidScript_agreed (h : s.Agreed C late) (he : s.entry? e.slot = some e) (hn : e.custody ≠ .none) :
    (s.voidScript e).Agreed C late := by
  unfold State.voidScript
  dsimp only
  split
  · next hi => exact State.voidIssued_agreed h he hi
  · next hi =>
    exact (State.collect_agreed h he hn (by simp [hi]) (c := .void) (by simp) (by simp) (fun x => ⟨x.tray, rfl⟩)
      (g := dropAwaiting) fun _ => rfl).1
  · next hi hh =>
    exact State.voidCollected_agreed
      (State.modScript_agreed h he hn hi hh (c := .void) (by simp) (by simp) fun x => ⟨x.mark, rfl⟩) e

end Sys2Proof.Machine

namespace Sys2Proof.Machine

variable {s s0 t u : State} {p k : Nat} {e x : Entry} {C : Prop} {late late' : Option Nat}

/-! ### Placement tasks -/

/-- An entry that is not PRESENT stays sound without its seat. -/
theorem State.Sound.unseated (h : s.Sound C late e) (hp : e.presence ≠ .present)
    (ht : ∀ k, (t.sitting k).timing = (s.sitting k).timing) : t.Sound C late { e with seat := none } := by
  have hphase : (t.sitting e.sitting).phase = (s.sitting e.sitting).phase := congrArg Prod.fst (ht _)
  refine ⟨by simp, h.offer, ?_, ?_, h.bounded, fun hC => ?_⟩
  · have hlaw := h.lawful
    unfold Entry.lawful at hlaw ⊢
    cases hpr : e.presence <;> simp_all
  · rw [Sitting.admits_congr (ht _), hphase]
    exact h.admitted.imp_left fun hadm => Sitting.admits_same hadm rfl rfl id
  · rw [hphase]; exact h.runs hC

theorem State.startRun_sameHall (s : State) (k : Nat) : SameHall s (s.startRun k) := by
  unfold State.startRun
  refine (State.setRun_sameHall _ _).trans (State.modSitting_sameHall _ k ?_)
  exact fun _ => rfl

/-- A seat EMPTY stays EMPTY through the RELEASE of any seat. -/
theorem State.requestRelease_empty {d j : Nat} (hd : (s.seat d).tenure = .empty) :
    ((s.requestRelease j).seat d).tenure = .empty := by
  unfold State.requestRelease
  split
  · exact hd
  · next q hq =>
    have hcount : (((s.setSeat j { s.seat j with tenure := .empty }).modEntry q fun e => { e with seat := none }).count q
        dropPlaced |>.seat d).tenure = .empty := by
      rw [State.seat_count, State.seat_modEntry, State.seat_setSeat]; split <;> first | rfl | exact hd
    dsimp only
    split
    · rw [(State.showSeat_sameHall _ _ _).tenure]; exact hcount
    · exact hcount

/-- The candidate of a MOVE leaves its seat (R60). -/
theorem State.leaveSeat_brings (hs : s.Linked) (he : s.entry? e.slot = some e) :
    Brings e.slot (awayEntry e) s (s.leaveSeat e)
      ∧ ∀ d, (s.seat d).tenure = .empty → ((s.leaveSeat e).seat d).tenure = .empty := by
  have hrel : ∃ v, Brings e.slot { e with seat := none } s v
      ∧ (∀ d, (s.seat d).tenure = .empty → (v.seat d).tenure = .empty)
      ∧ s.leaveSeat e = if e.presence = .present then v.displace e.slot else v := by
    unfold State.leaveSeat
    cases hd : e.seat with
    | none => exact ⟨s, .refl hs (by rw [he, ← hd]), fun _ => id, rfl⟩
    | some d => exact ⟨_, State.requestRelease_brings hs he hd, fun _ => State.requestRelease_empty, rfl⟩
  obtain ⟨v, hb, hempty, hv⟩ := hrel
  rw [hv]
  unfold awayEntry
  split
  · exact ⟨hb.trans (State.displace_brings hb.links hb.entry), hempty⟩
  · exact ⟨hb, hempty⟩

/-- A MOVE: the seat is left, and an offer is made or a reseat queued (R60). -/
theorem State.carryMove_agreed (h : s.Agreed C late) (he : s.entry? e.slot = some e) {target : MoveTarget}
    (hp : e.presence = .expected ∨ e.presence = .present) (hfree : s.placementBusy e = false)
    (hm : s.moveRefusal e target = none) : (s.carryMove e target).Agreed C late := by
  obtain ⟨hb, hempty⟩ := State.leaveSeat_brings h.links he
  have hsound : (s.leaveSeat e).Sound C late (awayEntry e) := (h.sound _ e he).away (by tauto) hb.timing
  have hoff : (awayEntry e).offer = none := by
    have : e.offer = none := by unfold State.placementBusy at hfree; simp_all
    unfold awayEntry; split <;> exact this
  have hpres : (awayEntry e).presence = .expected ∨ (awayEntry e).presence = .displaced := by
    unfold awayEntry; split <;> simp_all
  have hseat : (awayEntry e).seat = none := by unfold awayEntry; split <;> rfl
  unfold State.carryMove
  dsimp only
  refine State.checkRun_agreed ?_
  have retried (v : State) (hv : v.Agreed C late) :
      (match e.seat with | some d => v.retryStranded d | none => v).Agreed C late := by
    split
    · exact (State.retryStranded_sameHall _ _).agreed hv
    · exact hv
  refine retried _ ?_
  cases target with
  | seat d =>
    have hsuits : s.suits e d = true := by
      unfold State.moveRefusal at hm
      by_contra hc
      rw [Bool.not_eq_true] at hc
      simp [hc] at hm
    have hten := State.fits_tenure ((Bool.and_eq_true _ _).mp hsuits).2
    exact State.makeOffer_agreed h hb hsound hpres hseat hoff (hempty d hten) .move e.seat
  | anySeat => exact (State.appendReseat_sameHall _ _).agreed (hb.agreed h hsound)

/-! ### Offers cancelled together -/

/-- The cancel of an offer takes it, and no other, from the offer table (R55). -/
theorem State.cancelOffer_offers (s : State) (o : Offer) :
    (s.cancelOffer o).placement.offers = s.placement.offers.filter fun x => x.seat != o.seat := by
  have hframe : OnlyChanges [.seats, .entries, .lines, .notices, .run, .reseats] (s.dropOffer o.seat) (s.cancelOffer o) := by
    have hdrop := State.requestCancel_only (s.dropOffer o.seat) o.seat
      (bs := [.seats, .entries, .lines, .notices, .run, .reseats]) (by decide) (.refl _ _)
    have hrem := State.removeOffer_only _ o.seat (by decide) hdrop
    unfold State.cancelOffer
    dsimp only
    refine State.retryStranded_only _ _ (by decide) ?_
    have htold : OnlyChanges [.seats, .entries, .lines, .notices, .run, .reseats] (s.dropOffer o.seat)
        (if isSent o.stage then
          (match s.numberOf o.slot with
            | some n => (((s.dropOffer o.seat).requestCancel o.seat).removeOffer o.seat).withdrawOffer o.seat n
            | none => ((s.dropOffer o.seat).requestCancel o.seat).removeOffer o.seat)
          else ((s.dropOffer o.seat).requestCancel o.seat).removeOffer o.seat) := by
      split
      · split
        · exact State.withdrawOffer_only _ _ _ (by decide) hrem
        · exact hrem
      · exact hrem
    split
    · exact State.passOver_only _ (by decide) htold
    · exact htold
  exact hframe.rest .offers (by decide)

/-- Offers cancelled one after another, none twice (R48, R73). -/
theorem State.cancelOffers_agreed {l : List Offer} (h : s.Agreed C late) (hl : ∀ o ∈ l, o ∈ s.placement.offers)
    (hn : (l.map Offer.seat).Nodup) :
    (l.foldl State.cancelOffer s).Agreed C late
      ∧ (∀ o ∈ (l.foldl State.cancelOffer s).placement.offers, o ∈ s.placement.offers ∧ o.seat ∉ l.map Offer.seat)
      ∧ (l.foldl State.cancelOffer s).roster.entries.map identity = s.roster.entries.map identity
      ∧ ∀ k, ((l.foldl State.cancelOffer s).sitting k).timing = (s.sitting k).timing := by
  induction l generalizing s with
  | nil => exact ⟨h, fun o ho => ⟨ho, by simp⟩, rfl, fun _ => rfl⟩
  | cons o l ih =>
    obtain ⟨hne, hn⟩ := List.nodup_cons.1 hn
    have ho := hl o (by simp)
    obtain ⟨e, he, -, -⟩ := h.links.offered_entry (h.links.tenure_of_offer ho)
    have hat := (State.cancelOffer_brings h.links ho he).toOnlyAt
    have mem {x : Offer} : x ∈ (s.cancelOffer o).placement.offers ↔ x ∈ s.placement.offers ∧ x.seat ≠ o.seat := by
      rw [State.cancelOffer_offers]; simp
    obtain ⟨hagreed, hoffers, hids, ht⟩ := ih (State.cancelOffer_agreed h ho)
      (fun x hx => mem.2 ⟨hl x (by simp [hx]), fun hc => hne (hc ▸ List.mem_map_of_mem hx)⟩) hn
    refine ⟨hagreed, fun x hx => ?_, hids.trans hat.identities, fun j => (ht j).trans (hat.timing j)⟩
    obtain ⟨hx, hout⟩ := hoffers x hx
    obtain ⟨hx, hxo⟩ := mem.1 hx
    exact ⟨hx, by simp only [List.map_cons, List.mem_cons, not_or]; exact ⟨hxo, hout⟩⟩

theorem State.abortRun_agreed (h : s.Agreed C late) : (s.runOffers.foldl State.cancelOffer s).Agreed C late :=
  (State.cancelOffers_agreed h (fun _ ho => (List.mem_filter.1 ho).1)
    (h.links.nodup.sublist (List.Sublist.map _ List.filter_sublist))).1

theorem State.failRestart_agreed (h : s.Agreed C late) (d : Nat) : (s.failRestart d).Agreed C late := by
  unfold State.failRestart
  split
  · next ho => exact State.failOffer_agreed h (State.offerOn?_mem ho) true
  · exact h

theorem State.setLine_sameHall (s : State) (z : Nat) (l : Line) : SameHall s (s.setLine z l) :=
  ⟨rfl, fun _ => rfl, rfl, fun _ => rfl⟩

/-- RESTART_LINE but for the line's own records (R142). -/
theorem State.restart_agreed (h : s.Agreed C late) (z : Nat) :
    (((s.zoneOffers z).foldl State.failRestart (s.clearLine z)).retellPhases z).Agreed C late := by
  have hclear := ((State.clearLine_only s z (List.Subset.refl _) (.refl _ _)).sameHall (by decide)).agreed h
  have hfailed := foldl_agreed (fun u d hu => State.failRestart_agreed hu d) (s.zoneOffers z) hclear
  exact ((State.retellPhases_only _ z (List.Subset.refl _) (.refl _ _)).sameHall (by decide)).agreed hfailed

end Sys2Proof.Machine

namespace Sys2Proof.Machine

variable {s s0 t u : State} {p k : Nat} {e x : Entry} {C : Prop} {late late' : Option Nat}

/-! ### Definitions and closings -/

theorem clampedDefinition_limits (d : DefineParams) :
    (clampedDefinition d).lateLimit ≤ (clampedDefinition d).writing := Nat.min_le_left _ _

/-- An EMPTY sitting has no candidates (R63). -/
theorem State.Agreed.no_entry_of_empty (h : s.Agreed C none) (hk : (s.sitting k).phase = .empty) (he : s.entry? p = some e) :
    e.sitting ≠ k := fun hc => by
  have hadm := (h.sound p e he).admitted.resolve_right (by simp)
  simp [Sitting.admits, hc, hk] at hadm

theorem State.defineNew_agreed (h : s.Agreed C none) (hk : (s.sitting k).phase = .empty) (d : DefineParams) :
    (s.defineNew k (clampedDefinition d)).Agreed C none :=
  State.changeSitting_agreed h (clampedDefinition_limits d) (fun _ _ => id) fun _ _ he hek =>
    absurd hek (h.no_entry_of_empty hk he)

/-- A DEFINED sitting is re-defined: no clock of it runs, so any budget may be written (R64). -/
theorem State.redefine_agreed (h : s.Agreed C none) (hk : (s.sitting k).phase = .defined) (d : DefineParams) :
    (s.redefine k (clampedDefinition d)).Agreed C none := by
  have hset : (s.modSitting k fun r => { r with
      defn := clampedDefinition d, readingLeft := (clampedDefinition d).reading, elapsed := 0 }).Agreed C none := by
    refine State.setSitting_agreed h (clampedDefinition_limits d) (fun _ _ => id) fun q e he hek => ?_
    have hsound := h.sound q e he
    have hadm := hsound.admitted.resolve_right (by simp)
    simp only [Sitting.admits, hek, hk] at hadm ⊢
    exact ⟨.inl hadm, fun hC hrun => by have := hsound.runs hC hrun; rw [hek, hk] at this; exact this⟩
  have hphase : ((s.modSitting k fun r => { r with
      defn := clampedDefinition d, readingLeft := (clampedDefinition d).reading, elapsed := 0 }).sitting k).phase
      = .defined := by
    unfold State.modSitting; rw [State.sitting_setSitting, if_pos rfl]; exact hk
  unfold State.redefine
  dsimp only
  split
  · exact hset
  · refine State.mapEntries_agreed hset (fun e => by split <;> exact ⟨rfl, rfl, rfl⟩) fun e hsound => ?_
    split
    · next hek =>
      have hstill (hC : C) : e.clock ≠ .running := fun hrun => by
        have := hsound.runs hC hrun; rw [hek, hphase] at this; simp at this
      refine ⟨hsound.seat, hsound.offer, hsound.lawful, hsound.admitted, fun hC => ?_, hsound.runs⟩
      obtain ⟨hcount, -, hrest, hend⟩ := (Entry.clockBounded_iff e).1 (hsound.bounded hC)
      exact (Entry.clockBounded_iff _).2 ⟨hcount.rebudget _, fun hrun => absurd hrun (hstill hC), hrest, hend⟩
    · exact hsound

theorem State.declareMissing_agreed (h : s.Agreed C late) (he : s.entry? p = some e) (hc : e.custody = .handedIn) :
    (s.declareMissing p).Agreed C late
      ∧ ∃ tray, Brings p { e with custody := .missing, seat := none, tray := tray } s (s.declareMissing p) :=
  State.collect_agreed h he (by simp [hc]) (by simp [hc]) (by simp) (by simp) (fun x => ⟨x.tray, rfl⟩)
    (g := dropAwaiting) fun _ => rfl

/-- CLOSE_COLLECTION: every script handed in and not taken is MISSING, and the sitting is CLOSED (R71, R113). -/
theorem State.closeCollection_agreed (h : s.Agreed C none) (hk : (s.sitting k).phase = .collecting) :
    (((s.handedIn k).foldl State.declareMissing s).changeSitting k fun r => { r with phase := .closed }).Agreed C none := by
  have hfold := foldl_onlyAt (f := State.declareMissing) (I := fun u => u.Agreed C none)
    (pre := fun e => e.custody = .handedIn) (post := fun e => e.custody ≠ .handedIn) (l := s.handedIn k)
    (fun u p e hu he hp => by
      obtain ⟨ha, tray, hb⟩ := State.declareMissing_agreed hu he hp
      exact ⟨ha, hb.toOnlyAt, _, hb.entry, by simp⟩)
    (State.slotsOf_nodup (k := k) h.links.roster fun e => decide (e.custody = .handedIn)) h fun p hp => by
      obtain ⟨e, he, -, hc⟩ := (State.mem_slotsOf h.links.roster).1 hp
      exact ⟨e, he, by simpa using hc⟩
  obtain ⟨hagreed, hout, hin, ht⟩ := hfold
  refine State.changeSitting_agreed hagreed (hagreed.links.limits k) (fun _ _ => id) fun q e he hek => ?_
  have hadm := (hagreed.sound q e he).admitted.resolve_right (by simp)
  have hphase : (((s.handedIn k).foldl State.declareMissing s).sitting k).phase = .collecting :=
    (congrArg Prod.fst (ht k)).trans hk
  have hcust : e.custody ≠ .handedIn := by
    by_cases hq : q ∈ s.handedIn k
    · obtain ⟨x, hx, hpost⟩ := hin q hq
      rw [hx] at he; cases he; exact hpost
    · have hes : s.entry? q = some e := (hout q hq).symm.trans he
      exact fun hc => hq ((State.mem_slotsOf h.links.roster).2 ⟨e, hes, hek, by simp [hc]⟩)
  simp only [Sitting.admits, hek, hphase] at hadm ⊢
  exact ⟨.inl ⟨hadm.1, hadm.2, hcust⟩, fun _ hrun => by simp [hadm.1] at hrun⟩

/-! ### Deletion -/

theorem State.entry?_deleteEntry (s : State) (p q : Nat) :
    (s.deleteEntry p).entry? q = if q = p then none else s.entry? q := by
  have hfilter (l : List Entry) : (l.filter fun x => x.slot != p).find? (fun x => x.slot == q)
      = if q = p then none else l.find? fun x => x.slot == q := by
    rw [List.find?_filter]
    split
    · next hq => subst hq; simp
    · next hq =>
      congr 1; funext x
      by_cases hx : x.slot = q <;> simp_all
  unfold State.deleteEntry
  split
  · exact hfilter _
  · next hp => split <;> simp_all

theorem State.deleteEntry_rosterOrdered (h : s.RosterOrdered) (p : Nat) : (s.deleteEntry p).RosterOrdered := by
  obtain ⟨hn, hslots, hbounds⟩ := h
  unfold State.deleteEntry
  split
  · have hsub : (s.roster.entries.filter fun x => x.slot != p).Sublist s.roster.entries := List.filter_sublist
    exact ⟨hn.sublist (hsub.map _), hslots.sublist (hsub.map _), fun e he => hbounds e (hsub.subset he)⟩
  · exact ⟨hn, hslots, hbounds⟩

theorem withoutEntry_timing (e : Entry) (r : Sitting) : (withoutEntry e r).timing = r.timing := rfl

theorem State.seat_deleteEntry (s : State) (p d : Nat) : (s.deleteEntry p).seat d = s.seat d := by
  unfold State.deleteEntry; split <;> rfl

theorem State.placement_deleteEntry (s : State) (p : Nat) : (s.deleteEntry p).placement = s.placement := by
  unfold State.deleteEntry; split <;> rfl

theorem State.timing_deleteEntry (s : State) (p k : Nat) : ((s.deleteEntry p).sitting k).timing = (s.sitting k).timing := by
  unfold State.deleteEntry
  split
  · exact (State.modSitting_sameHall s _ fun r => withoutEntry_timing _ r).timing k
  · rfl

/-- The deletion of an entry with neither seat nor offer leaves the rest in agreement (R10). -/
theorem State.deleteEntry_agreed (h : s.Agreed C late) (he : s.entry? p = some e) (hseat : e.seat = none)
    (hoff : e.offer = none) : (s.deleteEntry p).Agreed C late := by
  have gone {q d : Nat} (g : Entry → Option Nat) (hg : g e = none) :
      (∃ x, (s.deleteEntry p).entry? q = some x ∧ g x = some d) ↔ ∃ x, s.entry? q = some x ∧ g x = some d := by
    rw [State.entry?_deleteEntry]
    by_cases hq : q = p
    · subst hq; simp [he, hg]
    · rw [if_neg hq]
  have defn (j : Nat) : ((s.deleteEntry p).sitting j).defn = (s.sitting j).defn :=
    congrArg (fun x => x.2.1) (State.timing_deleteEntry s p j)
  refine ⟨⟨State.deleteEntry_rosterOrdered h.links.roster p, fun d q => ?_, fun d q => ?_, fun d q => ?_, ?_,
    fun q x hx => ?_, fun j => by rw [defn]; exact h.links.limits j⟩, fun q x hx => ?_⟩
  · rw [State.seat_deleteEntry, gone Entry.seat hseat]; exact h.links.seated d q
  · rw [State.seat_deleteEntry, gone Entry.offer hoff]; exact h.links.offered d q
  · rw [State.seat_deleteEntry, State.placement_deleteEntry]; exact h.links.table d q
  · rw [State.placement_deleteEntry]; exact h.links.nodup
  · rw [State.entry?_deleteEntry] at hx
    split at hx
    · cases hx
    · exact h.links.apart q x hx
  · rw [State.entry?_deleteEntry] at hx
    split at hx
    · cases hx
    · exact (h.sound q x hx).of_timing (State.timing_deleteEntry s p _) fun d _ => by rw [State.seat_deleteEntry]

/-- The entries of a list of slots are deleted. -/
theorem State.deleteEntries_agreed {l : List Nat} (h : s.Agreed C late)
    (hl : ∀ q ∈ l, ∀ e, s.entry? q = some e → e.seat = none ∧ e.offer = none) :
    (l.foldl State.deleteEntry s).Agreed C late
      ∧ ∀ q, (l.foldl State.deleteEntry s).entry? q = if q ∈ l then none else s.entry? q := by
  induction l generalizing s with
  | nil => exact ⟨h, fun q => by simp⟩
  | cons p l ih =>
    have hdel : (s.deleteEntry p).Agreed C late := by
      cases he : s.entry? p with
      | none => unfold State.deleteEntry; rw [he]; exact h
      | some e =>
        obtain ⟨hseat, hoff⟩ := hl p (by simp) e he
        exact State.deleteEntry_agreed h he hseat hoff
    obtain ⟨hagreed, hentry⟩ := ih hdel fun q hq e he => by
      rw [State.entry?_deleteEntry] at he
      split at he
      · cases he
      · exact hl q (by simp [hq]) e he
    refine ⟨hagreed, fun q => ?_⟩
    rw [List.foldl_cons, hentry, State.entry?_deleteEntry]
    by_cases hq : q ∈ l <;> by_cases hqp : q = p <;> simp [hq, hqp]

/-- Steps common to both retirements, with no seat and no offer left to the sitting's candidates (R72). -/
theorem State.clearSitting_agreed (h : s.Agreed C none)
    (hl : ∀ q e, s.entry? q = some e → e.sitting = k → e.seat = none ∧ e.offer = none) :
    (s.clearSitting k).Agreed C none := by
  obtain ⟨hagreed, hentry⟩ := State.deleteEntries_agreed (l := s.slotsOf k fun _ => true) h fun q hq e he => by
    obtain ⟨x, hx, hk, -⟩ := (State.mem_slotsOf h.links.roster).1 hq
    rw [he] at hx; cases hx; exact hl q e he hk
  have hkeys (v : State) : SameHall v ((v.setKey k {}).dropExtents k) :=
    (State.dropExtents_only _ k (by decide) (State.setKey_only v k {} (bs := [.keys, .extents]) (by decide)
      (.refl _ _))).sameHall (by decide)
  have hempty := (hkeys _).agreed hagreed
  unfold State.clearSitting
  refine State.changeSitting_agreed hempty (by decide) (fun _ _ => id) fun q e he hek => ?_
  rw [(hkeys _).entry?, hentry] at he
  split at he
  · cases he
  · next hq => exact absurd ((State.mem_slotsOf h.links.roster).2 ⟨e, he, hek, rfl⟩) hq

end Sys2Proof.Machine

namespace Sys2Proof.Machine

variable {s s0 t u : State} {p k : Nat} {e x : Entry} {C : Prop} {late late' : Option Nat}

/-! ### Cancellations and withdrawals -/

/-- With the identities kept, an entry is of the sitting it was of. -/
theorem State.sitting_of_identities (h : t.roster.entries.map identity = s.roster.entries.map identity)
    (hs : s.RosterOrdered) {q : Nat} (he : t.entry? q = some e) : ∃ x, s.entry? q = some x ∧ x.sitting = e.sitting := by
  have hmem : identity e ∈ s.roster.entries.map identity := h ▸ List.mem_map_of_mem (State.mem_of_entry? he)
  obtain ⟨x, hx, hxe⟩ := List.mem_map.1 hmem
  obtain ⟨hslot, -, hsit⟩ : x.slot = e.slot ∧ x.number = e.number ∧ x.sitting = e.sitting := by
    simpa [identity] using hxe
  refine ⟨x, ?_, hsit⟩
  rw [← State.slot_of_entry? he, ← hslot]
  exact State.entry?_of_mem hs hx

/-- Once its offers are cancelled, no candidate of the sitting has one (R73). -/
theorem State.cancelSitting_agreed (h : s.Agreed C late) (k : Nat) :
    ((s.sittingOffers k).foldl State.cancelOffer s).Agreed C late
      ∧ ((s.sittingOffers k).foldl State.cancelOffer s).roster.entries.map identity = s.roster.entries.map identity
      ∧ (∀ j, (((s.sittingOffers k).foldl State.cancelOffer s).sitting j).timing = (s.sitting j).timing)
      ∧ ∀ q e, ((s.sittingOffers k).foldl State.cancelOffer s).entry? q = some e → e.sitting = k → e.offer = none := by
  obtain ⟨hagreed, hoffers, hids, ht⟩ := State.cancelOffers_agreed (l := s.sittingOffers k) h
    (fun _ ho => (List.mem_filter.1 ho).1) (h.links.nodup.sublist (List.Sublist.map _ List.filter_sublist))
  refine ⟨hagreed, hids, ht, fun q e he hk => ?_⟩
  cases hd : e.offer with
  | none => rfl
  | some d =>
    have hten := hagreed.links.tenure_of_entry_offer he hd
    obtain ⟨o, ho, heq⟩ := List.mem_map.1 ((hagreed.links.table d q).1 (offeree_eq_some.2 hten))
    obtain ⟨hmem, hout⟩ := hoffers o ho
    obtain ⟨x, hx, hxe⟩ := State.sitting_of_identities hids h.links.roster he
    have hslot : o.slot = q := by have := congrArg Prod.snd heq; exact this
    have hin : o ∈ s.sittingOffers k := List.mem_filter.2 ⟨hmem, by rw [hslot, hx]; simp [hxe, hk]⟩
    exact absurd (List.mem_map_of_mem hin) hout

/-- In a sitting that has not opened, the seats of the candidates are HELD (R21, R71). -/
theorem State.releaseUnopened_agreed (h : s.Agreed C late) (he : s.entry? p = some e) (hc : e.custody = .none) :
    (s.releaseHeld p).Agreed C late ∧ Brings p { e with seat := none } s (s.releaseHeld p) := by
  have hsound := h.sound p e he
  have hpres : e.presence = .expected ∨ e.presence = .finished ∨ e.presence = .absent := by
    have := hsound.lawful
    unfold Entry.lawful at this
    cases hp : e.presence <;> simp_all
  have hb := State.releaseHeld_brings h.links he fun d hd => by
    rcases hpres with hp | hp
    · rw [hsound.held (.inl hp) hd, State.slot_of_entry? he]
    · rw [hsound.seat_none hp (by simp [hc])] at hd; cases hd
  exact ⟨hb.agreed h (hsound.unseated (by rcases hpres with hp | hp | hp <;> simp [hp]) hb.timing), hb⟩

/-- Steps 1 to 3 of a cancellation leave the sitting's candidates with neither seat nor offer (R73). -/
theorem State.clearPlacement_agreed (h : s.Agreed C none) (hk : (s.sitting k).phase = .defined) :
    (s.clearPlacement k).Agreed C none
      ∧ ∀ q e, (s.clearPlacement k).entry? q = some e → e.sitting = k → e.seat = none ∧ e.offer = none := by
  obtain ⟨h1, hids, ht1, hoff⟩ := State.cancelSitting_agreed h k
  have hreseat := State.setReseats_sameHall ((s.sittingOffers k).foldl State.cancelOffer s)
    (((s.sittingOffers k).foldl State.cancelOffer s).placement.reseats.filter fun r =>
      !(s.slotsOf k fun _ => true).contains r.slot)
  have h2 := hreseat.agreed h1
  have hfold := foldl_onlyAt (f := State.releaseHeld) (I := fun u => u.Agreed C none)
    (pre := fun e => e.offer = none ∧ e.custody = .none) (post := fun e => e.seat = none ∧ e.offer = none)
    (l := s.slotsOf k fun _ => true)
    (fun u p e hu he hp => by
      obtain ⟨ha, hb⟩ := State.releaseUnopened_agreed hu he hp.2
      exact ⟨ha, hb.toOnlyAt, _, hb.entry, rfl, hp.1⟩)
    (State.slotsOf_nodup h.links.roster _) h2 fun q hq => by
      obtain ⟨x, hx, hxk, -⟩ := (State.mem_slotsOf h.links.roster).1 hq
      obtain ⟨e, he, hek⟩ := State.sitting_of_identities hids.symm h1.links.roster hx
      refine ⟨e, (hreseat.entry? q).trans he, hoff q e he (hek.trans hxk), ?_⟩
      have hadm := (h1.sound q e he).admitted.resolve_right (by simp)
      have hphase := (congrArg Prod.fst (ht1 e.sitting)).trans (hek ▸ hxk ▸ hk)
      simpa only [Sitting.admits, show (State.sitting _ e.sitting).phase = Phase.defined from hphase] using hadm
  obtain ⟨hagreed, hout, hin, -⟩ := hfold
  refine ⟨hagreed, fun q e he hek => ?_⟩
  by_cases hq : q ∈ s.slotsOf k fun _ => true
  · obtain ⟨x, hx, hpost⟩ := hin q hq
    rw [show (s.clearPlacement k).entry? q = some x from hx] at he
    cases he; exact hpost
  · have hes : ((s.sittingOffers k).foldl State.cancelOffer s).entry? q = some e := (hout q hq).symm.trans he
    obtain ⟨x, hx, hxe⟩ := State.sitting_of_identities hids h.links.roster hes
    exact absurd ((State.mem_slotsOf h.links.roster).2 ⟨x, hx, hxe.trans hek, rfl⟩) hq

/-- A RELEASED sitting's candidates have neither seat nor offer (R71). -/
theorem State.Agreed.free_of_released (h : s.Agreed C none) (hk : (s.sitting k).phase = .released)
    (he : s.entry? p = some e) (hek : e.sitting = k) : e.seat = none ∧ e.offer = none := by
  have hsound := h.sound p e he
  have hadm := hsound.admitted.resolve_right (by simp)
  simp only [Sitting.admits, hek, hk] at hadm
  have hlaw := hsound.lawful
  unfold Entry.lawful at hlaw
  have hpres : e.presence = .finished ∨ e.presence = .absent := by
    cases hp : e.presence <;> simp_all
  exact ⟨hsound.seat_none hpres hadm.2.2, hsound.offer_none hadm.2.1 (by rcases hpres with hp | hp <;> simp [hp])⟩

theorem State.leaveList_sameHall (s : State) (p : Nat) : SameHall s (s.leaveList p) :=
  (State.leaveList_only s p (List.Subset.refl _) (.refl _ _)).sameHall (by decide)

/-- WITHDRAW of an EXPECTED candidate (R9). -/
theorem State.withdraw_agreed (h : s.Agreed C late) (he : s.entry? e.slot = some e) (hp : e.presence = .expected) :
    ((((s.endNeed e.slot).leaveList e.slot).releaseHeld e.slot).deleteEntry e.slot).Agreed C late := by
  have hsound := h.sound _ e he
  have hn := (State.endNeed_brings h.links he).sameHall (State.leaveList_sameHall (s.endNeed e.slot) e.slot)
  have hr := State.releaseHeld_brings hn.links hn.entry fun d hd => by
    have hocc := h.links.occupant_of_seat he hd
    rw [(State.leaveList_sameHall _ _).tenure, State.endNeed_tenure h.links hocc]
    exact hsound.held (.inl hp) hd
  have hb := hn.trans hr
  have hagreed := hb.agreed h (hsound.replaced (.inl hp) hb.timing (a := none) (b := none) (by simp))
  exact State.deleteEntry_agreed hagreed hb.entry rfl rfl

end Sys2Proof.Machine

namespace Sys2Proof.Machine

variable {s s0 t u : State} {p k : Nat} {e x : Entry} {C : Prop} {late late' : Option Nat}

/-! ### Enrolment -/

theorem insertEntry_perm (e : Entry) (l : List Entry) : (insertEntry e l).Perm (e :: l) := by
  induction l with
  | nil => exact .refl _
  | cons x l ih =>
    unfold insertEntry
    split
    · exact .refl _
    · exact (ih.cons x).trans (.swap e x l)

theorem mem_insertEntry {l : List Entry} : x ∈ insertEntry e l ↔ x = e ∨ x ∈ l := by
  rw [(insertEntry_perm e l).mem_iff, List.mem_cons]

/-- An entry of a new number is inserted at its place (R1). -/
theorem insertEntry_ascending {l : List Entry} (hl : (l.map Entry.number).Pairwise (· < ·))
    (hnew : ∀ x ∈ l, x.number ≠ e.number) : ((insertEntry e l).map Entry.number).Pairwise (· < ·) := by
  induction l with
  | nil => simp [insertEntry]
  | cons x l ih =>
    rw [List.map_cons, List.pairwise_cons] at hl
    obtain ⟨hx, hl⟩ := hl
    have hlt (y : Entry) (hy : y ∈ l) : x.number < y.number := hx _ (List.mem_map_of_mem hy)
    unfold insertEntry
    split
    · next hlow =>
      rw [List.map_cons, List.pairwise_cons, List.map_cons]
      refine ⟨fun n hn => ?_, List.pairwise_cons.2 ⟨hx, hl⟩⟩
      rcases List.mem_cons.1 hn with rfl | hn
      · exact hlow
      · exact hlow.trans (hx n hn)
    · next hlow =>
      have hgt : x.number < e.number := by have := hnew x (by simp); omega
      rw [List.map_cons, List.pairwise_cons]
      refine ⟨fun n hn => ?_, ih hl fun y hy => hnew y (by simp [hy])⟩
      obtain ⟨y, hy, rfl⟩ := List.mem_map.1 hn
      rcases mem_insertEntry.1 hy with rfl | hy
      · exact hgt
      · exact hlt y hy

theorem State.freeSlot_spec {i : Nat} (h : s.freeSlot = some i) : i < Config.slots ∧ s.entry? i = none := by
  unfold State.freeSlot at h
  exact ⟨List.mem_range.1 (List.mem_of_find?_eq_some h), by simpa using List.find?_some h⟩

theorem State.slot_ne_of_entry?_none (h : s.entry? p = none) (hx : x ∈ s.roster.entries) : x.slot ≠ p := by
  simpa using List.find?_eq_none.1 h x hx

theorem State.number_ne_of_byNumber?_none {n : Nat} (h : s.byNumber? n = none) (hx : x ∈ s.roster.entries) :
    x.number ≠ n := by
  simpa using List.find?_eq_none.1 h x hx

/-- A new number in a free slot keeps the roster ordered (R1). -/
theorem State.insertEntry_rosterOrdered (hs : s.RosterOrdered) (hslot : e.slot < Config.slots)
    (hfree : s.entry? e.slot = none) (hgood : badNumber e.number = false) (hnew : s.byNumber? e.number = none) :
    (s.setEntries (insertEntry e s.roster.entries)).RosterOrdered := by
  obtain ⟨hn, hslots, hbounds⟩ := hs
  refine ⟨insertEntry_ascending hn fun x => State.number_ne_of_byNumber?_none hnew, ?_, fun x hx => ?_⟩
  · rw [State.setEntries_roster, ((insertEntry_perm e _).map Entry.slot).nodup_iff, List.map_cons, List.nodup_cons]
    refine ⟨fun hm => ?_, hslots⟩
    obtain ⟨x, hx, hxe⟩ := List.mem_map.1 hm
    exact State.slot_ne_of_entry?_none hfree hx hxe
  · rcases mem_insertEntry.1 hx with rfl | hx
    · exact ⟨hslot, hgood⟩
    · exact hbounds x hx

theorem State.entry?_insertEntry (ht : (s.setEntries (insertEntry e s.roster.entries)).RosterOrdered) (q : Nat) :
    (s.setEntries (insertEntry e s.roster.entries)).entry? q = if q = e.slot then some e else s.entry? q := by
  split
  · next hq => rw [hq]; exact State.entry?_of_mem ht (mem_insertEntry.2 (.inl rfl))
  · next hq =>
    cases hx : s.entry? q with
    | some x =>
      rw [← State.slot_of_entry? hx]
      exact State.entry?_of_mem ht (mem_insertEntry.2 (.inr (State.mem_of_entry? hx)))
    | none =>
      refine List.find?_eq_none.2 fun x hx' => ?_
      rcases mem_insertEntry.1 hx' with rfl | hm
      · simpa using Ne.symm hq
      · simpa using State.slot_ne_of_entry?_none hx hm

/-- What ENROL does with one entry: it is refused, or entered in a free slot (R7). -/
theorem State.enrolOne_cases (s : State) (k : Nat) (p : EnrolEntry) :
    ((s.enrolOne k p).1 = s ∧ (s.enrolOne k p).2 ≠ .ok)
      ∨ ∃ i, s.freeSlot = some i ∧ badNumber p.number = false ∧ s.byNumber? p.number = none
        ∧ (s.enrolOne k p) = ((s.setEntries (insertEntry (newEntry k i (s.sitting k).defn.writing p) s.roster.entries)).modSitting k
          (fun r => { r with enrolled := r.enrolled + 1 }), .ok) := by
  unfold State.enrolOne
  split
  · exact .inl ⟨rfl, by simp⟩
  · next hb =>
    split
    · exact .inl ⟨rfl, by simp⟩
    · next hd =>
      split
      · exact .inl ⟨rfl, by simp⟩
      · next i hi => exact .inr ⟨i, hi, by simpa using hb, by simpa using hd, rfl⟩

theorem State.enrolOne_rosterOrdered (hs : s.RosterOrdered) (k : Nat) (p : EnrolEntry) :
    (s.enrolOne k p).1.RosterOrdered := by
  obtain ⟨hst, -⟩ | ⟨i, hi, hgood, hnew, heq⟩ := s.enrolOne_cases k p
  · rw [hst]; exact hs
  · obtain ⟨hslot, hfree⟩ := State.freeSlot_spec hi
    rw [heq]
    exact State.insertEntry_rosterOrdered (e := newEntry k i (s.sitting k).defn.writing p) hs hslot hfree hgood hnew

theorem State.enrolAll_rosterOrdered (hs : s.RosterOrdered) (k : Nat) (l : List EnrolEntry) :
    (s.enrolAll k l).1.RosterOrdered := by
  induction l generalizing s with
  | nil => exact hs
  | cons p l ih => exact ih (State.enrolOne_rosterOrdered hs k p)

theorem newEntry_counted (k i w : Nat) (p : EnrolEntry) : (newEntry k i w p).counted := by
  obtain ⟨hl, hr⟩ := budgetOf_bounds w (clampNat 0 100 p.allowance) 0 (used := 0) (Nat.zero_le _)
  have ha := clampNat_bounds (lo := 0) (hi := 100) (by decide) p.allowance
  have hrest := clampNat_bounds (lo := 0) (hi := 3600) (by decide) p.restAllowance
  exact ⟨hl, hr, Nat.zero_le _, hrest.2, ha.2, (by decide : -Config.lastAdjustSum ≤ (0 : Int)),
    (by decide : (0 : Int) ≤ Config.lastAdjustSum)⟩

/-- A phase that admits enrolment. -/
theorem admitsEnrolment_iff (x : Phase) : admitsEnrolment x = true ↔ x = .defined ∨ x = .opened ∨ x = .reading := by
  cases x <;> simp [admitsEnrolment]

theorem State.enrolOne_agreed (h : s.Agreed C late) (hk : admitsEnrolment (s.sitting k).phase = true) (p : EnrolEntry) :
    (s.enrolOne k p).1.Agreed C late ∧ ((s.enrolOne k p).1.sitting k).timing = (s.sitting k).timing := by
  obtain ⟨hst, -⟩ | ⟨i, hi, hgood, hnew, heq⟩ := s.enrolOne_cases k p
  · rw [hst]; exact ⟨h, rfl⟩
  obtain ⟨hslot, hfree⟩ := State.freeSlot_spec hi
  have hsame := State.modSitting_sameHall
    (s.setEntries (insertEntry (newEntry k i (s.sitting k).defn.writing p) s.roster.entries)) k
    (f := fun r => { r with enrolled := r.enrolled + 1 }) fun _ => rfl
  rw [heq]
  refine ⟨hsame.agreed ?_, hsame.timing k⟩
  have hro := State.insertEntry_rosterOrdered (e := newEntry k i (s.sitting k).defn.writing p) h.links.roster hslot hfree
    hgood hnew
  have hentry (q : Nat) : _ = if q = i then some (newEntry k i (s.sitting k).defn.writing p) else s.entry? q :=
    State.entry?_insertEntry hro q
  have unseen {q d : Nat} (g : Entry → Option Nat) (hg : g (newEntry k i (s.sitting k).defn.writing p) = none) :
      (∃ y, (s.setEntries (insertEntry (newEntry k i (s.sitting k).defn.writing p) s.roster.entries)).entry? q = some y
        ∧ g y = some d) ↔ ∃ y, s.entry? q = some y ∧ g y = some d := by
    rw [hentry]
    by_cases hq : q = i
    · subst hq; simp [hfree, hg]
    · rw [if_neg hq]
  refine ⟨⟨hro, fun d q => ?_, fun d q => ?_, h.links.table, h.links.nodup, fun q y hy => ?_, h.links.limits⟩,
    fun q y hy => ?_⟩
  · rw [unseen Entry.seat rfl]; exact h.links.seated d q
  · rw [unseen Entry.offer rfl]; exact h.links.offered d q
  · rw [hentry] at hy
    split at hy
    · cases hy; exact fun _ => rfl
    · exact h.links.apart q y hy
  · rw [hentry] at hy
    split at hy
    · cases hy
      refine ⟨fun _ hd => by simp [newEntry] at hd, fun hd => by simp [newEntry] at hd, rfl, .inl ?_, fun _ => ?_,
        fun _ hrun => by simp [newEntry] at hrun⟩
      · change (s.sitting k).admits _
        rcases (admitsEnrolment_iff _).1 hk with hp | hp | hp <;> simp [Sitting.admits, hp, newEntry]
      · exact (Entry.clockBounded_iff _).2 ⟨newEntry_counted .., by simp [newEntry], by simp [newEntry], by simp [newEntry]⟩
    · exact (h.sound q y hy).of_timing rfl fun _ _ => rfl

theorem State.enrolAll_agreed (h : s.Agreed C late) (hk : admitsEnrolment (s.sitting k).phase = true)
    (l : List EnrolEntry) : (s.enrolAll k l).1.Agreed C late := by
  induction l generalizing s with
  | nil => exact h
  | cons p l ih =>
    obtain ⟨hagreed, ht⟩ := State.enrolOne_agreed h hk p
    have hphase : ((s.enrolOne k p).1.sitting k).phase = (s.sitting k).phase := congrArg Prod.fst ht
    exact ih hagreed (hphase ▸ hk)

/-! ### Holds and the alarm input -/

theorem State.holdSitting_sameHall (s : State) (k : Nat) : SameHall s (s.holdSitting k) :=
  State.changeSitting_holds_sameHall s k fun _ => rfl

theorem State.clearHolds_sameHall (s : State) (k : Nat) : SameHall s (s.clearHolds k) :=
  State.changeSitting_holds_sameHall s k fun _ => rfl

theorem State.holdThese_sameHall (s : State) (l : List Nat) : SameHall s (s.holdThese l) :=
  (SameHall.foldl l State.holdSitting_sameHall s).trans (State.finishTask_sameHall _ _ _ _)

theorem State.resumeThese_sameHall (s : State) (l : List Nat) : SameHall s (s.resumeThese l) := by
  unfold State.resumeThese
  split
  · exact State.finishTask_sameHall _ _ _ _
  · exact (SameHall.foldl l State.clearHolds_sameHall s).trans (State.finishTask_sameHall _ _ _ _)

theorem State.assertAlarm_sameHall (s : State) : SameHall s s.assertAlarm :=
  (SameHall.foldl _ (fun u k => State.changeSitting_holds_sameHall u k
    (f := fun r => { r with holds := { r.holds with alarm := true } }) fun _ => rfl) s).trans (State.raise_sameHall _ _ _)

theorem State.timing_holdQuietly (hw : Table.wf {} s.control.sittings = true) (f : Holds → Holds) (k : Nat) :
    ((s.holdQuietly f).sitting k).timing = (s.sitting k).timing := by
  unfold State.holdQuietly State.sitting
  dsimp only
  rw [Table.read_mapRecords hw (by rfl)]
  split <;> rfl

theorem State.holdQuietly_sameHall (hw : Table.wf {} s.control.sittings = true) (f : Holds → Holds) :
    SameHall s (s.holdQuietly f) :=
  ⟨rfl, fun _ => rfl, rfl, State.timing_holdQuietly hw f⟩

theorem State.findAlarm_sameHall (hw : Table.wf {} s.control.sittings = true) : SameHall s s.findAlarm :=
  have hp (x : PowerUnit) : SameHall s { s with power := x } := ⟨rfl, fun _ => rfl, rfl, fun _ => rfl⟩
  (hp _).trans (State.holdQuietly_sameHall
    (s := { s with power := { s.power with alarmFound := some (s.power.alarmFound.getD s.alarmSubject) } }) hw _)

end Sys2Proof.Machine

namespace Sys2Proof.Machine

variable {s s0 t u : State} {p k : Nat} {e x : Entry} {C : Prop} {late late' : Option Nat}

/-! ### The end of a candidate's clock at the host's request, and a seat's flag -/

theorem State.endCandidate_agreed (h : s.Agreed C late) (he : s.entry? e.slot = some e) (hopen : e.clock ≠ .ended) :
    (s.endCandidate e).Agreed C late := by
  have hsound := h.sound _ e he
  unfold State.endCandidate
  split
  · next hp =>
    exact (State.queueClock_sameHall _ _ _).agreed
      (State.endPresent_agreed h (.refl h.links he) hsound.unclocked hsound.counted hp)
  · next hp => exact State.endDisplaced_agreed h (.refl h.links he) hsound.unclocked hsound.counted hp
  · next hp hd =>
    refine State.endExpected_agreed h he ?_
    have := hsound.lawful
    unfold Entry.lawful at this
    cases hpr : e.presence <;> simp_all

theorem State.flagSeat_sameHall (s : State) (d : Nat) (b : Bool) : SameHall s (s.flagSeat d b) := by
  unfold State.flagSeat
  dsimp only
  refine .trans (State.setSeat_sameHall s (d := d) (v := { s.seat d with disabled := b }) rfl) ?_
  exact .ite (State.showSeat_sameHall _ _ _) (.refl _)

/-! ### Starts -/

/-- The tenure of a seat after a warm start (R37). -/
theorem tenure_warmSeat (x : Seat) (p : Nat) :
    (occupant (warmSeat x).tenure = some p ↔ occupant x.tenure = some p)
      ∧ (occupant x.tenure = some p → (warmSeat x).tenure = x.tenure) ∧ offeree (warmSeat x).tenure = none := by
  unfold warmSeat
  cases x.tenure <;> simp [occupant, offeree]

/-- A warm start keeps occupants and drops every offer (R37, R61). -/
theorem State.Agreed.warmed (h : s.Agreed C late) (hw : Table.wf {} s.seatMap.seats = true)
    (hentries : t.roster.entries = s.roster.entries.map fun e => { e with offer := none })
    (hseats : t.seatMap.seats = Table.mapRecords {} warmSeat s.seatMap.seats) (hoffers : t.placement.offers = [])
    (htiming : ∀ k, (t.sitting k).timing = (s.sitting k).timing) : t.Agreed C late := by
  have hseat (d : Nat) : t.seat d = warmSeat (s.seat d) := by
    unfold State.seat; rw [hseats]; exact Table.read_mapRecords hw rfl d
  have hentry (q : Nat) : t.entry? q = (s.entry? q).map fun e => { e with offer := none } := by
    have := State.entry?_setEntries_map (s := s) (fun e => { e with offer := none }) (fun _ => rfl) q
    unfold State.entry? at this ⊢
    rw [hentries]; exact this
  have hoff (d : Nat) : offeree (t.seat d).tenure = none := by rw [hseat]; exact (tenure_warmSeat _ 0).2.2
  have hro : t.RosterOrdered := State.rosterOrdered_of_identities (s := s)
    (by rw [hentries, List.map_map]; rfl) h.links.roster
  have defn (k : Nat) : (t.sitting k).defn = (s.sitting k).defn := congrArg (fun x => x.2.1) (htiming k)
  refine ⟨⟨hro, fun d q => ?_, fun d q => ?_, fun d q => ?_, by simp [hoffers], fun q x hx hs => ?_,
    fun k => by rw [defn]; exact h.links.limits k⟩, fun q x hx => ?_⟩
  · rw [hseat, (tenure_warmSeat _ q).1, h.links.seated, hentry]
    cases s.entry? q <;> simp
  · rw [hoff, hentry]
    cases s.entry? q <;> simp
  · rw [hoff, hoffers]; simp
  · rw [hentry] at hx
    obtain ⟨e, -, rfl⟩ := Option.map_eq_some_iff.1 hx
    simp at hs
  · rw [hentry] at hx
    obtain ⟨e, he, rfl⟩ := Option.map_eq_some_iff.1 hx
    refine (h.sound q e he).without_offer.of_timing (htiming _) fun d hd => ?_
    rw [hseat]
    exact (tenure_warmSeat _ q).2.1 (h.links.occupant_of_seat he hd)

theorem State.endRunAtStart_sameHall (s : State) : SameHall s s.endRunAtStart := by
  unfold State.endRunAtStart
  split
  · exact State.closeRun_sameHall s _ _
  · exact .refl s

theorem State.endRunAtStart_wf (h : Table.wf {} s.control.sittings = true) :
    Table.wf {} s.endRunAtStart.control.sittings = true := by
  unfold State.endRunAtStart
  split
  · exact Table.write_wf h _ _
  · exact h

theorem State.endRunAtStart_seats (s : State) : s.endRunAtStart.seatMap = s.seatMap := by
  unfold State.endRunAtStart; split <;> rfl

theorem State.holdQuietly_wf (h : Table.wf {} s.control.sittings = true) (f : Holds → Holds) :
    Table.wf {} (s.holdQuietly f).control.sittings = true := by
  unfold State.holdQuietly
  dsimp only
  exact Table.mapRecords_wf h _

theorem State.warmStart_agreed (h : s.Agreed C late) (hseats : Table.wf {} s.seatMap.seats = true)
    (hsittings : Table.wf {} s.control.sittings = true) (cause : StartCause) : (s.warmStart cause).Agreed C late := by
  have hwf := State.endRunAtStart_wf hsittings
  have hall := (State.endRunAtStart_sameHall s).trans
    (State.holdQuietly_sameHall hwf fun h => { h with restart := true })
  have hwarm : Table.wf {} (s.endRunAtStart.holdQuietly fun h => { h with restart := true }).control.sittings = true :=
    State.holdQuietly_wf hwf _
  have hmap : Table.wf {} (s.endRunAtStart.holdQuietly fun h => { h with restart := true }).seatMap.seats = true :=
    (State.endRunAtStart_seats s) ▸ hseats
  have hold := hall.agreed h
  unfold State.warmStart
  dsimp only
  split
  · refine (State.findAlarm_sameHall ?_).agreed (hold.warmed hmap rfl rfl rfl fun _ => rfl)
    exact hwarm
  · exact hold.warmed hmap rfl rfl rfl fun _ => rfl

/-- With no candidate, no seat taken and no sitting defined there is nothing to disagree. -/
theorem State.agreed_of_empty (hentries : s.roster.entries = []) (hseats : ∀ d, (s.seat d).tenure = .empty)
    (hoffers : s.placement.offers = []) (hlimits : ∀ k, (s.sitting k).defn.lateLimit ≤ (s.sitting k).defn.writing) :
    s.Agreed C late := by
  have hentry (q : Nat) : s.entry? q = none := by unfold State.entry?; rw [hentries]; rfl
  refine ⟨⟨by simp [State.RosterOrdered, hentries], ?_, ?_, ?_, by simp [hoffers], ?_, hlimits⟩, ?_⟩ <;>
    simp [hentry, hseats, hoffers, occupant, offeree]

theorem State.coldStart_agreed (s : State) : s.coldStart.Agreed C late := by
  unfold State.coldStart
  dsimp only
  split
  · refine (State.findAlarm_sameHall ?_).agreed (State.agreed_of_empty ?_ ?_ ?_ ?_)
    · rfl
    · rfl
    · exact fun _ => rfl
    · rfl
    · exact fun _ => Nat.le_refl 0
  · exact State.agreed_of_empty rfl (fun _ => rfl) rfl fun _ => Nat.le_refl 0

end Sys2Proof.Machine

namespace Sys2Proof.Machine

variable {s t u : State} {bs : List Part}

/-! ### What each task changes -/

/-- A task changes the mailbox and what its body changes. -/
theorem task_frame {k : Task} {body : State → State} (h : (Host.Outcome.next (s.atPort k body) : Result) = .next t)
    (hbody : ∀ u, OnlyChanges (.mailbox :: bs) u (body u)) : OnlyChanges (.mailbox :: bs) s t := by
  obtain rfl : s.atPort k body = t := by injection h
  exact State.atPort_only s k body (by simp) (.refl _ _) hbody

/-- An event changes what its body changes. -/
theorem event_frame {body : State → State} (h : (Host.Outcome.next (s.whileOn body) : Result) = .next t)
    (hbody : ∀ u, OnlyChanges bs u (body u)) : OnlyChanges bs s t := by
  obtain rfl : s.whileOn body = t := by injection h
  exact State.whileOn_only s body (.refl _ _) hbody

theorem OnlyChanges.done {c : ResultCode} {b : Bool} {r : Report} (h : OnlyChanges (.mailbox :: bs) s u) :
    OnlyChanges (.mailbox :: bs) s (u.finishTask c b r) := State.finishTask_only u c b r (by simp) h

theorem OnlyChanges.reported (s : State) {c : ResultCode} {b : Bool} {r : Report} :
    OnlyChanges (.mailbox :: bs) s (s.finishTask c b r) := .done (.refl _ _)

theorem OnlyChanges.refused (s : State) {c : ResultCode} : OnlyChanges (.mailbox :: bs) s (s.refuse c) :=
  .done (.refl _ _)

theorem OnlyChanges.onCandidate {n : Nat} {body : Entry → State} (h : ∀ e, OnlyChanges (.mailbox :: bs) s (body e)) :
    OnlyChanges (.mailbox :: bs) s (s.withCandidate n body) := State.withCandidate_only s n body (by simp) (.refl _ _) h

/-! #### Access, notices and settings -/

theorem execEnterLevel_only {l p} (h : execEnterLevel l p s = .next t) : OnlyChanges [.mailbox, .access] s t :=
  task_frame h fun u => by
    cases l with
    | none => exact .refused u
    | some l =>
      exact .ite (.refused u) (.ite (.done (only_access _ _ _ _ (by decide) (.refl _ _)))
        (.done (State.wrongEntry_only _ (by decide) (.refl _ _))))

theorem execLeaveLevel_only (h : execLeaveLevel s = .next t) : OnlyChanges [.mailbox, .access] s t :=
  task_frame h fun u => .done (only_access _ _ _ _ (by decide) (.refl _ _))

theorem execSetPasscode_only {l v} (h : execSetPasscode l v s = .next t) : OnlyChanges [.mailbox, .settings] s t :=
  task_frame h fun u => by
    cases l with
    | none => exact .refused u
    | some l => exact .done (State.setSettings_only _ _ (by decide) (.refl _ _))

theorem execSetGrants_only {g} (h : execSetGrants g s = .next t) : OnlyChanges [.mailbox, .settings] s t :=
  task_frame h fun u => by
    dsimp only
    split
    · exact .refused u
    · exact .done (State.setSettings_only _ _ (by decide) (.refl _ _))

theorem execReadNotices_only (h : execReadNotices s = .next t) : OnlyChanges [.mailbox, .notices] s t :=
  task_frame h fun u => .done (only_notices _ _ (by decide) (.refl _ _))

theorem execSaveSettings_only (h : execSaveSettings s = .next t) : OnlyChanges [.mailbox, .settings] s t :=
  task_frame h fun u => only_settings _ _ (by decide) (.refl _ _)

theorem execSettingsWriteEnd_only {c} (h : execSettingsWriteEnd c s = .next t) :
    OnlyChanges [.mailbox, .settings] s t :=
  event_frame h fun u => by
    split
    · exact .refl _ _
    · exact .ite (.done (only_settings _ _ (by decide) (.refl _ _))) (.done (only_settings _ _ (by decide) (.refl _ _)))

theorem execSetLineLimits_only {l r} (h : execSetLineLimits l r s = .next t) : OnlyChanges [.mailbox, .settings] s t :=
  task_frame h fun u => .done (State.setSettings_only _ _ (by decide) (.refl _ _))

theorem execSetSignal_only {o c} (h : execSetSignal o c s = .next t) : OnlyChanges [.mailbox, .settings, .bells] s t :=
  task_frame h fun u => by
    cases c with
    | none => exact .refused u
    | some c =>
      exact .ite (.refused u) (.done (State.setBell_only _ _ _ (by decide)
        (State.setSettings_only _ _ (by decide) (.refl _ _))))

/-! #### The roster -/

theorem execEnrol_only {k l} (h : execEnrol k l s = .next t) :
    OnlyChanges [.mailbox, .identities, .entries, .sittings] s t :=
  task_frame h fun u => .ite (.refused u) (.ite (.refused u)
    (.done (State.enrolAll_only u k l (by decide) (.refl _ _))))

theorem execWithdraw_only {n} (h : execWithdraw n s = .next t) : OnlyChanges (mayChange (.withdraw n)) s t :=
  task_frame (bs := .identities :: .tags :: placementParts) h fun u => by
    dsimp only
    split
    · exact .refused u
    · exact .ite (.refused u) (.done (State.checkRun_only _ (by decide) (State.deleteEntry_only _ _ (by decide)
        (State.releaseHeld_only _ _ (by decide) (State.leaveList_only _ _ (by decide)
          (State.endNeed_only _ _ (by decide) (.refl _ _)))))))

theorem execAmend_only {n c a r} (h : execAmend n c a r s = .next t) : OnlyChanges (.mailbox :: clockParts) s t :=
  task_frame h fun u => by
    dsimp only
    split
    · exact .refused u
    · exact .ite (.refused u) (.ite (.refused u) (.ite (.refused u) (.done (State.amendRest_only _ _ _ (by decide)
        (State.amendAllowance_only _ _ _ (by decide)
          (State.modEntry_only _ _ _ (by intro; rfl) (by decide) (.refl _ _)))))))

theorem execLookup_only {n} (h : execLookup n s = .next t) : OnlyChanges [.mailbox] s t :=
  task_frame h fun u => State.named_only u n _ (by decide) (.refl _ _) fun _ => .reported u

theorem execList_only {f p n} (h : execList f p n s = .next t) : OnlyChanges [.mailbox] s t :=
  task_frame h fun u => .ite (.refused u) (.reported u)

/-! #### The seat map -/

theorem execSeatInfo_only {n} (h : execSeatInfo n s = .next t) : OnlyChanges [.mailbox] s t :=
  task_frame h fun u => by
    cases n with
    | seat | zone => exact .ite (.reported u) (.refused u)
    | other => exact .refused u

theorem execDisableSeat_only {d} (h : execDisableSeat d s = .next t) :
    OnlyChanges [.mailbox, .seats, .reseats, .lines, .notices] s t :=
  task_frame h fun u => .ite (.refused u) (.ite (.refused u)
    (.done (State.flagSeat_only _ _ _ (by decide) (.refl _ _))))

theorem execEnableSeat_only {d} (h : execEnableSeat d s = .next t) :
    OnlyChanges [.mailbox, .seats, .reseats, .lines, .notices] s t :=
  task_frame h fun u =>
    have hflag : OnlyChanges [.mailbox, .seats, .reseats, .lines, .notices] u (u.flagSeat d false) :=
      State.flagSeat_only _ _ _ (by decide) (.refl _ _)
    .ite (.refused u) (.done (.ite (State.retryStranded_only _ _ (by decide) hflag) hflag))

theorem execReserve_only {z x c o} (h : execReserve z x c o s = .next t) : OnlyChanges [.mailbox, .extents] s t :=
  task_frame h fun u => by
    cases x with
    | none => exact .refused u
    | some x =>
      refine .ite (.refused u) (.ite (.refused u) (.ite (.refused u) (.ite (.refused u) (.ite (.refused u)
        (.ite (.refused u) (.ite (.refused u) ?_))))))
      split
      · exact .reported u
      · exact .done (State.setZoneExtents_only _ _ _ (by decide) (.refl _ _))

theorem execUnreserve_only {z x} (h : execUnreserve z x s = .next t) : OnlyChanges [.mailbox, .extents] s t :=
  task_frame h fun u => by
    cases x with
    | none => exact .refused u
    | some x =>
      refine .ite (.refused u) (.ite (.refused u) ?_)
      dsimp only
      split
      · exact .refused u
      · exact .ite (.refused u) (.done (State.setZoneExtents_only _ _ _ (by decide) (.refl _ _)))

/-! #### Placement -/

theorem execAllocate_only {k} (h : execAllocate k s = .next t) : OnlyChanges [.mailbox, .run, .sittings, .notices] s t :=
  task_frame h fun u => .ite (.refused u) (.ite (.refused u) (.ite (.refused u)
    (.done (State.checkRun_only _ (by decide) (State.startRun_only _ _ (by decide) (.refl _ _))))))

theorem execAbortAllocation_only {k} (h : execAbortAllocation k s = .next t) :
    OnlyChanges (.mailbox :: placementParts) s t :=
  task_frame h fun u => by
    refine .ite (.refused u) (.ite (.refused u) ?_)
    split
    · exact .refused u
    · have hcancel : OnlyChanges (.mailbox :: placementParts) u (u.runOffers.foldl State.cancelOffer u) :=
        .foldl (.refl _ _) fun v o => State.cancelOffer_only v o (by decide) (.refl _ _)
      refine .done ?_
      split
      · exact State.closeRun_only _ _ _ (by decide) hcancel
      · exact hcancel

theorem execMove_only {n x} (h : execMove n x s = .next t) : OnlyChanges (.mailbox :: placementParts) s t :=
  task_frame h fun u => .ite (.refused u) (.onCandidate fun e => .ite (.refused u) (.ite (.refused u) (by
    split
    · exact .refused u
    · exact .done (State.carryMove_only _ _ _ (by decide) (.refl _ _)))))

/-- RESTART_LINE keeps every link state too where the tables are canonical (R143). -/
theorem execRestartLine_only {z} (h : execRestartLine z s = .next t) :
    OnlyChanges (.mailbox :: .linkStates :: placementParts) s t :=
  task_frame h fun u => by
    have line (v : State) (l : Line) : OnlyChanges (.mailbox :: .linkStates :: placementParts) v (v.setLine z l) := by
      refine ⟨fun p hp => ?_⟩
      cases p <;> first | rfl | (simp [placementParts] at hp; done) | simp [same, State.seat]
    exact .ite (.refused u) (.done ((State.retellPhases_only _ _ (by decide)
      (.foldl (State.clearLine_only _ _ (by decide) (.refl _ _)) fun v d =>
        State.failRestart_only v d (by decide) (.refl _ _))).trans (line _ _)))

/-! #### Sittings -/

theorem execDefineSitting_only {k p} (h : execDefineSitting k p s = .next t) :
    OnlyChanges [.mailbox, .entries, .sittings, .bells, .lines, .notices] s t :=
  task_frame h fun u => by
    dsimp only
    refine .ite (.refused u) ?_
    split
    · exact .ite (.refused u) (.done (State.defineNew_only _ _ _ (by decide) (.refl _ _)))
    · refine .ite (.refused u) (.ite (.refused u) ?_)
      split
      · exact .reported u
      · exact .done (State.redefine_only _ _ _ (by decide) (.refl _ _))
    · exact .refused u

theorem execOpenNow_only {k} (h : execOpenNow k s = .next t) : OnlyChanges (.mailbox :: clockParts) s t :=
  task_frame h fun u => by
    dsimp only
    refine .ite (.refused u) ?_
    split
    · exact .done (State.enterOpen_only _ _ (by decide) (.refl _ _))
    · exact .ite (.refused u) (.done (State.sittingStart_only _ _ (by decide) (.refl _ _)))
    · exact .refused u

theorem execHold_only {x} (h : execHold x s = .next t) :
    OnlyChanges [.mailbox, .sittings, .bells, .lines, .notices] s t :=
  task_frame h fun u => by
    cases x with
    | one k => exact .ite (.refused u) (.ite (.refused u) (State.holdThese_only _ _ (by decide) (.refl _ _)))
    | all => exact State.holdThese_only _ _ (by decide) (.refl _ _)

theorem execResume_only {x} (h : execResume x s = .next t) :
    OnlyChanges [.mailbox, .sittings, .bells, .lines, .notices] s t :=
  task_frame h fun u => by
    cases x with
    | one k => exact .ite (.refused u) (.ite (.refused u) (State.resumeThese_only _ _ (by decide) (.refl _ _)))
    | all => exact State.resumeThese_only _ _ (by decide) (.refl _ _)

theorem execCloseCollection_only {k} (h : execCloseCollection k s = .next t) :
    OnlyChanges (.mailbox :: clockParts) s t :=
  task_frame h fun u => .ite (.refused u) (.ite (.refused u) (.done (State.changeSitting_only _ _ _ (by decide)
    (.foldl (.refl _ _) fun v p => State.declareMissing_only v p (by decide) (.refl _ _)))))

theorem execRetireSitting_only {k} (h : execRetireSitting k s = .next t) :
    OnlyChanges (mayChange (.retireSitting k)) s t :=
  task_frame (bs := .identities :: .tags :: .keys :: .extents :: clockParts) h fun u => by
    refine .ite (.refused u) ?_
    split
    · exact .ite (.refused u) (.done (State.clearSitting_only _ _ (by decide) (.refl _ _)))
    · exact .ite (.refused u) (.done (State.clearSitting_only _ _ (by decide)
        (State.clearPlacement_only _ _ (by decide) (.refl _ _))))
    · exact .refused u

theorem execSetHallTime_only {v} (h : execSetHallTime v s = .next t) : OnlyChanges [.mailbox, .hallTime] s t :=
  task_frame h fun u => .ite (.refused u) (.done (only_hallTime _ _ _ (by decide) (.refl _ _)))

theorem execSittingInfo_only {k} (h : execSittingInfo k s = .next t) : OnlyChanges [.mailbox] s t :=
  task_frame h fun u => .ite (.reported u) (.ite (.refused u) (.reported u))

theorem execAdjustTime_only {n a} (h : execAdjustTime n a s = .next t) : OnlyChanges (.mailbox :: clockParts) s t :=
  task_frame h fun u => .onCandidate fun e => .ite (.refused u)
    (.done (State.adjust_only _ _ _ (by decide) (.refl _ _)))

theorem execEndCandidate_only {n} (h : execEndCandidate n s = .next t) : OnlyChanges (.mailbox :: clockParts) s t :=
  task_frame h fun u => .onCandidate fun e => .ite (.refused u)
    (.done (State.endCandidate_only _ _ (by decide) (.refl _ _)))

/-! #### Custody, keys, batches and review -/

theorem execVoidScript_only {n} (h : execVoidScript n s = .next t) : OnlyChanges (mayChange (.voidScript n)) s t :=
  task_frame (bs := .trays :: .batch :: clockParts) h fun u => .onCandidate fun e => .ite (.refused u)
    (.done (State.voidScript_only _ _ (by decide) (.refl _ _)))

theorem execTrayInfo_only {v n} (h : execTrayInfo v n s = .next t) : OnlyChanges [.mailbox] s t :=
  task_frame h fun u => .ite (.reported u) (.ite (.refused u) (.reported u))

theorem execClearTray_only {v} (h : execClearTray v s = .next t) :
    OnlyChanges [.mailbox, .entries, .trays, .lines, .notices] s t :=
  task_frame h fun u => by
    refine .ite (.refused u) ?_
    split
    · exact .refused u
    · exact .reported u
    · split
      · exact .reported u
      · exact .done (State.emptyTray_only _ _ (by decide) (.refl _ _))

theorem execLoadKey_only {k c} (h : execLoadKey k c s = .next t) : OnlyChanges [.mailbox, .keys] s t :=
  task_frame h fun u => by
    cases c with
    | none => exact .refused u
    | some c =>
      refine .ite (.refused u) (.ite (.refused u) ?_)
      cases c with
      | header => exact State.loadHeader_only _ _ _ _ _ _ _ (by decide) (.refl _ _)
      | questions => exact State.loadChunk_only _ _ _ _ (by decide) (.refl _ _)
      | clear => exact .done (State.setKey_only _ _ _ (by decide) (.refl _ _))

theorem execLockKey_only {k} (h : execLockKey k s = .next t) : OnlyChanges [.mailbox, .keys] s t :=
  task_frame h fun u => by
    refine .ite (.refused u) ?_
    split
    · exact .refused u
    · exact .refused u
    · split
      · exact .reported u
      · exact .done (State.setKey_only _ _ _ (by decide) (.refl _ _))

theorem execAmendKey_only {k q x} (h : execAmendKey k q x s = .next t) : OnlyChanges [.mailbox, .keys, .walks] s t :=
  task_frame h fun u => by
    cases x with
    | none => exact .refused u
    | some x =>
      exact .ite (.refused u) (.ite (.refused u) (.ite (.refused u) (.ite (.refused u) (.ite (.refused u)
        (.ite (.refused u) (.ite (.refused u) (.done (State.queueWalk_only _ _ (by decide)
          (State.setKey_only _ _ _ (by decide) (.refl _ _))))))))))

theorem execReadKey_only {k x n} (h : execReadKey k x n s = .next t) : OnlyChanges [.mailbox] s t :=
  task_frame h fun u => by
    cases x with
    | none => exact .refused u
    | some x =>
      refine .ite (.refused u) (.ite (.refused u) ?_)
      cases x <;> exact .reported u

theorem execSetCalibration_only {c g x o} (h : execSetCalibration c g x o s = .next t) :
    OnlyChanges [.mailbox, .settings] s t :=
  task_frame h fun u => .ite (.reported u) (.ite (.refused u)
    (.done (State.setSettings_only _ _ (by decide) (.refl _ _))))

theorem execSetThresholds_only {a b m} (h : execSetThresholds a b m s = .next t) :
    OnlyChanges [.mailbox, .settings] s t :=
  task_frame h fun u => .done (State.setSettings_only _ _ (by decide) (.refl _ _))

theorem execBeginBatch_only {v} (h : execBeginBatch v s = .next t) :
    OnlyChanges [.mailbox, .batch, .trays, .lines, .notices] s t :=
  task_frame h fun u => .ite (.refused u) (.ite (.refused u) (.ite (.refused u) (.ite (.refused u)
    (.done (State.showTray_only _ _ (by decide) (State.setTray_only _ _ _ (by decide)
      (State.setBatch_only _ _ (by decide) (.refl _ _))))))))

theorem execEndBatch_only (h : execEndBatch s = .next t) : OnlyChanges batchParts s t :=
  task_frame h fun u =>
    have hset : OnlyChanges batchParts u (u.setBatch { u.scoring.batch with state := .closing, owed := u.inDecode }) :=
      State.setBatch_only _ _ (by decide) (.refl _ _)
    .ite (.refused u) (.ite (State.closeBatch_only _ (by decide) hset) hset)

theorem execReadMark_only {n p} (h : execReadMark n p s = .next t) : OnlyChanges [.mailbox] s t :=
  task_frame h fun u => by
    cases p with
    | none => exact .refused u
    | some p =>
      refine State.named_only u n _ (by decide) (.refl _ _) fun e => ?_
      split
      · exact .refused u
      · exact .reported u

theorem execResolveQuery_only {n l} (h : execResolveQuery n l s = .next t) :
    OnlyChanges [.mailbox, .entries, .sittings] s t :=
  task_frame h fun u => .ite (.refused u) (.onCandidate fun e => by
    split
    · split
      · exact .reported u
      · split
        · exact .reported u
        · exact .done (State.resolveQueries_only _ _ _ _ (by decide) (.refl _ _))
    · exact .refused u)

theorem execResolveDispute_only {n c} (h : execResolveDispute n c s = .next t) :
    OnlyChanges [.mailbox, .entries, .sittings, .notices] s t :=
  task_frame h fun u => .ite (.refused u) (.onCandidate fun e => by
    split
    · exact .done (State.settle_only _ _ _ (by decide) (.refl _ _))
    · exact .refused u)

theorem execManualMark_only {n x} (h : execManualMark n x s = .next t) :
    OnlyChanges [.mailbox, .entries, .sittings] s t :=
  task_frame h fun u => .onCandidate fun e => .ite (.refused u) (.done (State.countFinal_only _ _ (by decide)
    (State.modEntry_only _ _ _ (by intro; rfl) (by decide) (.refl _ _))))

theorem execReleaseResults_only {k} (h : execReleaseResults k s = .next t) :
    OnlyChanges [.mailbox, .entries, .sittings, .bells, .lines, .notices] s t :=
  task_frame h fun u => by
    refine .ite (.refused u) (.ite (.refused u) (.ite (.refused u) ?_))
    split
    · exact .reported u
    · refine .done (State.changeSitting_only _ _ _ (by decide)
        (State.setEntries_map_only _ _ (fun e => ?_) (by decide) (.refl _ _)))
      unfold released
      split <;> rfl

end Sys2Proof.Machine

namespace Sys2Proof.Machine

variable {s t u : State} {bs : List Part}

/-! ### What each event changes -/

theorem next_frame (h : (Host.Outcome.next u : Result) = .next t) (g : OnlyChanges bs s u) : OnlyChanges bs s t := by
  obtain rfl : u = t := by injection h
  exact g

/-- A hall second reached at a sitting. -/
theorem sitting_frame {k : Nat} {b : State → Bool}
    (h : (Host.Outcome.next (s.whileOn fun s => s.reach (.sitting k) (b s)) : Result) = .next t) :
    OnlyChanges (.owed :: clockParts) s t :=
  event_frame h fun u => State.reach_only u _ _ (by decide) (.refl _ _) fun v =>
    State.takeSitting_only v k (by decide) (.refl _ _)

/-- A hall second reached at a candidate's clock. -/
theorem clock_frame {n : Nat} {b : State → Bool}
    (h : (Host.Outcome.next (s.whileOn fun s => s.reach (.clock n) (b s)) : Result) = .next t) :
    OnlyChanges (.owed :: clockParts) s t :=
  event_frame h fun u => State.reach_only u _ _ (by decide) (.refl _ _) fun v =>
    State.takeClock_only v n (by decide) (.refl _ _)

/-! #### The hall second and the alarm input -/

theorem execHallSecond_only {l} (h : execHallSecond l s = .next t) : OnlyChanges (mayChange (.hallSecond l)) s t := by
  refine next_frame (bs := .hallTime :: .owed :: .access :: clockParts) h ?_
  have rises (v : State) (hv : OnlyChanges (.hallTime :: .owed :: .access :: clockParts) s v) :
      OnlyChanges (.hallTime :: .owed :: .access :: clockParts) s v.advanceTime := State.advanceTime_only v (by decide) hv
  split
  · exact .refl _ _
  · exact rises s (.refl _ _)
  · exact rises s (.refl _ _)
  · exact State.takeSecond_only _ _ (by decide) (rises _ (State.catchUp_only _ (by decide) (.refl _ _)))

theorem execOpenTime_only {k} (h : execOpenTime k s = .next t) : OnlyChanges (.owed :: clockParts) s t :=
  event_frame h fun u => by
    have hopen : OnlyChanges (.owed :: clockParts) u (u.enterOpen k) :=
      State.enterOpen_only _ _ (by decide) (.refl _ _)
    exact .ite (.ite hopen (State.settled_only _ _ (by decide) hopen)) (.refl _ _)

theorem execOfferDeadline_only (h : execOfferDeadline s = .next t) : OnlyChanges (.owed :: clockParts) s t :=
  event_frame h fun u => by
    have htick : OnlyChanges (.owed :: clockParts) u (if u.owes .offers then (u.settled .offers).tickOffers else u) :=
      .ite (State.tickOffers_only _ (by decide) (State.settled_only _ _ (by decide) (.refl _ _))) (.refl _ _)
    have fails (v : State) (hv : OnlyChanges (.owed :: clockParts) u v) : OnlyChanges (.owed :: clockParts) u
        (match v.overdue with
          | d :: _ => v.failDeadline d
          | [] => u) := by
      split
      · exact State.failDeadline_only _ _ (by decide) hv
      · exact .refl _ _
    exact fails _ htick

theorem execLockoutEnd_only (h : execLockoutEnd s = .next t) : OnlyChanges [.owed, .access] s t :=
  event_frame h fun u => State.reach_only u _ _ (by decide) (.refl _ _) fun v =>
    State.takeLockout_only v (by decide) (.refl _ _)

theorem execBellPulseEnd_only {o} (h : execBellPulseEnd o s = .next t) : OnlyChanges [.owed, .bells] s t :=
  event_frame h fun u => State.reach_only u _ _ (by decide) (.refl _ _) fun v =>
    State.takeBell_only v o (by decide) (.refl _ _)

theorem execAlarmAssert_only (h : execAlarmAssert s = .next t) :
    OnlyChanges [.alarm, .power, .sittings, .bells, .lines, .notices] s t := by
  refine next_frame h (.ite (.refl _ _) ?_)
  have hset : OnlyChanges [.alarm, .power, .sittings, .bells, .lines, .notices] s (s.setAlarm true) :=
    State.setAlarm_only _ _ (by decide) (.refl _ _)
  split
  · exact State.assertAlarm_only _ (by decide) hset
  · exact State.findAlarm_only _ (by decide) hset
  · exact hset

theorem execAlarmRelease_only (h : execAlarmRelease s = .next t) : OnlyChanges [.alarm] s t :=
  next_frame h (State.setAlarm_only _ _ (by decide) (.refl _ _))

theorem execPlacementStep_only (h : execPlacementStep s = .next t) : OnlyChanges placementParts s t :=
  event_frame h fun u => State.placementStep_only u (by decide) (.refl _ _)

theorem execWalkVisit_only (h : execWalkVisit s = .next t) : OnlyChanges [.entries, .walks, .notices] s t :=
  event_frame h fun u => State.walkStep_only u (by decide) (.refl _ _)

/-! #### The desk lines -/

theorem execSlotStart_only {z} (h : execSlotStart z s = .next t) : OnlyChanges [.lines, .offers, .notices] s t :=
  event_frame h fun u => State.startSlot_only u z (by decide) (.refl _ _)

theorem execFrameSent_only {z} (h : execFrameSent z s = .next t) : OnlyChanges [.lines, .offers, .notices] s t :=
  event_frame h fun u => by
    split
    · exact State.endFrame_only _ _ _ (by decide) (.refl _ _)
    · exact .refl _ _

theorem execAnswerWindowClose_only {z} (h : execAnswerWindowClose z s = .next t) :
    OnlyChanges (mayChange (.answerWindowClose z)) s t :=
  event_frame (bs := .linkStates :: .seatLinks :: placementParts) h fun u => by
    split
    · exact State.closeWindow_only _ _ _ (by decide) (.refl _ _)
    · exact .refl _ _

theorem execLinkLoss_only {z} (h : execLinkLoss z s = .next t) : OnlyChanges (mayChange (.linkLoss z)) s t :=
  event_frame (bs := .linkStates :: .seatLinks :: placementParts) h fun u => by
    split
    · exact .ite (State.closeWindow_only _ _ _ (by decide) (.refl _ _)) (.refl _ _)
    · exact .refl _ _

theorem execQuiet_only {z v} (h : execQuiet z v s = .next t) : OnlyChanges answerParts s t :=
  event_frame h fun u => State.answer_only u z v _ (by decide) (.refl _ _) fun w =>
    State.countGood_only w z v (by decide) (.refl _ _)

theorem execLinkRegain_only {z v} (h : execLinkRegain z v s = .next t) : OnlyChanges answerParts s t :=
  event_frame h fun u => .ite (State.answer_only u z v _ (by decide) (.refl _ _) fun w =>
    State.countGood_only w z v (by decide) (.refl _ _)) (.refl _ _)

theorem execJoin_only {z v k c} (h : execJoin z v k c s = .next t) : OnlyChanges (mayChange (.join z v k c)) s t :=
  event_frame (bs := .linkStates :: .seatLinks :: placementParts) h fun u =>
    State.takeJoin_only _ _ _ _ _ (by decide) (.refl _ _)

/-- An event of a desk changes what every answer does and what the desk's event does. -/
theorem desk_frame {z v : Nat} {n : Bool} {f : Nat → State → State}
    (h : (Host.Outcome.next (s.whileOn fun s => s.deskEvent z v n f) : Result) = .next t) (hs : answerParts ⊆ bs)
    (hf : ∀ d u, OnlyChanges bs u (f d u)) : OnlyChanges bs s t :=
  event_frame h fun u => State.deskEvent_only u z v n _ hs (.refl _ _) hf

theorem execCheckin_only {z v n number tag} (h : execCheckin z v n number tag s = .next t) :
    OnlyChanges (mayChange (.checkin z v n number tag)) s t :=
  desk_frame (bs := .entries :: .tags :: .sittings :: answerParts) h (by decide) fun d u =>
    State.checkin_only u d number tag (by decide) (.refl _ _)

theorem execHandin_only {z v n number} (h : execHandin z v n number s = .next t) :
    OnlyChanges (mayChange (.handin z v n number)) s t :=
  desk_frame (bs := .linkStates :: .seatLinks :: clockParts) h (by decide) fun d u =>
    State.handin_only u d number (by decide) (.refl _ _)

theorem execRestBegin_only {z v n number} (h : execRestBegin z v n number s = .next t) :
    OnlyChanges (.entries :: answerParts) s t :=
  desk_frame h (by decide) fun d u => State.restBegin_only u d number (by decide) (.refl _ _)

theorem execRestEnd_only {z v n number} (h : execRestEnd z v n number s = .next t) :
    OnlyChanges (.entries :: answerParts) s t :=
  desk_frame h (by decide) fun d u => State.restEnd_only u d number (by decide) (.refl _ _)

theorem execHelp_only {z v n} (h : execHelp z v n s = .next t) : OnlyChanges answerParts s t :=
  desk_frame h (by decide) fun d u => State.raise_only u _ _ (by decide) (.refl _ _)

theorem execOfferReplyAccept_only {z v n number} (h : execOfferReplyAccept z v n number s = .next t) :
    OnlyChanges (mayChange (.offerReplyAccept z v n number)) s t :=
  desk_frame (bs := .linkStates :: .seatLinks :: placementParts) h (by decide) fun d u => by
    split
    · exact State.acceptOffer_only _ _ (by decide) (.refl _ _)
    · exact State.withdrawOffer_only _ _ _ (by decide) (.refl _ _)

theorem execOfferReplyRefuse_only {z v n number caps} (h : execOfferReplyRefuse z v n number caps s = .next t) :
    OnlyChanges (mayChange (.offerReplyRefuse z v n number caps)) s t :=
  desk_frame (bs := .linkStates :: .seatLinks :: placementParts) h (by decide) fun d u => by
    split
    · exact State.refuseOffer_only _ _ _ (by decide) (.refl _ _)
    · exact State.withdrawOffer_only _ _ _ (by decide) (.refl _ _)

theorem execTagRead_only {z v n tag} (h : execTagRead z v n tag s = .next t) :
    OnlyChanges (mayChange (.tagRead z v n tag)) s t :=
  event_frame (bs := .trays :: .entries :: .sittings :: answerParts) h fun u =>
    State.takeEvent_only u z v n _ (by decide) (.refl _ _) fun w =>
      .ite (.refl _ _) (State.readTag_only w _ _ (by decide) (.refl _ _))

/-! #### The sheet port -/

theorem execSheetBegin_only (h : execSheetBegin s = .next t) : OnlyChanges [.sheet] s t :=
  event_frame h fun u => by
    refine .ite (.refl _ _) ?_
    split
    · exact only_sheet _ _ (by decide) (.refl _ _)
    · exact only_sheet _ _ (by decide) (State.setBuffer_only _ _ _ (by decide) (.refl _ _))

theorem execSheetMessage_only {l} (h : execSheetMessage l s = .next t) : OnlyChanges [.sheet, .batch, .notices] s t :=
  event_frame h fun u => by
    refine .ite (.refl _ _) ?_
    split
    · exact .refl _ _
    · exact State.refuseSheet_only _ _ _ _ (by decide) (.refl _ _)
    · split
      · exact State.refuseSheet_only _ _ _ _ (by decide) (.refl _ _)
      · exact State.keepSheet_only _ _ _ (by decide) (.refl _ _)

theorem execSheetGap_only {l} (h : execSheetGap l s = .next t) : OnlyChanges [.sheet, .batch, .notices] s t :=
  event_frame h fun u => by
    refine .ite (.refl _ _) ?_
    split
    · exact .refl _ _
    · exact State.refuseSheet_only _ _ _ _ (by decide) (.refl _ _)
    · exact State.refuseSheet_only _ _ _ _ (by decide) (.refl _ _)

theorem execSheetInputGapSeen_only (h : execSheetInputGapSeen s = .next t) : OnlyChanges [.sheet] s t :=
  event_frame h fun u => only_sheet _ _ (by decide) (.refl _ _)

theorem execDecoderTake_only (h : execDecoderTake s = .next t) : OnlyChanges sheetParts s t :=
  event_frame h fun u => State.decoderStep_only u (by decide) (.refl _ _)

theorem execSheetHandover_only (h : execSheetHandover s = .next t) : OnlyChanges sheetParts s t :=
  event_frame h fun u => by
    split
    · exact State.handOver_only _ _ (by decide) (.refl _ _)
    · exact .refl _ _

theorem execSheetVerdictSend_only (h : execSheetVerdictSend s = .next t) : OnlyChanges [.sheet] s t :=
  event_frame h fun u => by
    split
    · exact only_sheet _ _ (by decide) (.refl _ _)
    · exact .refl _ _

theorem execBatchClose_only (h : execBatchClose s = .next t) : OnlyChanges sheetParts s t :=
  event_frame h fun u => .ite (.ite (State.closeBatch_only _ (by decide) (.refl _ _))
    (.ite (State.decoderEvent_only _ (by decide) (.refl _ _)) (.refl _ _))) (.refl _ _)

/-! #### Starts and supplies -/

theorem identities_without_offers (l : List Entry) :
    (l.map fun e => { e with offer := none }).map identity = l.map identity := by
  rw [List.map_map]; rfl

theorem State.warmStart_only (s : State) (cause : StartCause) : OnlyChanges warmParts s (s.warmStart cause) := by
  have hrun : OnlyChanges warmParts s s.endRunAtStart := by
    unfold State.endRunAtStart
    split
    · exact State.closeRun_only _ _ _ (by decide) (.refl _ _)
    · exact .refl _ _
  have hold := State.holdQuietly_only s.endRunAtStart (fun h => { h with restart := true }) (by decide) hrun
  unfold State.warmStart
  dsimp only
  split
  · refine State.findAlarm_only _ (by decide) (hold.trans ⟨fun p hp => ?_⟩)
    cases p <;> first | (simp [warmParts] at hp; done) | rfl | skip
    case hallTime => exact ⟨rfl, rfl⟩
    case identities => exact identities_without_offers _
  · refine hold.trans ⟨fun p hp => ?_⟩
    cases p <;> first | (simp [warmParts] at hp; done) | rfl | skip
    case hallTime => exact ⟨rfl, rfl⟩
    case identities => exact identities_without_offers _

theorem State.coldStart_only (s : State) : OnlyChanges startParts s s.coldStart := by
  unfold State.coldStart
  dsimp only
  have hbase (x : PowerUnit) (y : SettingsStore) : OnlyChanges startParts s
      { power := x, hall := { alarm := s.hall.alarm }, settings := y, pending := s.pending } := by
    refine ⟨fun p hp => ?_⟩
    cases p <;> first | (simp [startParts] at hp; done) | rfl
  split
  · exact State.findAlarm_only _ (by decide) (hbase _ _)
  · exact hbase _ _

theorem execReboot_only (h : execReboot s = .next t) : OnlyChanges (.mailbox :: warmParts) s t :=
  task_frame h fun u => (u.warmStart_only .reboot).mono (by decide)

theorem execColdStart_only (h : execColdStart s = .next t) : OnlyChanges startParts s t := by
  refine next_frame h ?_
  split
  · exact (only_power s _ (by decide) (.refl _ _)).trans (State.coldStart_only _)
  · exact .refl _ _

theorem execResetn_only (h : execResetn s = .next t) : OnlyChanges warmParts s t := by
  refine next_frame h ?_
  split
  · exact s.warmStart_only _
  · exact s.warmStart_only _
  · exact .refl _ _

theorem execMainSupplyReturn_only (h : execMainSupplyReturn s = .next t) : OnlyChanges warmParts s t := by
  refine next_frame h ?_
  split
  · exact s.warmStart_only _
  · exact .refl _ _

theorem execMainSupplyLoss_only (h : execMainSupplyLoss s = .next t) : OnlyChanges [.power, .settings] s t := by
  refine next_frame h ?_
  have lost (x : PowerUnit) (y : SettingsStore) : OnlyChanges [.power, .settings] s { s with power := x, settings := y } :=
    only_settings { s with power := x } y (by decide) (only_power s x (by decide) (.refl _ _))
  split
  · exact lost _ _
  · exact lost _ _
  · exact .refl _ _

theorem execStandbySupplyLoss_only (h : execStandbySupplyLoss s = .next t) : OnlyChanges [.power] s t := by
  refine next_frame h ?_
  split
  · exact only_power _ _ (by decide) (.refl _ _)
  · exact only_power _ _ (by decide) (.refl _ _)
  · exact only_power _ _ (by decide) (.refl _ _)
  · exact .refl _ _

theorem execStartupComplete_only (h : execStartupComplete s = .next t) : OnlyChanges [.power, .notices, .walks] s t := by
  refine next_frame h ?_
  split
  · exact State.completeStart_only _ (by decide) (.refl _ _)
  · exact .refl _ _

end Sys2Proof.Machine

namespace Sys2Proof.Machine

variable {s t u : State} {bs : List Part}

/-! ### What a command changes -/

/-- A write to an area other than TASK changes the mailbox alone (R194, R195). -/
theorem execAreaWrite_only {area : Area} {o : Nat} {d : List Octet} (ha : area ≠ .task)
    (h : execAreaWrite area o d s = .next t) : OnlyChanges [.mailbox] s t := by
  unfold execAreaWrite at h
  split at h
  · exact absurd rfl ha
  · split at h
    · exact next_frame h (.refl _ _)
    · split at h
      · exact next_frame h (State.ignoreWrite_only _ (by decide) (.refl _ _))
      · exact next_frame h (only_param _ _ (by decide) (.refl _ _))
  · exact next_frame h (.refl _ _)

/-- Every command but a write to TASK, and a line restart, whose frame wants the tables canonical, changes its parts
alone. -/
theorem exec_only {c : Instr} (ht : ∀ o d, c ≠ .areaWrite .task o d) (hz : ∀ z, c ≠ .restartLine z)
    (h : exec c s = .next t) : OnlyChanges (mayChange c) s t := by
  cases c with
  | areaWrite area o d =>
    cases area with
    | task => exact absurd rfl (ht o d)
    | param | result | status => exact execAreaWrite_only (by simp) h
  | enterLevel _ _ => exact execEnterLevel_only h
  | leaveLevel => exact execLeaveLevel_only h
  | setPasscode _ _ => exact execSetPasscode_only h
  | setGrants _ => exact execSetGrants_only h
  | readNotices => exact execReadNotices_only h
  | saveSettings => exact execSaveSettings_only h
  | settingsWriteEnd _ => exact execSettingsWriteEnd_only h
  | reboot => exact execReboot_only h
  | setLineLimits _ _ => exact execSetLineLimits_only h
  | setSignal _ _ => exact execSetSignal_only h
  | enrol _ _ => exact execEnrol_only h
  | withdraw _ => exact execWithdraw_only h
  | amend _ _ _ _ => exact execAmend_only h
  | lookup _ => exact execLookup_only h
  | list _ _ _ => exact execList_only h
  | seatInfo _ => exact execSeatInfo_only h
  | disableSeat _ => exact execDisableSeat_only h
  | enableSeat _ => exact execEnableSeat_only h
  | reserve _ _ _ _ => exact execReserve_only h
  | unreserve _ _ => exact execUnreserve_only h
  | allocate _ => exact execAllocate_only h
  | abortAllocation _ => exact execAbortAllocation_only h
  | move _ _ => exact execMove_only h
  | restartLine z => exact absurd rfl (hz z)
  | defineSitting _ _ => exact execDefineSitting_only h
  | openNow _ => exact execOpenNow_only h
  | hold _ => exact execHold_only h
  | resume _ => exact execResume_only h
  | closeCollection _ => exact execCloseCollection_only h
  | retireSitting _ => exact execRetireSitting_only h
  | setHallTime _ => exact execSetHallTime_only h
  | sittingInfo _ => exact execSittingInfo_only h
  | adjustTime _ _ => exact execAdjustTime_only h
  | endCandidate _ => exact execEndCandidate_only h
  | voidScript _ => exact execVoidScript_only h
  | trayInfo _ _ => exact execTrayInfo_only h
  | clearTray _ => exact execClearTray_only h
  | loadKey _ _ => exact execLoadKey_only h
  | lockKey _ => exact execLockKey_only h
  | amendKey _ _ _ => exact execAmendKey_only h
  | readKey _ _ _ => exact execReadKey_only h
  | setCalibration _ _ _ _ => exact execSetCalibration_only h
  | setThresholds _ _ _ => exact execSetThresholds_only h
  | beginBatch _ => exact execBeginBatch_only h
  | endBatch => exact execEndBatch_only h
  | batchClose => exact execBatchClose_only h
  | readMark _ _ => exact execReadMark_only h
  | resolveQuery _ _ => exact execResolveQuery_only h
  | resolveDispute _ _ => exact execResolveDispute_only h
  | manualMark _ _ => exact execManualMark_only h
  | releaseResults _ => exact execReleaseResults_only h
  | hallSecond _ => exact execHallSecond_only h
  | openTime _ => exact execOpenTime_only h
  | startTime _ => exact sitting_frame h
  | readingEnd _ => exact sitting_frame h
  | lateLimit _ => exact sitting_frame h
  | writingEnd _ => exact sitting_frame h
  | clockExpiry _ => exact clock_frame h
  | restExhausted _ => exact clock_frame h
  | warningFire _ => exact clock_frame h
  | offerDeadline => exact execOfferDeadline_only h
  | lockoutEnd => exact execLockoutEnd_only h
  | bellPulseEnd _ => exact execBellPulseEnd_only h
  | alarmAssert => exact execAlarmAssert_only h
  | alarmRelease => exact execAlarmRelease_only h
  | placementStep => exact execPlacementStep_only h
  | walkVisit => exact execWalkVisit_only h
  | slotStart _ => exact execSlotStart_only h
  | frameSent _ => exact execFrameSent_only h
  | answerWindowClose _ => exact execAnswerWindowClose_only h
  | quiet _ _ => exact execQuiet_only h
  | join _ _ _ _ => exact execJoin_only h
  | checkin _ _ _ _ _ => exact execCheckin_only h
  | handin _ _ _ _ => exact execHandin_only h
  | restBegin _ _ _ _ => exact execRestBegin_only h
  | restEnd _ _ _ _ => exact execRestEnd_only h
  | help _ _ _ => exact execHelp_only h
  | offerReplyAccept _ _ _ _ => exact execOfferReplyAccept_only h
  | offerReplyRefuse _ _ _ _ _ => exact execOfferReplyRefuse_only h
  | tagRead _ _ _ _ => exact execTagRead_only h
  | linkLoss _ => exact execLinkLoss_only h
  | linkRegain _ _ => exact execLinkRegain_only h
  | sheetBegin => exact execSheetBegin_only h
  | sheetMessage _ => exact execSheetMessage_only h
  | sheetGap _ => exact execSheetGap_only h
  | decoderTake => exact execDecoderTake_only h
  | sheetHandover => exact execSheetHandover_only h
  | sheetVerdictSend => exact execSheetVerdictSend_only h
  | coldStart => exact execColdStart_only h
  | resetn => exact execResetn_only h
  | mainSupplyLoss => exact execMainSupplyLoss_only h
  | mainSupplyReturn => exact execMainSupplyReturn_only h
  | startupComplete => exact execStartupComplete_only h
  | standbySupplyLoss => exact execStandbySupplyLoss_only h
  | sheetInputGapSeen => exact execSheetInputGapSeen_only h

/-- A task's write carries out a command of that task (R195). -/
theorem writtenTask_exec (k : Task) (s : State) : ∃ c, taskOf c = some k ∧ writtenTask k s = exec c s := by
  cases k with
  | enterLevel => exact ⟨.enterLevel _ _, rfl, rfl⟩
  | leaveLevel => exact ⟨.leaveLevel, rfl, rfl⟩
  | setPasscode => exact ⟨.setPasscode _ _, rfl, rfl⟩
  | setGrants => exact ⟨.setGrants _, rfl, rfl⟩
  | readNotices => exact ⟨.readNotices, rfl, rfl⟩
  | saveSettings => exact ⟨.saveSettings, rfl, rfl⟩
  | reboot => exact ⟨.reboot, rfl, rfl⟩
  | setLineLimits => exact ⟨.setLineLimits _ _, rfl, rfl⟩
  | setSignal => exact ⟨.setSignal _ _, rfl, rfl⟩
  | enrol => exact ⟨.enrol _ _, rfl, rfl⟩
  | withdraw => exact ⟨.withdraw _, rfl, rfl⟩
  | amend => exact ⟨.amend _ _ _ _, rfl, rfl⟩
  | lookup => exact ⟨.lookup _, rfl, rfl⟩
  | list => exact ⟨.list _ _ _, rfl, rfl⟩
  | seatInfo => exact ⟨.seatInfo _, rfl, rfl⟩
  | disableSeat => exact ⟨.disableSeat _, rfl, rfl⟩
  | enableSeat => exact ⟨.enableSeat _, rfl, rfl⟩
  | reserve => exact ⟨.reserve _ _ _ _, rfl, rfl⟩
  | unreserve => exact ⟨.unreserve _ _, rfl, rfl⟩
  | allocate => exact ⟨.allocate _, rfl, rfl⟩
  | abortAllocation => exact ⟨.abortAllocation _, rfl, rfl⟩
  | move => exact ⟨.move _ _, rfl, rfl⟩
  | restartLine => exact ⟨.restartLine _, rfl, rfl⟩
  | defineSitting => exact ⟨.defineSitting _ _, rfl, rfl⟩
  | openNow => exact ⟨.openNow _, rfl, rfl⟩
  | hold => exact ⟨.hold _, rfl, rfl⟩
  | resume => exact ⟨.resume _, rfl, rfl⟩
  | closeCollection => exact ⟨.closeCollection _, rfl, rfl⟩
  | retireSitting => exact ⟨.retireSitting _, rfl, rfl⟩
  | setHallTime => exact ⟨.setHallTime _, rfl, rfl⟩
  | sittingInfo => exact ⟨.sittingInfo _, rfl, rfl⟩
  | adjustTime => exact ⟨.adjustTime _ _, rfl, rfl⟩
  | endCandidate => exact ⟨.endCandidate _, rfl, rfl⟩
  | voidScript => exact ⟨.voidScript _, rfl, rfl⟩
  | trayInfo => exact ⟨.trayInfo _ _, rfl, rfl⟩
  | clearTray => exact ⟨.clearTray _, rfl, rfl⟩
  | loadKey => exact ⟨.loadKey _ _, rfl, rfl⟩
  | lockKey => exact ⟨.lockKey _, rfl, rfl⟩
  | amendKey => exact ⟨.amendKey _ _ _, rfl, rfl⟩
  | readKey => exact ⟨.readKey _ _ _, rfl, rfl⟩
  | setCalibration => exact ⟨.setCalibration _ _ _ _, rfl, rfl⟩
  | setThresholds => exact ⟨.setThresholds _ _ _, rfl, rfl⟩
  | beginBatch => exact ⟨.beginBatch _, rfl, rfl⟩
  | endBatch => exact ⟨.endBatch, rfl, rfl⟩
  | readMark => exact ⟨.readMark _ _, rfl, rfl⟩
  | resolveQuery => exact ⟨.resolveQuery _ _, rfl, rfl⟩
  | resolveDispute => exact ⟨.resolveDispute _ _, rfl, rfl⟩
  | manualMark => exact ⟨.manualMark _ _, rfl, rfl⟩
  | releaseResults => exact ⟨.releaseResults _, rfl, rfl⟩

/-- A write to TASK touches the mailbox alone, or carries out the command of its task (R195). -/
theorem execAreaWrite_task {o : Nat} {d : List Octet} (h : execAreaWrite .task o d s = .next t) :
    OnlyChanges [.mailbox] s t ∨ ∃ c k, taskOf c = some k ∧ exec c s = .next t := by
  unfold execAreaWrite at h
  split at h
  · split at h
    · exact .inl (next_frame h (.refl _ _))
    · split at h
      · exact .inl (next_frame h (State.ignoreWrite_only _ (by decide) (.refl _ _)))
      · split at h
        · exact .inl (next_frame h (.refl _ _))
        · split at h
          · next k _ =>
            obtain ⟨c, hc, heq⟩ := writtenTask_exec k s
            exact .inr ⟨c, k, hc, heq ▸ h⟩
          · exact .inl (next_frame h (State.refuse_only _ _ (by decide)
              (State.startTask_only _ _ (by decide) (.refl _ _))))
  · next ha => cases ha
  · exact .inl (next_frame h (.refl _ _))

/-- What holds of a change of the mailbox alone, and of every command but a write to TASK, holds of every command. -/
theorem exec_lift {Q : State → State → Prop} (hq : ∀ s t, OnlyChanges [.mailbox] s t → Q s t)
    (hc : ∀ c s t, (∀ o d, c ≠ .areaWrite .task o d) → exec c s = .next t → Q s t) (c : Instr) (s t : State)
    (h : exec c s = .next t) : Q s t := by
  by_cases ht : ∃ o d, c = .areaWrite .task o d
  · obtain ⟨o, d, rfl⟩ := ht
    obtain hm | ⟨c, k, hk, he⟩ := execAreaWrite_task h
    · exact hq s t hm
    · refine hc c s t (fun o d hcd => ?_) he
      rw [hcd] at hk; cases hk
  · exact hc c s t (fun o d hcd => ht ⟨o, d, hcd⟩) h

/-- A task leads from `P`, which a change of the mailbox keeps, to `Q` where its body does. -/
theorem task_leads {P Q : State → Prop} {k : Task} {body : State → State}
    (h : (Host.Outcome.next (s.atPort k body) : Result) = .next t)
    (hm : ∀ u v, OnlyChanges [.mailbox] u v → P u → P v) (hq : ∀ u, P u → Q u) (hs : P s)
    (hbody : ∀ u, P u → Q (body u)) : Q t := by
  obtain rfl : s.atPort k body = t := by injection h
  unfold State.atPort
  split
  · split
    · exact hq _ (hm _ _ (State.ignoreWrite_only _ (by decide) (.refl _ _)) hs)
    · have hstart := hm _ _ (State.startTask_only s (taskCode k) (by decide) (.refl _ _)) hs
      split
      · exact hbody _ hstart
      · exact hq _ (hm _ _ (State.refuse_only _ _ (by decide) (.refl _ _)) hstart)
  · exact hq _ hs

/-- A predicate kept by a change of the mailbox alone and by a task's body is kept by the task. -/
theorem task_keeps {P : State → Prop} {k : Task} {body : State → State}
    (h : (Host.Outcome.next (s.atPort k body) : Result) = .next t)
    (hm : ∀ u v, OnlyChanges [.mailbox] u v → P u → P v) (hs : P s) (hbody : ∀ u, P u → P (body u)) : P t :=
  task_leads h hm (fun _ => id) hs hbody

/-- A predicate kept by an event's body is kept by the event. -/
theorem event_keeps {P : State → Prop} {body : State → State}
    (h : (Host.Outcome.next (s.whileOn body) : Result) = .next t) (hs : P s) (hbody : P s → P (body s)) : P t := by
  obtain rfl : s.whileOn body = t := by injection h
  unfold State.whileOn
  split
  · exact hbody hs
  · exact hs

end Sys2Proof.Machine

namespace Sys2Proof.Machine

variable {s t u : State} {bs : List Part}

/-! ### The roster stays ordered -/

theorem OnlyChanges.rosterOrdered (h : OnlyChanges bs s t) (hb : Part.identities ∉ bs) (hs : s.RosterOrdered) :
    t.RosterOrdered := State.rosterOrdered_of_identities (h.rest .identities hb) hs

theorem State.deleteEntries_rosterOrdered (hs : s.RosterOrdered) (l : List Nat) :
    (l.foldl State.deleteEntry s).RosterOrdered := by
  induction l generalizing s with
  | nil => exact hs
  | cons p l ih => exact ih (State.deleteEntry_rosterOrdered hs p)

theorem State.clearSitting_rosterOrdered (hs : s.RosterOrdered) (k : Nat) : (s.clearSitting k).RosterOrdered :=
  have hframe : OnlyChanges [.keys, .extents, .sittings, .bells, .lines, .notices]
      ((s.slotsOf k fun _ => true).foldl State.deleteEntry s) (s.clearSitting k) := by
    unfold State.clearSitting
    exact State.changeSitting_only _ _ _ (by decide) (State.dropExtents_only _ _ (by decide)
      (State.setKey_only _ _ _ (by decide) (.refl _ _)))
  hframe.rosterOrdered (by decide) (State.deleteEntries_rosterOrdered hs _)

/-- The commands that may change who stands in the roster. -/
theorem changes_identities {c : Instr} (h : Part.identities ∈ mayChange c) :
    (∃ o d, c = .areaWrite .task o d) ∨ (∃ k l, c = .enrol k l) ∨ (∃ n, c = .withdraw n)
      ∨ (∃ k, c = .retireSitting k) ∨ c = .coldStart := by
  cases c with
  | areaWrite area o d => cases area <;> simp_all [mayChange]
  | _ =>
    simp_all [mayChange, warmParts, clockParts, placementParts, batchParts, sheetParts, answerParts]

theorem task_keepsRoster {k : Task} {body : State → State} (hs : s.RosterOrdered)
    (h : (Host.Outcome.next (s.atPort k body) : Result) = .next t)
    (hbody : ∀ u : State, u.RosterOrdered → (body u).RosterOrdered) : t.RosterOrdered :=
  task_keeps (P := fun u => u.RosterOrdered) h (fun _ _ hm hu => hm.rosterOrdered (by decide) hu) hs hbody

theorem State.finishTask_rosterOrdered (hs : s.RosterOrdered) (c : ResultCode) (b : Bool) (r : Report) :
    (s.finishTask c b r).RosterOrdered :=
  (State.finishTask_only s c b r (bs := [.mailbox]) (by decide) (.refl _ _)).rosterOrdered (by decide) hs

theorem execEnrol_rosterOrdered {k l} (hs : s.RosterOrdered) (h : execEnrol k l s = .next t) : t.RosterOrdered :=
  task_keepsRoster hs h fun u hu => by
    dsimp only
    split
    · exact State.finishTask_rosterOrdered hu ..
    · split
      · exact State.finishTask_rosterOrdered hu ..
      · exact State.finishTask_rosterOrdered (State.enrolAll_rosterOrdered hu k l) ..

theorem execWithdraw_rosterOrdered {n} (hs : s.RosterOrdered) (h : execWithdraw n s = .next t) : t.RosterOrdered :=
  task_keepsRoster hs h fun u hu => by
    dsimp only
    split
    · exact State.finishTask_rosterOrdered hu ..
    · next e _ =>
      split
      · exact State.finishTask_rosterOrdered hu ..
      · have hfree : OnlyChanges placementParts u (((u.endNeed e.slot).leaveList e.slot).releaseHeld e.slot) :=
          State.releaseHeld_only _ _ (by decide) (State.leaveList_only _ _ (by decide)
            (State.endNeed_only _ _ (by decide) (.refl _ _)))
        have hdel := State.deleteEntry_rosterOrdered (hfree.rosterOrdered (by decide) hu) e.slot
        exact State.finishTask_rosterOrdered ((State.checkRun_only _ (bs := placementParts) (by decide)
          (.refl _ _)).rosterOrdered (by decide) hdel) ..

theorem execRetireSitting_rosterOrdered {k} (hs : s.RosterOrdered) (h : execRetireSitting k s = .next t) :
    t.RosterOrdered :=
  task_keepsRoster hs h fun u hu => by
    have hclear := (State.clearPlacement_only u k (bs := placementParts) (by decide) (.refl _ _)).rosterOrdered
      (by decide) hu
    split
    · exact State.finishTask_rosterOrdered hu ..
    · split
      · split
        · exact State.finishTask_rosterOrdered hu ..
        · exact State.finishTask_rosterOrdered (State.clearSitting_rosterOrdered hu k) ..
      · split
        · exact State.finishTask_rosterOrdered hu ..
        · exact State.finishTask_rosterOrdered (State.clearSitting_rosterOrdered hclear k) ..
      · exact State.finishTask_rosterOrdered hu ..

theorem State.coldStart_rosterOrdered (s : State) : s.coldStart.RosterOrdered :=
  (State.coldStart_agreed (C := False) (late := none) s).links.roster

theorem exec_rosterOrdered (c : Instr) (s t : State) (h : exec c s = .next t) : s.RosterOrdered → t.RosterOrdered := by
  refine exec_lift (Q := fun s t => s.RosterOrdered → t.RosterOrdered)
    (fun _ _ hm hs => hm.rosterOrdered (by decide) hs) (fun c s t ht h hs => ?_) c s t h
  by_cases hz : ∃ z, c = .restartLine z
  · obtain ⟨z, rfl⟩ := hz
    exact (execRestartLine_only h).rosterOrdered (by decide) hs
  · by_cases hi : Part.identities ∈ mayChange c
    · obtain ⟨o, d, rfl⟩ | ⟨k, l, rfl⟩ | ⟨n, rfl⟩ | ⟨k, rfl⟩ | rfl := changes_identities hi
      · exact absurd rfl (ht o d)
      · exact execEnrol_rosterOrdered hs h
      · exact execWithdraw_rosterOrdered hs h
      · exact execRetireSitting_rosterOrdered hs h
      · obtain rfl : _ = t := by injection h
        split
        · exact State.coldStart_rosterOrdered _
        · exact hs
    · exact (exec_only ht (fun z hc => hz ⟨z, hc⟩) h).rosterOrdered hi hs

/-- Settles O6: the frame of every command keeps the identities, but for the commands that enter or delete entries,
which keep the order; a cold start empties the roster. -/
theorem stepKeepsRosterOrdered : Obligations.StepKeepsRosterOrdered := by
  unfold Obligations.StepKeepsRosterOrdered
  intro s t hs h
  unfold step at h
  split at h
  · obtain rfl : s = t := by injection h
    exact hs
  · exact exec_rosterOrdered _ _ t h hs

end Sys2Proof.Machine

namespace Sys2Proof.Machine

/-! ### The part right after reset -/

/-- The factory settings stand in their ranges (R80, R131, R132, R141, R151, R153). -/
theorem factory_inRange : ({} : Settings).inRange := by
  have hsignals (o : Nat) : badCond (signalOf ({} : Settings).signals o) = false := by
    unfold signalOf
    split <;> rfl
  refine ⟨?_, ?_, ?_, ?_, ?_, ?_, ?_, ?_, ?_, ?_, hsignals⟩ <;> decide

theorem reset_settingsInRange : State.reset.SettingsInRange :=
  ⟨factory_inRange, factory_inRange, fun _ h => by cases h⟩

theorem reset_agreed {C : Prop} {late : Option Nat} : State.reset.Agreed C late :=
  State.agreed_of_empty rfl (fun _ => rfl) rfl fun _ => Nat.le_refl 0

theorem reset_keysFaithful : State.reset.KeysFaithful := by
  have hquestion (i : Nat) : (({} : Key).question i).lawful := by
    refine ⟨fun o ho => ?_, fun hl => by cases hl⟩
    cases o <;> cases ho
  intro k
  change (({} : Key)).faithful
  exact ⟨fun hl => (by cases hl), by decide, hquestion⟩

theorem reset_traysLawful : State.reset.TraysLawful := fun _ => by
  change (({} : Tray)).lawful
  refine ⟨by decide, by decide, by decide, rfl⟩

/-- Settles O4: each record is at its first value, and the settings are the factory's. -/
theorem resetMeetsInvariants : Obligations.ResetMeetsInvariants := by
  unfold Obligations.ResetMeetsInvariants
  have hagreed : State.reset.Agreed True none := reset_agreed
  refine ⟨reset_settingsInRange, hagreed.links.roster, fun _ _ _ => rfl, reset_keysFaithful, reset_traysLawful, ?_, ?_,
    hagreed.seatsAgree, fun _ => ⟨rfl, rfl, rfl, rfl, rfl, rfl⟩, hagreed.clocksBounded, fun d j e f hd => ?_⟩
  · exact ⟨by decide, rfl, rfl, rfl, rfl, rfl, rfl, fun _ => rfl, rfl, rfl⟩
  · refine ⟨by decide, by decide, by decide, fun k => ?_, fun _ => Nat.zero_le _, fun _ => List.nodup_nil, by decide,
      by decide, by decide, by decide, by decide, by decide, by decide, by decide, by decide, by decide,
      fun _ hw => by cases hw⟩
    change (if 0 = noticeCode k then ({ count := 1 } : Notice) else {}).count ≤ 255
    split <;> decide
  · cases hd

end Sys2Proof.Machine

namespace Sys2Proof.Machine

variable {s t u : State} {p k : Nat} {e x : Entry} {C : Prop} {late : Option Nat} {bs : List Part}

/-! ### Every task keeps the hall in agreement -/

theorem task_agreed {k : Task} {body : State → State} (hs : s.Agreed C none)
    (h : (Host.Outcome.next (s.atPort k body) : Result) = .next t)
    (hbody : ∀ u, u.Agreed C none → (body u).Agreed C none) : t.Agreed C none :=
  task_keeps (P := fun u => u.Agreed C none) h (fun _ _ hm hu => (hm.sameHall (by decide)).agreed hu) hs hbody

theorem State.finishTask_agreed (h : s.Agreed C late) {c : ResultCode} {b : Bool} {r : Report} :
    (s.finishTask c b r).Agreed C late := (State.finishTask_sameHall s c b r).agreed h

theorem State.refuse_agreed (h : s.Agreed C late) {c : ResultCode} : (s.refuse c).Agreed C late :=
  State.finishTask_agreed h

theorem State.withCandidate_agreed (h : s.Agreed C late) {n : Nat} {body : Entry → State}
    (hbody : ∀ e, s.entry? e.slot = some e → (body e).Agreed C late) : (s.withCandidate n body).Agreed C late := by
  unfold State.withCandidate
  split
  · exact State.refuse_agreed h
  · split
    · exact State.refuse_agreed h
    · next e he => exact hbody e (State.entry?_of_byNumber? h.links.roster he)

/-! #### The roster and the seat map -/

theorem execEnrol_agreed {k l} (hs : s.Agreed C none) (h : execEnrol k l s = .next t) : t.Agreed C none :=
  task_agreed hs h fun u hu => by
    dsimp only
    split
    · exact State.refuse_agreed hu
    · split
      · exact State.refuse_agreed hu
      · next hk => exact State.finishTask_agreed (State.enrolAll_agreed hu (by simpa using hk) l)

theorem execWithdraw_agreed {n} (hs : s.Agreed C none) (h : execWithdraw n s = .next t) : t.Agreed C none :=
  task_agreed hs h fun u hu => by
    dsimp only
    split
    · exact State.refuse_agreed hu
    · next e he =>
      split
      · exact State.refuse_agreed hu
      · next hp =>
        exact State.finishTask_agreed (State.checkRun_agreed
          (State.withdraw_agreed hu (State.entry?_of_byNumber? hu.links.roster he) (by simpa using hp)))

/-- The needs of an entry are none of the hall's concern. -/
theorem State.modNeeds_agreed (h : s.Agreed C late) (he : s.entry? p = some e) (c : CapSet → CapSet) :
    (s.modEntry p fun e => { e with needs := c e.needs }).Agreed C late := by
  have hsound := h.sound p e he
  exact (State.modEntry_brings h.links he (f := fun e => { e with needs := c e.needs }) fun _ => ⟨rfl, rfl, rfl⟩).agreed h
    ⟨hsound.seat, hsound.offer, hsound.lawful, hsound.admitted, hsound.bounded, hsound.runs⟩

theorem execAmend_agreed {n c a r} (hs : s.Agreed C none) (h : execAmend n c a r s = .next t) : t.Agreed C none :=
  task_agreed hs h fun u hu => by
    dsimp only
    split
    · exact State.refuse_agreed hu
    · next e he =>
      split
      · exact State.refuse_agreed hu
      · split
        · exact State.refuse_agreed hu
        · split
          · exact State.refuse_agreed hu
          · exact State.finishTask_agreed (State.amendRest_agreed (State.amendAllowance_agreed
              (State.modNeeds_agreed hu (State.entry?_of_byNumber? hu.links.roster he) c.getD) _ a) _ r)

theorem execDisableSeat_agreed {d} (hs : s.Agreed C none) (h : execDisableSeat d s = .next t) : t.Agreed C none :=
  task_agreed hs h fun u hu => by
    dsimp only
    split
    · exact State.refuse_agreed hu
    · split
      · exact State.refuse_agreed hu
      · exact State.finishTask_agreed ((State.flagSeat_sameHall u d true).agreed hu)

theorem execEnableSeat_agreed {d} (hs : s.Agreed C none) (h : execEnableSeat d s = .next t) : t.Agreed C none :=
  task_agreed hs h fun u hu => by
    have hflag := State.flagSeat_sameHall u d false
    dsimp only
    split
    · exact State.refuse_agreed hu
    · exact State.finishTask_agreed
        ((SameHall.ite (hflag.trans (State.retryStranded_sameHall _ _)) hflag).agreed hu)

/-! #### Placement -/

theorem execAllocate_agreed {k} (hs : s.Agreed C none) (h : execAllocate k s = .next t) : t.Agreed C none :=
  task_agreed hs h fun u hu => by
    split
    · exact State.refuse_agreed hu
    · split
      · exact State.refuse_agreed hu
      · split
        · exact State.refuse_agreed hu
        · exact State.finishTask_agreed (State.checkRun_agreed ((State.startRun_sameHall u k).agreed hu))

theorem execAbortAllocation_agreed {k} (hs : s.Agreed C none) (h : execAbortAllocation k s = .next t) :
    t.Agreed C none :=
  task_agreed hs h fun u hu => by
    have habort := State.abortRun_agreed hu
    dsimp only
    split
    · exact State.refuse_agreed hu
    · split
      · exact State.refuse_agreed hu
      · split
        · exact State.refuse_agreed hu
        · refine State.finishTask_agreed ?_
          split
          · exact (State.closeRun_sameHall _ _ _).agreed habort
          · exact habort

theorem execMove_agreed {n x} (hs : s.Agreed C none) (h : execMove n x s = .next t) : t.Agreed C none :=
  task_agreed hs h fun u hu => by
    split
    · exact State.refuse_agreed hu
    · refine State.withCandidate_agreed hu fun e he => ?_
      split
      · exact State.refuse_agreed hu
      · next hp =>
        split
        · exact State.refuse_agreed hu
        · next hbusy =>
          split
          · exact State.refuse_agreed hu
          · next hm => exact State.finishTask_agreed (State.carryMove_agreed hu he (by tauto) (by simpa using hbusy) hm)

theorem execRestartLine_agreed {z} (hs : s.Agreed C none) (h : execRestartLine z s = .next t) : t.Agreed C none :=
  task_agreed hs h fun u hu => by
    dsimp only
    split
    · exact State.refuse_agreed hu
    · exact State.finishTask_agreed ((State.setLine_sameHall _ _ _).agreed (State.restart_agreed hu z))

/-! #### Sittings -/

theorem execDefineSitting_agreed {k d} (hs : s.Agreed C none) (h : execDefineSitting k d s = .next t) :
    t.Agreed C none :=
  task_agreed hs h fun u hu => by
    dsimp only
    split
    · exact State.refuse_agreed hu
    · split
      · next hk =>
        split
        · exact State.refuse_agreed hu
        · exact State.finishTask_agreed (State.defineNew_agreed hu hk d)
      · next hk =>
        split
        · exact State.refuse_agreed hu
        · split
          · exact State.refuse_agreed hu
          · split
            · exact State.finishTask_agreed hu
            · exact State.finishTask_agreed (State.redefine_agreed hu hk d)
      · exact State.refuse_agreed hu

theorem execOpenNow_agreed {k} (hs : s.Agreed C none) (h : execOpenNow k s = .next t) : t.Agreed C none :=
  task_agreed hs h fun u hu => by
    dsimp only
    split
    · exact State.refuse_agreed hu
    · split
      · next hk => exact State.finishTask_agreed (State.enterOpen_agreed hu hk)
      · next hk =>
        split
        · exact State.refuse_agreed hu
        · exact State.finishTask_agreed (State.sittingStart_agreed hu hk)
      · exact State.refuse_agreed hu

theorem execHold_agreed {x} (hs : s.Agreed C none) (h : execHold x s = .next t) : t.Agreed C none :=
  task_agreed hs h fun u hu => by
    refine SameHall.agreed (s := u) ?_ hu
    cases x with
    | one k => exact .ite (State.finishTask_sameHall ..) (.ite (State.finishTask_sameHall ..) (State.holdThese_sameHall ..))
    | all => exact State.holdThese_sameHall ..

theorem execResume_agreed {x} (hs : s.Agreed C none) (h : execResume x s = .next t) : t.Agreed C none :=
  task_agreed hs h fun u hu => by
    refine SameHall.agreed (s := u) ?_ hu
    cases x with
    | one k => exact .ite (State.finishTask_sameHall ..) (.ite (State.finishTask_sameHall ..) (State.resumeThese_sameHall ..))
    | all => exact State.resumeThese_sameHall ..

theorem execCloseCollection_agreed {k} (hs : s.Agreed C none) (h : execCloseCollection k s = .next t) :
    t.Agreed C none :=
  task_agreed hs h fun u hu => by
    dsimp only
    split
    · exact State.refuse_agreed hu
    · split
      · exact State.refuse_agreed hu
      · next hk => exact State.finishTask_agreed (State.closeCollection_agreed hu (by simpa using hk))

theorem execRetireSitting_agreed {k} (hs : s.Agreed C none) (h : execRetireSitting k s = .next t) : t.Agreed C none :=
  task_agreed hs h fun u hu => by
    split
    · exact State.refuse_agreed hu
    · split
      · next hk =>
        split
        · exact State.refuse_agreed hu
        · exact State.finishTask_agreed (State.clearSitting_agreed hu fun q e he hek => hu.free_of_released hk he hek)
      · next hk =>
        split
        · exact State.refuse_agreed hu
        · obtain ⟨hclear, hfree⟩ := State.clearPlacement_agreed hu hk
          exact State.finishTask_agreed (State.clearSitting_agreed hclear hfree)
      · exact State.refuse_agreed hu

theorem execAdjustTime_agreed {n a} (hs : s.Agreed C none) (h : execAdjustTime n a s = .next t) : t.Agreed C none :=
  task_agreed hs h fun u hu => State.withCandidate_agreed hu fun e he => by
    split
    · exact State.refuse_agreed hu
    · exact State.finishTask_agreed (State.adjust_agreed hu he a)

theorem execEndCandidate_agreed {n} (hs : s.Agreed C none) (h : execEndCandidate n s = .next t) : t.Agreed C none :=
  task_agreed hs h fun u hu => State.withCandidate_agreed hu fun e he => by
    split
    · exact State.refuse_agreed hu
    · next hopen => exact State.finishTask_agreed (State.endCandidate_agreed hu he hopen)

/-! #### Custody and review -/

theorem execVoidScript_agreed {n} (hs : s.Agreed C none) (h : execVoidScript n s = .next t) : t.Agreed C none :=
  task_agreed hs h fun u hu => State.withCandidate_agreed hu fun e he => by
    split
    · exact State.refuse_agreed hu
    · next hv =>
      have hn : e.custody ≠ .none := fun hc => by simp [voidRefused, hc] at hv
      exact State.finishTask_agreed (State.voidScript_agreed hu he hn)

theorem execClearTray_agreed {v} (hs : s.Agreed C none) (h : execClearTray v s = .next t) : t.Agreed C none :=
  task_agreed hs h fun u hu => by
    split
    · exact State.refuse_agreed hu
    · split
      · exact State.refuse_agreed hu
      · exact State.finishTask_agreed hu
      · split
        · exact State.finishTask_agreed hu
        · exact State.finishTask_agreed (State.emptyTray_agreed hu v)

theorem execResolveQuery_agreed {n l} (hs : s.Agreed C none) (h : execResolveQuery n l s = .next t) : t.Agreed C none :=
  task_agreed hs h fun u hu => by
    dsimp only
    split
    · exact State.refuse_agreed hu
    · refine State.withCandidate_agreed hu fun e he => ?_
      split
      · next hc =>
        split
        · exact State.finishTask_agreed hu
        · split
          · exact State.finishTask_agreed hu
          · exact State.finishTask_agreed (State.resolveQueries_agreed hu he (by simp [Custody.beyond, hc]) _ l)
      · exact State.refuse_agreed hu

theorem execResolveDispute_agreed {n c} (hs : s.Agreed C none) (h : execResolveDispute n c s = .next t) :
    t.Agreed C none :=
  task_agreed hs h fun u hu => by
    dsimp only
    split
    · exact State.refuse_agreed hu
    · refine State.withCandidate_agreed hu fun e he => ?_
      split
      · next hc => exact State.finishTask_agreed (State.settle_agreed hu he (by simp [Custody.beyond, hc]) _)
      · exact State.refuse_agreed hu

theorem execManualMark_agreed {n x} (hs : s.Agreed C none) (h : execManualMark n x s = .next t) : t.Agreed C none :=
  task_agreed hs h fun u hu => State.withCandidate_agreed hu fun e he => by
    split
    · exact State.refuse_agreed hu
    · next hc =>
      have hb : e.custody = .manual ∨ e.custody = .disputed := by tauto
      refine State.finishTask_agreed ((State.countFinal_sameHall _ _).agreed
        (State.modScript_agreed hu he ?_ ?_ ?_ (c := .marked) (by simp) (by simp) fun y => ⟨_, rfl⟩)) <;>
        rcases hb with hb | hb <;> simp [hb]

/-- The marked scripts of a CLOSED sitting are released with it (R192). -/
theorem State.release_agreed (h : s.Agreed C none) (hk : (s.sitting k).phase = .closed) :
    ((s.setEntries (s.roster.entries.map (released k))).changeSitting k fun r => { r with phase := .released }).Agreed
      C none := by
  have hkeep (e : Entry) : identity (released k e) = identity e ∧ (released k e).seat = e.seat
      ∧ (released k e).offer = e.offer := by unfold released; split <;> exact ⟨rfl, rfl, rfl⟩
  have hmap : (s.setEntries (s.roster.entries.map (released k))).Agreed C none := by
    refine State.mapEntries_agreed h hkeep fun e hsound => ?_
    unfold released
    split
    · next hm =>
      have hseat : e.seat = none :=
        hsound.seat_none (.inl (hsound.finished (by simp [hm.2]) (by simp [hm.2]))) (by simp [hm.2])
      have hsame : { e with seat := none } = e := by rw [← hseat]
      rw [← hsame]
      exact hsound.script (by simp [hm.2]) (by simp [hm.2]) (c := .released) (by simp) (by simp) e.tray e.mark fun _ => rfl
    · exact hsound
  refine State.changeSitting_agreed hmap (hmap.links.limits k) (fun _ _ => id) fun q e he hek => ?_
  have hadm := (hmap.sound q e he).admitted.resolve_right (by simp)
  have hphase : ((s.setEntries (s.roster.entries.map (released k))).sitting k).phase = .closed := hk
  simp only [Sitting.admits, hek, hphase] at hadm ⊢
  exact ⟨.inl hadm, fun _ hrun => by simp [hadm.1] at hrun⟩

theorem execReleaseResults_agreed {k} (hs : s.Agreed C none) (h : execReleaseResults k s = .next t) : t.Agreed C none :=
  task_agreed hs h fun u hu => by
    dsimp only
    split
    · exact State.refuse_agreed hu
    · split
      · exact State.refuse_agreed hu
      · next hk =>
        split
        · exact State.refuse_agreed hu
        · split
          · exact State.finishTask_agreed hu
          · exact State.finishTask_agreed (State.release_agreed hu (by simpa using hk))

end Sys2Proof.Machine

namespace Sys2Proof.Machine

variable {s t u : State} {p k : Nat} {e x : Entry} {C : Prop} {late : Option Nat} {bs : List Part}

/-! ### Every event keeps the hall in agreement -/

theorem event_agreed {body : State → State} (hs : s.Agreed C none)
    (h : (Host.Outcome.next (s.whileOn body) : Result) = .next t) (hbody : (body s).Agreed C none) : t.Agreed C none :=
  event_keeps (P := fun u => u.Agreed C none) h hs fun _ => hbody

/-! #### The hall second -/

theorem reach_event_agreed {i : HallItem} {b : State → Bool} (hs : s.Agreed C none)
    (h : (Host.Outcome.next (s.whileOn fun s => s.reach i (b s)) : Result) = .next t) : t.Agreed C none :=
  event_agreed hs h (State.reach_agreed hs i (b s))

theorem execHallSecond_agreed {l} (hs : s.Agreed C none) (h : execHallSecond l s = .next t) : t.Agreed C none := by
  obtain rfl : _ = t := by injection h
  split
  · exact hs
  · exact State.advanceTime_agreed hs
  · exact State.advanceTime_agreed hs
  · exact State.takeSecond_agreed (State.advanceTime_agreed (State.catchUp_agreed hs)) l

theorem execOpenTime_agreed {k} (hs : s.Agreed C none) (h : execOpenTime k s = .next t) : t.Agreed C none :=
  event_agreed hs h (by
    dsimp only
    split
    · next hc =>
      have hopens : s.opensNow k = true := (Bool.and_eq_true _ _ ▸ hc).2
      have hopen := State.enterOpen_agreed hs (k := k) (by
        unfold State.opensNow at hopens; simp_all)
      split
      · exact hopen
      · exact State.settled_agreed hopen _
    · exact hs)

theorem execOfferDeadline_agreed (hs : s.Agreed C none) (h : execOfferDeadline s = .next t) : t.Agreed C none := by
  have htick : (if s.owes .offers then (s.settled .offers).tickOffers else s).Agreed C none := by
    split
    · exact (State.setOffers_map_sameHall _ tickOffer_pair).agreed (State.settled_agreed hs _)
    · exact hs
  have hfails (v : State) (hv : v.Agreed C none) :
      (match v.overdue with
        | d :: _ => v.failDeadline d
        | [] => s).Agreed C none := by
    split
    · exact State.failDeadline_agreed hv _
    · exact hs
  exact event_agreed hs h (hfails _ htick)

theorem execAlarmAssert_agreed (hw : Table.wf {} s.control.sittings = true) (hs : s.Agreed C none)
    (h : execAlarmAssert s = .next t) : t.Agreed C none := by
  obtain rfl : _ = t := by injection h
  have hset : SameHall s (s.setAlarm true) := ⟨rfl, fun _ => rfl, rfl, fun _ => rfl⟩
  refine SameHall.agreed (.ite (.refl s) ?_) hs
  split
  · exact hset.trans (State.assertAlarm_sameHall _)
  · exact hset.trans (State.findAlarm_sameHall hw)
  · exact hset

theorem execPlacementStep_agreed (hs : s.Agreed C none) (h : execPlacementStep s = .next t) : t.Agreed C none :=
  event_agreed hs h (State.placementStep_agreed hs)

theorem execWalkVisit_agreed (hs : s.Agreed C none) (h : execWalkVisit s = .next t) : t.Agreed C none :=
  event_agreed hs h (State.walkStep_agreed hs)

/-! #### The desk lines -/

theorem State.startSlot_sameHall (s : State) (z : Nat) : SameHall s (s.startSlot z) :=
  (State.startSlot_only s z (List.Subset.refl _) (.refl _ _)).sameHall (by decide)

theorem sentOffer_pair (d : Nat) (o : Offer) : (sentOffer d o).pair = o.pair := by unfold sentOffer; split <;> rfl

theorem State.endFrame_sameHall (s : State) (z : Nat) (f : Frame) : SameHall s (s.endFrame z f) := by
  unfold State.endFrame
  dsimp only
  split
  · exact (State.leaveQueue_only _ _ _ (bs := tellingParts) (by decide)
      (State.setSlot_only _ _ _ (by decide) (.refl _ _))).sameHall (by decide)
  · refine .trans (State.setLine_sameHall s z _) (.ite ?_ (.refl _))
    exact State.setOffers_map_sameHall _ (sentOffer_pair _)

theorem execSlotStart_agreed {z} (hs : s.Agreed C none) (h : execSlotStart z s = .next t) : t.Agreed C none :=
  event_agreed hs h ((State.startSlot_sameHall s z).agreed hs)

theorem execFrameSent_agreed {z} (hs : s.Agreed C none) (h : execFrameSent z s = .next t) : t.Agreed C none :=
  event_agreed hs h (by
    split
    · exact (State.endFrame_sameHall s z _).agreed hs
    · exact hs)

theorem execAnswerWindowClose_agreed {z} (hs : s.Agreed C none) (h : execAnswerWindowClose z s = .next t) :
    t.Agreed C none :=
  event_agreed hs h (by
    split
    · exact State.closeWindow_agreed hs z _
    · exact hs)

theorem execLinkLoss_agreed {z} (hs : s.Agreed C none) (h : execLinkLoss z s = .next t) : t.Agreed C none :=
  event_agreed hs h (by
    split
    · split
      · exact State.closeWindow_agreed hs z _
      · exact hs
    · exact hs)

theorem execQuiet_agreed {z v} (hs : s.Agreed C none) (h : execQuiet z v s = .next t) : t.Agreed C none :=
  event_agreed hs h (State.answer_agreed hs z v fun w hw => (State.countGood_sameHall w z v).agreed hw)

theorem execLinkRegain_agreed {z v} (hs : s.Agreed C none) (h : execLinkRegain z v s = .next t) : t.Agreed C none :=
  event_agreed hs h (by
    split
    · exact State.answer_agreed hs z v fun w hw => (State.countGood_sameHall w z v).agreed hw
    · exact hs)

theorem execJoin_agreed {z v k c} (hs : s.Agreed C none) (h : execJoin z v k c s = .next t) : t.Agreed C none :=
  event_agreed hs h (State.takeJoin_agreed hs z v k c)

theorem execCheckin_agreed {z v n number tag} (hs : s.Agreed C none) (h : execCheckin z v n number tag s = .next t) :
    t.Agreed C none :=
  event_agreed hs h (State.deskEvent_agreed hs z v n fun d _ hw => State.checkin_agreed hw d number tag)

theorem execHandin_agreed {z v n number} (hs : s.Agreed C none) (h : execHandin z v n number s = .next t) :
    t.Agreed C none :=
  event_agreed hs h (State.deskEvent_agreed hs z v n fun d _ hw => State.handin_agreed hw d number)

theorem execRestBegin_agreed {z v n number} (hs : s.Agreed C none) (h : execRestBegin z v n number s = .next t) :
    t.Agreed C none :=
  event_agreed hs h (State.deskEvent_agreed hs z v n fun d _ hw => State.restBegin_agreed hw d number)

theorem execRestEnd_agreed {z v n number} (hs : s.Agreed C none) (h : execRestEnd z v n number s = .next t) :
    t.Agreed C none :=
  event_agreed hs h (State.deskEvent_agreed hs z v n fun d _ hw => State.restEnd_agreed hw d number)

theorem execHelp_agreed {z v n} (hs : s.Agreed C none) (h : execHelp z v n s = .next t) : t.Agreed C none :=
  event_agreed hs h (State.deskEvent_agreed hs z v n fun _ _ hw => (State.raise_sameHall _ _ _).agreed hw)

theorem execOfferReplyAccept_agreed {z v n number} (hs : s.Agreed C none)
    (h : execOfferReplyAccept z v n number s = .next t) : t.Agreed C none :=
  event_agreed hs h (State.deskEvent_agreed hs z v n fun d w hw => by
    split
    · next ho => exact State.acceptOffer_agreed hw (State.matching_mem ho)
    · exact (State.withdrawOffer_sameHall _ _ _).agreed hw)

theorem execOfferReplyRefuse_agreed {z v n number caps} (hs : s.Agreed C none)
    (h : execOfferReplyRefuse z v n number caps s = .next t) : t.Agreed C none :=
  event_agreed hs h (State.deskEvent_agreed hs z v n fun d w hw => by
    split
    · next ho => exact State.refuseOffer_agreed hw (State.matching_mem ho) caps
    · exact (State.withdrawOffer_sameHall _ _ _).agreed hw)

theorem execTagRead_agreed {z v n tag} (hs : s.Agreed C none) (h : execTagRead z v n tag s = .next t) :
    t.Agreed C none :=
  event_agreed hs h (State.takeEvent_agreed hs z v n fun w hw => by
    split
    · exact hw
    · exact State.readTag_agreed hw _ tag)

/-! #### The sheet port and the starts -/

theorem execDecoderTake_agreed (hs : s.Agreed C none) (h : execDecoderTake s = .next t) : t.Agreed C none :=
  event_agreed hs h ((State.decoderStep_sameHall s).agreed hs)

theorem execSheetHandover_agreed (hs : s.Agreed C none) (h : execSheetHandover s = .next t) : t.Agreed C none :=
  event_agreed hs h (by
    split
    · exact State.handOver_agreed hs _
    · exact hs)

theorem State.closeBatch_sameHall (s : State) : SameHall s s.closeBatch :=
  (State.closeBatch_only s (List.Subset.refl _) (.refl _ _)).sameHall (by decide)

theorem execBatchClose_agreed (hs : s.Agreed C none) (h : execBatchClose s = .next t) : t.Agreed C none :=
  event_agreed hs h (by
    split
    · split
      · exact (State.closeBatch_sameHall s).agreed hs
      · split
        · exact State.decoderEvent_agreed hs
        · exact hs
    · exact hs)

theorem execReboot_agreed (hseats : Table.wf {} s.seatMap.seats = true)
    (hsittings : Table.wf {} s.control.sittings = true) (hs : s.Agreed C none) (h : execReboot s = .next t) :
    t.Agreed C none := by
  refine task_leads (Q := fun u => u.Agreed C none) (P := fun u => Table.wf {} u.seatMap.seats = true
    ∧ Table.wf {} u.control.sittings = true ∧ u.Agreed C none) h (fun u v hm hu => ?_) (fun u hu => hu.2.2)
    ⟨hseats, hsittings, hs⟩ fun u hu => State.warmStart_agreed hu.2.2 hu.1 hu.2.1 .reboot
  obtain ⟨h1, h2, h3⟩ := hu
  have hsame : v.seatMap.seats = u.seatMap.seats := hm.rest .seats (by decide)
  have hsame' : v.control.sittings = u.control.sittings := hm.rest .sittings (by decide)
  exact ⟨hsame ▸ h1, hsame' ▸ h2, (hm.sameHall (by decide)).agreed h3⟩

theorem execResetn_agreed (hseats : Table.wf {} s.seatMap.seats = true)
    (hsittings : Table.wf {} s.control.sittings = true) (hs : s.Agreed C none) (h : execResetn s = .next t) :
    t.Agreed C none := by
  obtain rfl : _ = t := by injection h
  split
  · exact State.warmStart_agreed hs hseats hsittings _
  · exact State.warmStart_agreed hs hseats hsittings _
  · exact hs

theorem execMainSupplyReturn_agreed (hseats : Table.wf {} s.seatMap.seats = true)
    (hsittings : Table.wf {} s.control.sittings = true) (hs : s.Agreed C none) (h : execMainSupplyReturn s = .next t) :
    t.Agreed C none := by
  obtain rfl : _ = t := by injection h
  split
  · exact State.warmStart_agreed hs hseats hsittings _
  · exact hs

theorem execColdStart_agreed (hs : s.Agreed C none) (h : execColdStart s = .next t) : t.Agreed C none := by
  obtain rfl : _ = t := by injection h
  split
  · exact State.coldStart_agreed _
  · exact hs

end Sys2Proof.Machine

namespace Sys2Proof.Machine

variable {s t : State} {C : Prop}

/-! ### Every step keeps the hall in agreement -/

/-- A part that none of roster, seat map, offer table and sittings is. -/
def offHall (x : Part) : Prop := x ≠ .entries ∧ x ≠ .seats ∧ x ≠ .offers ∧ x ≠ .sittings

/-- Every command keeps the hall in agreement: one off the hall by its frame, any other by its own lemma. -/
theorem exec_agreed (c : Instr) (s t : State) (h : exec c s = .next t) :
    Table.wf {} s.seatMap.seats = true → Table.wf {} s.control.sittings = true → s.Agreed C none → t.Agreed C none := by
  refine exec_lift (Q := fun s t => Table.wf {} s.seatMap.seats = true → Table.wf {} s.control.sittings = true →
    s.Agreed C none → t.Agreed C none) (fun _ _ hm _ _ hs => (hm.sameHall (by decide)).agreed hs)
    (fun c s t ht h hseats hsittings hs => ?_) c s t h
  by_cases hoff : (∀ z, c ≠ .restartLine z) ∧ ∀ x ∈ mayChange c, offHall x
  · exact ((exec_only ht hoff.1 h).sameHall hoff.2).agreed hs
  · cases c with
    | areaWrite area o d => cases area <;> simp_all [mayChange, offHall]
    | reboot => exact execReboot_agreed hseats hsittings hs h
    | enrol _ _ => exact execEnrol_agreed hs h
    | withdraw _ => exact execWithdraw_agreed hs h
    | amend _ _ _ _ => exact execAmend_agreed hs h
    | disableSeat _ => exact execDisableSeat_agreed hs h
    | enableSeat _ => exact execEnableSeat_agreed hs h
    | allocate _ => exact execAllocate_agreed hs h
    | abortAllocation _ => exact execAbortAllocation_agreed hs h
    | move _ _ => exact execMove_agreed hs h
    | restartLine _ => exact execRestartLine_agreed hs h
    | defineSitting _ _ => exact execDefineSitting_agreed hs h
    | openNow _ => exact execOpenNow_agreed hs h
    | hold _ => exact execHold_agreed hs h
    | resume _ => exact execResume_agreed hs h
    | closeCollection _ => exact execCloseCollection_agreed hs h
    | retireSitting _ => exact execRetireSitting_agreed hs h
    | adjustTime _ _ => exact execAdjustTime_agreed hs h
    | endCandidate _ => exact execEndCandidate_agreed hs h
    | voidScript _ => exact execVoidScript_agreed hs h
    | clearTray _ => exact execClearTray_agreed hs h
    | batchClose => exact execBatchClose_agreed hs h
    | resolveQuery _ _ => exact execResolveQuery_agreed hs h
    | resolveDispute _ _ => exact execResolveDispute_agreed hs h
    | manualMark _ _ => exact execManualMark_agreed hs h
    | releaseResults _ => exact execReleaseResults_agreed hs h
    | hallSecond _ => exact execHallSecond_agreed hs h
    | openTime _ => exact execOpenTime_agreed hs h
    | startTime _ => exact reach_event_agreed hs h
    | readingEnd _ => exact reach_event_agreed hs h
    | lateLimit _ => exact reach_event_agreed hs h
    | writingEnd _ => exact reach_event_agreed hs h
    | clockExpiry _ => exact reach_event_agreed hs h
    | restExhausted _ => exact reach_event_agreed hs h
    | warningFire _ => exact reach_event_agreed hs h
    | offerDeadline => exact execOfferDeadline_agreed hs h
    | alarmAssert => exact execAlarmAssert_agreed hsittings hs h
    | placementStep => exact execPlacementStep_agreed hs h
    | walkVisit => exact execWalkVisit_agreed hs h
    | slotStart _ => exact execSlotStart_agreed hs h
    | frameSent _ => exact execFrameSent_agreed hs h
    | answerWindowClose _ => exact execAnswerWindowClose_agreed hs h
    | quiet _ _ => exact execQuiet_agreed hs h
    | join _ _ _ _ => exact execJoin_agreed hs h
    | checkin _ _ _ _ _ => exact execCheckin_agreed hs h
    | handin _ _ _ _ => exact execHandin_agreed hs h
    | restBegin _ _ _ _ => exact execRestBegin_agreed hs h
    | restEnd _ _ _ _ => exact execRestEnd_agreed hs h
    | help _ _ _ => exact execHelp_agreed hs h
    | offerReplyAccept _ _ _ _ => exact execOfferReplyAccept_agreed hs h
    | offerReplyRefuse _ _ _ _ _ => exact execOfferReplyRefuse_agreed hs h
    | tagRead _ _ _ _ => exact execTagRead_agreed hs h
    | linkLoss _ => exact execLinkLoss_agreed hs h
    | linkRegain _ _ => exact execLinkRegain_agreed hs h
    | decoderTake => exact execDecoderTake_agreed hs h
    | sheetHandover => exact execSheetHandover_agreed hs h
    | coldStart => exact execColdStart_agreed hs h
    | resetn => exact execResetn_agreed hseats hsittings hs h
    | mainSupplyReturn => exact execMainSupplyReturn_agreed hseats hsittings hs h
    | _ => exact absurd (by simp [mayChange, batchParts, offHall]) hoff

theorem step_agreed (hc : s.Canonical) (hs : s.Agreed C none) (h : step s = .next t) : t.Agreed C none := by
  obtain ⟨-, hseats, -, hsittings, -⟩ := hc
  unfold step at h
  split at h
  · obtain rfl : s = t := by injection h
    exact hs
  · exact exec_agreed _ _ t h hseats hsittings (SameHall.agreed (s := s) ⟨rfl, fun _ => rfl, rfl, fun _ => rfl⟩ hs)

/-- Settles O12: the agreement is kept as links with every entry sound, by every command. -/
theorem stepKeepsSeatsAgreed : Obligations.StepKeepsSeatsAgreed := by
  unfold Obligations.StepKeepsSeatsAgreed
  intro s t hc hr hs h
  exact (step_agreed hc (State.agreed_of_seatsAgree (C := False) hr hs False.elim) h).seatsAgree

/-- Settles O14: with the bounds of every clock among what makes an entry sound. -/
theorem stepKeepsClocksBounded : Obligations.StepKeepsClocksBounded := by
  unfold Obligations.StepKeepsClocksBounded
  intro s t hc hr hs hb h
  exact (step_agreed hc (State.agreed_of_seatsAgree (C := True) hr hs fun _ => hb) h).clocksBounded

end Sys2Proof.Machine

namespace Sys2Proof.Machine

variable {s t u : State} {e : Entry} {k : Task} {body : State → State}

/-! ### A task that the port carries out -/

/-- A task written to a ready port runs its body on the started mailbox (R195). -/
theorem State.atPort_ready (h : s.Ready k) : s.atPort k body = body (s.startTask (taskCode k)) := by
  obtain ⟨⟨hon, hidle⟩, hperm⟩ := h
  unfold State.atPort
  simp [hon, hidle, hperm]

theorem task_next (h : s.Ready k) :
    (Host.Outcome.next (s.atPort k body) : Result) = .next (body (s.startTask (taskCode k))) := by
  rw [State.atPort_ready h]

/-- A task whose body only finishes leaves the mailbox completed (R195, R196). -/
theorem task_completes {c : ResultCode} {b : Bool} {r : Report} (h : s.Ready k)
    (hbody : body (s.startTask (taskCode k)) = (s.startTask (taskCode k)).finishTask c b r) :
    (Host.Outcome.next (s.atPort k body) : Result) = .next (s.completed c b r) := by
  rw [task_next h, hbody]; rfl

theorem State.withCandidate_found {n : Nat} {f : Entry → State} (hn : badNumber n = false) (he : s.byNumber? n = some e) :
    s.withCandidate n f = f e := by
  unfold State.withCandidate
  rw [hn, he]; rfl

theorem State.named_tag {n : Nat} {f : Entry → State} (hn : badTag n = false) (he : s.byTag? n = some e) :
    s.named (.tag n) f = f e := by
  unfold State.named
  simp [hn, he]

theorem not_badSitting {i : Nat} (h : i < Config.sittings) : badSitting i = false := by
  simpa [badSitting] using h

/-! ### Lists in reports -/

/-- The entries from a position on, of a list numbered from `m` (R120). -/
theorem map_filter_zipIdx {α : Type} (l : List α) (m start : Nat) :
    ((l.zipIdx m).filter fun p => decide (start ≤ p.2)).map Prod.fst = l.drop (start - m) := by
  induction l generalizing m with
  | nil => simp
  | cons x l ih =>
    rw [List.zipIdx_cons, List.filter_cons]
    by_cases hm : start ≤ m
    · have hrest := ih (m + 1)
      rw [Nat.sub_eq_zero_of_le (Nat.le_succ_of_le hm), List.drop_zero] at hrest
      simp [hm, hrest]
    · have hstep : start - m = start - (m + 1) + 1 := by omega
      simp [hm, ih, hstep]

/-- The numbers from `start` on, of consecutive numbers (R165). -/
theorem filter_range' (a n start : Nat) :
    (List.range' a n).filter (fun i => decide (start ≤ i)) = List.range' (max a start) (a + n - max a start) := by
  induction n generalizing a with
  | zero =>
    have hnone : a + 0 - max a start = 0 := by omega
    rw [hnone]; rfl
  | succ n ih =>
    rw [List.range'_succ, List.filter_cons, ih]
    by_cases hs : start ≤ a
    · have h1 : max a start = a := by omega
      have h2 : max (a + 1) start = a + 1 := by omega
      have h3 : a + (n + 1) - a = n + 1 := by omega
      have h4 : a + 1 + n - (a + 1) = n := by omega
      simp only [hs, decide_true, if_true]
      rw [h1, h2, h3, h4, List.range'_succ]
    · have h1 : max a start = max (a + 1) start := by omega
      have h2 : a + (n + 1) = a + 1 + n := by omega
      simp only [hs, decide_false, Bool.false_eq_true, if_false]
      rw [h1, h2]

theorem Key.numbers_from (k : Key) {start : Nat} (h : 1 ≤ start) :
    (k.numbers.filter fun i => decide (start ≤ i)) = List.range' start (k.q + 1 - start) := by
  have hnum : k.numbers = List.range' 1 k.q := by
    unfold Key.numbers
    rw [List.range'_eq_map_range]
    exact List.map_congr_left fun i _ => Nat.add_comm i 1
  rw [hnum, filter_range', Nat.max_eq_right h, Nat.add_comm 1]

/-- Every seat is counted under one tenure (R32). -/
theorem length_by_tenure (l : List Nat) (f : Nat → TenureKind) :
    (l.filter fun d => decide (f d = .empty)).length + (l.filter fun d => decide (f d = .offered)).length
      + (l.filter fun d => decide (f d = .held)).length + (l.filter fun d => decide (f d = .occupied)).length
      + (l.filter fun d => decide (f d = .vacated)).length = l.length := by
  induction l with
  | nil => rfl
  | cons d l ih => cases hd : f d <;> simp only [List.filter_cons, hd] <;> simp <;> omega

/-- Every seat is counted under one link state (R32). -/
theorem length_by_link (l : List Nat) (f : Nat → Link) :
    (l.filter fun d => decide (f d = .unknown)).length + (l.filter fun d => decide (f d = .up)).length
      + (l.filter fun d => decide (f d = .down)).length = l.length := by
  induction l with
  | nil => rfl
  | cons d l ih => cases hd : f d <;> simp only [List.filter_cons, hd] <;> simp <;> omega

theorem length_seatsOfZone (z : Nat) : (seatsOfZone z).length = 240 := by simp [seatsOfZone, Config.zoneSeats]

theorem State.numberOf?_eq (s : State) (o : Option Nat) : s.numberOf? o = o.bind s.numberOf := by cases o <;> rfl

theorem State.tag_tagLine (s : State) (p t : Nat) : (s.tagLine p t).tag = t := by unfold State.tagLine; split <;> rfl

/-! ### The reports -/

theorem lookup_reports {n : Nat} (h : s.Ready .lookup) (hn : badNumber n = false) (he : s.byNumber? n = some e) :
    exec (.lookup (.number n)) s
      = .next (s.completed .ok false (.lookup ((s.startTask (taskCode .lookup)).lookupReport e))) :=
  task_completes h (State.withCandidate_found (s := s.startTask (taskCode .lookup)) hn he)

theorem lookup_tag_reports {n : Nat} (h : s.Ready .lookup) (hn : badTag n = false) (he : s.byTag? n = some e) :
    exec (.lookup (.tag n)) s
      = .next (s.completed .ok false (.lookup ((s.startTask (taskCode .lookup)).lookupReport e))) :=
  task_completes h (State.named_tag (s := s.startTask (taskCode .lookup)) hn he)

theorem list_reports (h : s.Ready .list) {i start : Nat} (hi : i < Config.sittings) (hstart : start ≤ Config.lastNumber) :
    exec (.list i .any start) s = .next (s.completed .ok false (.list (((s.listed i .any start).take 8).map listLine)
      (decide (8 < (s.listed i .any start).length)))) := by
  refine task_completes h ?_
  simp only [not_badSitting hi, Bool.false_and, Bool.false_or, Nat.not_lt.2 hstart]
  rfl

/-- What LIST of a sitting runs over (R16). -/
theorem State.listed_any (s : State) {i : Nat} (hi : i < Config.sittings) (start : Nat) :
    s.listed i .any start = s.roster.entries.filter fun e => decide (start ≤ e.number ∧ e.sitting = i) := by
  have hne : i ≠ 255 := fun hc => by rw [hc] at hi; exact absurd hi (by decide)
  unfold State.listed
  congr 1
  funext e
  simp [hne, meetsPresence]

theorem seatInfo_reports (h : s.Ready .seatInfo) {d : Nat} (hd : d < Config.seats) :
    exec (.seatInfo (.seat d)) s
      = .next (s.completed .ok false (.seat ((s.startTask (taskCode .seatInfo)).seatReport d))) :=
  task_completes h (if_pos hd)

theorem seatInfo_zone_reports (h : s.Ready .seatInfo) {z : Nat} (hz : z < Config.zones) :
    exec (.seatInfo (.zone z)) s
      = .next (s.completed .ok false (.zone ((s.startTask (taskCode .seatInfo)).zoneReport z))) :=
  task_completes h (if_pos hz)

theorem State.zoneReport_sums (s : State) (z : Nat) :
    (s.zoneReport z).empty + (s.zoneReport z).offered + (s.zoneReport z).held + (s.zoneReport z).occupied
        + (s.zoneReport z).vacated = 240
      ∧ (s.zoneReport z).unknown + (s.zoneReport z).up + (s.zoneReport z).down = 240 :=
  ⟨(length_by_tenure (seatsOfZone z) fun d => (s.seat d).tenure.kind).trans (length_seatsOfZone z),
    (length_by_link (seatsOfZone z) fun d => (s.seat d).link).trans (length_seatsOfZone z)⟩

theorem sittingInfo_reports (h : s.Ready .sittingInfo) {i : Nat} (hi : i < Config.sittings) :
    exec (.sittingInfo i) s = .next (s.completed .ok false (.sitting
      { record := s.sitting i, keyState := (s.key i).state, keyRevision := (s.key i).revision,
        hallTime := s.hall.time, hallTimeSet := s.hall.timeSet })) := by
  have hne : i ≠ 255 := fun hc => by rw [hc] at hi; exact absurd hi (by decide)
  refine task_completes h ?_
  simp only [hne, if_false, not_badSitting hi, Bool.false_eq_true]
  rfl

theorem trayInfo_reports (h : s.Ready .trayInfo) {v start : Nat} (hv : v < Config.trays) (h1 : 1 ≤ start)
    (h2 : start ≤ Config.trayTags) : exec (.trayInfo v start) s
      = .next (s.completed .ok false (.tray ((s.startTask (taskCode .trayInfo)).trayReport v start))) := by
  have hne : v ≠ 255 := fun hc => by rw [hc] at hv; exact absurd hv (by decide)
  refine task_completes h ?_
  simp only [hne, if_false, Nat.not_le.2 hv, Nat.not_lt.2 h2, Nat.one_le_iff_ne_zero.1 h1, decide_false, Bool.or_self,
    Bool.false_eq_true]

theorem State.trayReport_tags (s : State) (v start : Nat) :
    (s.trayReport v start).entries.map TrayLine.tag = ((s.tray v).tags.drop (start - 1)).take 20 := by
  have htag : (TrayLine.tag ∘ fun p : Nat × Nat => s.tagLine p.2 p.1) = Prod.fst :=
    funext fun p => s.tag_tagLine p.2 p.1
  rw [← map_filter_zipIdx, ← List.map_take, ← htag, ← List.map_map]
  rfl

theorem readKey_reports (h : s.Ready .readKey) {i start : Nat} (hi : i < Config.sittings)
    (hsat : beingSat (s.sitting i).phase = false) {x : KeyPart} (hx : badStart start x = false) :
    exec (.readKey i (some x) start) s = .next (s.completed .ok false (match x with
      | .headerAndQuestions => .key (keyReport (s.key i) start)
      | .amendments => amendmentReport (s.key i) start)) := by
  refine task_completes h ?_
  have hsat' : beingSat ((s.startTask (taskCode .readKey)).sitting i).phase = false := hsat
  simp only [not_badSitting hi, hx, hsat', Bool.or_self, Bool.false_eq_true, if_false]
  cases x <;> rfl

theorem readMark_reports {n : Nat} {m : MarkRecord} (h : s.Ready .readMark) (hn : badNumber n = false)
    (he : s.byNumber? n = some e) (hm : e.mark = some m) (x : MarkPart) :
    exec (.readMark (.number n) (some x)) s
      = .next (s.completed .ok false ((s.startTask (taskCode .readMark)).markPart e m x)) := by
  refine task_completes h ((State.withCandidate_found (s := s.startTask (taskCode .readMark)) hn he).trans ?_)
  rw [hm]

/-- What READ_KEY lists of the questions (R165). -/
theorem keyReport_questions (k : Key) {start : Nat} (h : 1 ≤ start) :
    (keyReport k start).questions.map QuestionLine.question = (List.range' start (k.q + 1 - start)).take 20 := by
  have hline : QuestionLine.question ∘ questionLine k = id := rfl
  unfold keyReport
  rw [Key.numbers_from k h, List.map_map, hline, List.map_id]

theorem keyReport_line (k : Key) (start : Nat) {x : QuestionLine} (hx : x ∈ (keyReport k start).questions) :
    x.accepted = (k.question x.question).accepted ∧ x.weight = (k.question x.question).weight
      ∧ x.void = (k.question x.question).void := by
  obtain ⟨i, -, rfl⟩ := List.mem_map.1 hx
  exact ⟨rfl, rfl, rfl⟩

/-- Settles O28: each report's task finishes on the started mailbox, and its report is read off the records. -/
theorem reportsChangeNothing : Obligations.ReportsChangeNothing := by
  unfold Obligations.ReportsChangeNothing
  refine ⟨fun s => ⟨fun h n e hn he => ?_, fun h n e hn he => ?_, fun h i hi start hstart => ?_, fun h d hd => ?_,
    fun h z hz => ?_, fun h => ?_, fun h i hi => ?_, fun h v start hv h1 h2 => ?_⟩,
    fun s => ⟨fun h i hi hsat => ⟨fun start h1 h2 => ?_, fun start h1 h2 => ?_⟩, fun h n e m hn he hm => ?_⟩⟩
  · exact ⟨_, lookup_reports h hn he, rfl, rfl, rfl, rfl, rfl, rfl, rfl, rfl, rfl, rfl, rfl, rfl⟩
  · exact ⟨_, lookup_tag_reports h hn he, rfl⟩
  · refine ⟨_, _, list_reports h hi hstart, ?_, ?_⟩
    · rw [List.map_map, s.listed_any hi]; rfl
    · rw [s.listed_any hi, decide_eq_true_iff]
  · exact ⟨_, seatInfo_reports h hd, rfl, rfl, rfl, rfl, State.numberOf?_eq s _, State.numberOf?_eq s _, rfl, rfl, rfl,
      rfl⟩
  · exact ⟨_, seatInfo_zone_reports h hz, State.zoneReport_sums _ z⟩
  · exact task_completes h rfl
  · exact ⟨_, sittingInfo_reports h hi, rfl, rfl, rfl, rfl, rfl⟩
  · exact ⟨_, trayInfo_reports h hv h1 h2, rfl, rfl, rfl, State.trayReport_tags s v start⟩
  · have hx : badStart start .headerAndQuestions = false := by simp [badStart]; omega
    exact ⟨_, readKey_reports h hi hsat hx, rfl, rfl, rfl, keyReport_questions _ h1, fun _ => keyReport_line _ start⟩
  · have hx : badStart start .amendments = false := by simp [badStart]; omega
    exact ⟨_, _, readKey_reports h hi hsat hx, rfl⟩
  · exact ⟨⟨_, readMark_reports h hn he hm .summary, rfl, rfl, rfl, rfl, rfl, rfl⟩, readMark_reports h hn he hm .first,
      readMark_reports h hn he hm .second, readMark_reports h hn he hm .working⟩

end Sys2Proof.Machine

namespace Sys2Proof.Machine

variable {s t u : State} {p : Nat} {e x : Entry} {bs : List Part}

/-! ### What an entry is allowed and has used -/

/-- The facets of an entry that AMEND writes or recomputes, and those it must keep. -/
def Entry.amounts (e : Entry) : (Nat × Nat × Nat) × CapSet × Nat × Nat × Nat × Nat × Nat × Int :=
  (identity e, e.needs, e.allowance, e.restAllowance, e.budget, e.used, e.restUsed, e.adjustSum)

/-- Every entry keeps its amounts. -/
def SameAmounts (s t : State) : Prop :=
  t.roster.entries.map Entry.amounts = s.roster.entries.map Entry.amounts

theorem SameAmounts.refl (s : State) : SameAmounts s s := rfl

theorem SameAmounts.trans (h : SameAmounts s t) (g : SameAmounts t u) : SameAmounts s u := Eq.trans g h

theorem SameAmounts.ite {c : Prop} [Decidable c] (h : SameAmounts s t) (g : SameAmounts s u) :
    SameAmounts s (if c then t else u) := by split <;> assumption

theorem OnlyChanges.sameAmounts (h : OnlyChanges bs s t) (hb : Part.entries ∉ bs) : SameAmounts s t := by
  have hentries : t.roster.entries = s.roster.entries := h.rest .entries hb
  unfold SameAmounts; rw [hentries]

theorem State.modEntry_sameAmounts (s : State) (p : Nat) {f : Entry → Entry} (hf : ∀ e, (f e).amounts = e.amounts) :
    SameAmounts s (s.modEntry p f) := by
  simp only [SameAmounts, State.modEntry, State.setEntries_roster, List.map_map]
  exact List.map_congr_left fun e _ => by simp only [Function.comp]; split <;> simp [hf]

theorem SameAmounts.identities (h : SameAmounts s t) :
    t.roster.entries.map identity = s.roster.entries.map identity := by
  have hfst : Prod.fst ∘ Entry.amounts = identity := rfl
  have hmap := congrArg (List.map Prod.fst) h
  simpa only [List.map_map, hfst] using hmap

theorem SameAmounts.rosterOrdered (h : SameAmounts s t) (hs : s.RosterOrdered) : t.RosterOrdered :=
  State.rosterOrdered_of_identities h.identities hs

theorem SameAmounts.entry? (h : SameAmounts s t) (hs : s.RosterOrdered) (he : s.entry? p = some e) :
    ∃ x, t.entry? p = some x ∧ x.amounts = e.amounts := by
  have hmem : e.amounts ∈ t.roster.entries.map Entry.amounts := by
    rw [h]; exact List.mem_map_of_mem (State.mem_of_entry? he)
  obtain ⟨x, hx, hxe⟩ := List.mem_map.1 hmem
  have hslot : x.slot = p := by
    have hid : identity x = identity e := congrArg Prod.fst hxe
    rw [← State.slot_of_entry? he]; exact congrArg Prod.fst hid
  exact ⟨x, hslot ▸ State.entry?_of_mem (h.rosterOrdered hs) hx, hxe⟩

/-! ### The end of a clock keeps the amounts -/

theorem State.requestCancel_sameAmounts (s : State) (d : Nat) : SameAmounts s (s.requestCancel d) := by
  unfold State.requestCancel
  split
  · exact State.modEntry_sameAmounts _ _ (f := fun e => { e with offer := none }) fun _ => rfl
  · exact .refl s

theorem State.cancelOffer_sameAmounts (s : State) (o : Offer) : SameAmounts s (s.cancelOffer o) := by
  have hcancel : SameAmounts s ((s.dropOffer o.seat).requestCancel o.seat) :=
    State.requestCancel_sameAmounts (s.dropOffer o.seat) o.seat
  have hall := State.cancelOffer_sameHall s o
  exact hcancel.trans (by unfold SameAmounts; rw [hall.entries])

theorem State.endNeed_sameAmounts (s : State) (p : Nat) : SameAmounts s (s.endNeed p) := by
  have hleave (v : State) : SameAmounts v ((v.leaveReseat p).leaveRetry p) :=
    (State.leaveRetry_only _ p (bs := [.reseats, .run]) (by decide)
      (State.leaveReseat_only v p (by decide) (.refl _ _))).sameAmounts (by decide)
  unfold State.endNeed
  dsimp only
  split
  · exact (State.cancelOffer_sameAmounts s _).trans (hleave _)
  · exact hleave s

theorem State.count_sameAmounts (s : State) (p : Nat) (f : Sitting → Sitting) : SameAmounts s (s.count p f) :=
  (State.count_only s p f (List.Subset.refl _) (.refl _ _)).sameAmounts (by decide)

theorem State.requestRelease_sameAmounts (s : State) (d : Nat) : SameAmounts s (s.requestRelease d) := by
  unfold State.requestRelease
  split
  · exact .refl s
  · next q _ =>
    have hmod : SameAmounts s (((s.setSeat d { s.seat d with tenure := .empty }).modEntry q fun e =>
        { e with seat := none }).count q dropPlaced) :=
      (State.modEntry_sameAmounts (s.setSeat d { s.seat d with tenure := .empty }) q
        (f := fun e => { e with seat := none }) fun _ => rfl).trans
        (State.count_sameAmounts _ _ _)
    exact .ite (hmod.trans ((State.showSeat_only _ d _ (List.Subset.refl _) (.refl _ _)).sameAmounts (by decide))) hmod

theorem State.releaseSeat_sameAmounts (s : State) (d : Nat) : SameAmounts s (s.releaseSeat d) :=
  (State.requestRelease_sameAmounts s d).trans
    ((State.retryStranded_only _ d (List.Subset.refl _) (.refl _ _)).sameAmounts (by decide))

theorem State.releaseHeld_sameAmounts (s : State) (p : Nat) : SameAmounts s (s.releaseHeld p) := by
  unfold State.releaseHeld
  split
  · split
    · exact State.releaseSeat_sameAmounts s _
    · exact .refl s
  · exact .refl s

theorem State.finish_handIn_sameAmounts (s : State) (p : Nat) : SameAmounts s ((s.finishPresent p).handIn p) := by
  have hfinish : SameAmounts s (s.finishPresent p) :=
    (State.modEntry_sameAmounts s p (f := fun e => { endClock e with presence := .finished })
      fun _ => rfl).trans (State.count_sameAmounts _ _ _)
  have hhand (v : State) : SameAmounts v (v.handIn p) :=
    (State.modEntry_sameAmounts v p (f := fun e => { e with custody := .handedIn })
      fun _ => rfl).trans (State.count_sameAmounts _ _ _)
  exact hfinish.trans (hhand _)

theorem State.tellEnd_sameAmounts (s : State) (p : Nat) : SameAmounts s (s.tellEnd p) :=
  (State.tellEnd_only s p (List.Subset.refl _) (.refl _ _)).sameAmounts (by decide)

theorem State.queueClock_sameAmounts (s : State) (p : Nat) (b : Bool) : SameAmounts s (s.queueClock p b) :=
  (State.queueClock_only s p b (List.Subset.refl _) (.refl _ _)).sameAmounts (by decide)

theorem State.endPresent_sameAmounts (s : State) (p : Nat) : SameAmounts s (s.endPresent p) := by
  have hfinish := State.finish_handIn_sameAmounts s p
  unfold State.endPresent
  dsimp only
  refine .trans ?_ (State.tellEnd_sameAmounts _ p)
  split
  · exact hfinish.trans ((State.requestVacate_only _ _ (List.Subset.refl _) (.refl _ _)).sameAmounts (by decide))
  · exact hfinish

theorem State.endDisplaced_sameAmounts (s : State) (p : Nat) : SameAmounts s (s.endDisplaced p) :=
  (State.finish_handIn_sameAmounts s p).trans ((State.endNeed_sameAmounts _ p).trans
    ((State.releaseHeld_sameAmounts _ p).trans ((State.tellEnd_sameAmounts _ p).trans
      ((State.checkRun_only _ (List.Subset.refl _) (.refl _ _)).sameAmounts (by decide)))))

theorem State.expire_sameAmounts (s : State) (p : Nat) : SameAmounts s (s.expire p) := by
  unfold State.expire
  split
  · split
    · exact (State.endPresent_sameAmounts s p).trans (State.queueClock_sameAmounts _ _ _)
    · exact State.endDisplaced_sameAmounts s p
    · exact (State.modEntry_sameAmounts s p (f := endClock) fun _ => rfl).trans (State.tellEnd_sameAmounts _ p)
  · exact .refl s

theorem State.queueWarn_sameAmounts (s : State) (e : Entry) (m : Nat) : SameAmounts s (s.queueWarn e m) :=
  (State.queueWarn_only s e m (List.Subset.refl _) (.refl _ _)).sameAmounts (by decide)

theorem State.fireWarnings_sameAmounts (s : State) (p : Nat) : SameAmounts s (s.fireWarnings p) := by
  have hfirst (v : State) (e : Entry) : SameAmounts v ((v.modEntry p fun e => { e with warned1 := true }).queueWarn e 1) :=
    (State.modEntry_sameAmounts v p (f := fun e => { e with warned1 := true }) fun _ => rfl).trans
      (State.queueWarn_sameAmounts _ _ _)
  have hsecond (v : State) (e : Entry) : SameAmounts v ((v.modEntry p fun e => { e with warned2 := true }).queueWarn e 2) :=
    (State.modEntry_sameAmounts v p (f := fun e => { e with warned2 := true }) fun _ => rfl).trans
      (State.queueWarn_sameAmounts _ _ _)
  unfold State.fireWarnings
  split
  · next e _ =>
    have h1 : SameAmounts s (if markFires (s.sitting e.sitting).defn.warning1 e.remaining e.warned1 then
        (s.modEntry p fun e => { e with warned1 := true }).queueWarn e 1 else s) := .ite (hfirst s e) (.refl s)
    exact .ite (.ite (h1.trans (hsecond _ e)) h1) (.refl s)
  · exact .refl s

theorem State.afterRebudget_sameAmounts (s : State) (p : Nat) : SameAmounts s (s.afterRebudget p) := by
  unfold State.afterRebudget
  split
  · refine .ite (.ite (State.expire_sameAmounts s p) ?_) (.refl s)
    exact .ite ((State.fireWarnings_sameAmounts s p).trans (State.queueClock_sameAmounts _ _ _))
      (State.fireWarnings_sameAmounts s p)
  · exact .refl s

theorem State.endRest_sameAmounts (s : State) (p : Nat) : SameAmounts s (s.endRest p) :=
  (State.modEntry_sameAmounts s p (f := fun e => { e with resting := false }) fun _ => rfl).trans
    (State.queueClock_sameAmounts _ _ _)

/-! ### AMEND -/

theorem clampNat_zero (hi v : Nat) : clampNat 0 hi v = min hi v := Nat.max_eq_right (Nat.zero_le _)

/-- The entry with a new allowance and its budget recomputed (R14, R85). -/
def reallowed (w : Nat) (a : Option Nat) (e : Entry) : Entry :=
  match a with
  | none => e
  | some v => rebudget w { e with allowance := clampNat 0 100 v }

/-- The entry with a new rest allowance (R14). -/
def rerested (r : Option Nat) (e : Entry) : Entry :=
  match r with
  | none => e
  | some v => { e with restAllowance := restWritten e.restUsed v }

theorem rerested_amounts {y z : Entry} (h : y.amounts = z.amounts) (r : Option Nat) :
    (rerested r y).amounts = (rerested r z).amounts := by
  cases r with
  | none => exact h
  | some v => simp_all [rerested, Entry.amounts, identity]

theorem State.amendAllowance_entry (hs : s.RosterOrdered) (he : s.entry? p = some e) (a : Option Nat) :
    (s.amendAllowance p a).RosterOrdered ∧ ∃ x, (s.amendAllowance p a).entry? p = some x
      ∧ x.amounts = (reallowed (s.sitting e.sitting).defn.writing a e).amounts := by
  cases a with
  | none => exact ⟨hs, e, he, rfl⟩
  | some v =>
    unfold State.amendAllowance
    rw [he]
    dsimp only
    have hro : (s.modEntry p fun y => rebudget (s.sitting e.sitting).defn.writing
        { y with allowance := clampNat 0 100 v }).RosterOrdered :=
      State.rosterOrdered_of_identities (State.modEntry_identities _ fun _ => rfl) hs
    have hkeep := State.afterRebudget_sameAmounts (s.modEntry p fun y => rebudget (s.sitting e.sitting).defn.writing
      { y with allowance := clampNat 0 100 v }) p
    refine ⟨hkeep.rosterOrdered hro, hkeep.entry? hro ?_⟩
    rw [State.entry?_modEntry _ (by intro; rfl), if_pos rfl, he]; rfl

theorem State.amendRest_entry (hs : s.RosterOrdered) (he : s.entry? p = some e) (r : Option Nat) :
    (s.amendRest p r).RosterOrdered ∧ ∃ x, (s.amendRest p r).entry? p = some x ∧ x.amounts = (rerested r e).amounts := by
  cases r with
  | none => exact ⟨hs, e, he, rfl⟩
  | some v =>
    unfold State.amendRest
    rw [he]
    dsimp only
    have hro : (s.modEntry p fun y => { y with restAllowance := restWritten y.restUsed v }).RosterOrdered :=
      State.rosterOrdered_of_identities (State.modEntry_identities _ fun _ => rfl) hs
    have hentry : (s.modEntry p fun y => { y with restAllowance := restWritten y.restUsed v }).entry? p
        = some (rerested (some v) e) := by
      rw [State.entry?_modEntry _ (by intro; rfl), if_pos rfl, he]; rfl
    split
    · have hkeep := State.endRest_sameAmounts
        (s.modEntry p fun y => { y with restAllowance := restWritten y.restUsed v }) p
      exact ⟨hkeep.rosterOrdered hro, hkeep.entry? hro hentry⟩
    · exact ⟨hro, _, hentry, rfl⟩

theorem State.byNumber?_of_mem (hs : s.RosterOrdered) (h : e ∈ s.roster.entries) : s.byNumber? e.number = some e := by
  obtain ⟨hnumbers, -, -⟩ := hs
  unfold State.byNumber?
  generalize s.roster.entries = l at h hnumbers
  induction l with
  | nil => cases h
  | cons x l ih =>
    rw [List.map_cons, List.pairwise_cons] at hnumbers
    rcases List.mem_cons.1 h with rfl | h
    · simp
    · have hne : x.number ≠ e.number := Nat.ne_of_lt (hnumbers.1 _ (List.mem_map_of_mem h))
      simpa [hne] using ih h hnumbers.2

/-- The part that AMEND leaves of a request in order. -/
def State.amended (s : State) (e : Entry) (needs : Option CapSet) (a r : Option Nat) : State :=
  ((s.modEntry e.slot fun e => { e with needs := needs.getD e.needs }).amendAllowance e.slot a).amendRest e.slot r

theorem State.amended_entry (hs : s.RosterOrdered) (he : s.entry? e.slot = some e) (needs : Option CapSet) (a r : Option Nat) :
    (s.amended e needs a r).RosterOrdered ∧ ∃ x, (s.amended e needs a r).entry? e.slot = some x
      ∧ x.amounts = (rerested r (reallowed (s.sitting e.sitting).defn.writing a
          { e with needs := needs.getD e.needs })).amounts := by
  have hneeds : (s.modEntry e.slot fun e => { e with needs := needs.getD e.needs }).entry? e.slot
      = some { e with needs := needs.getD e.needs } := by
    rw [State.entry?_modEntry _ (by intro; rfl), if_pos rfl, he]; rfl
  have hro : (s.modEntry e.slot fun e => { e with needs := needs.getD e.needs }).RosterOrdered :=
    State.rosterOrdered_of_identities (State.modEntry_identities _ fun _ => rfl) hs
  obtain ⟨hro, y, hy, hya⟩ := State.amendAllowance_entry hro hneeds a
  obtain ⟨hro, x, hx, hxa⟩ := State.amendRest_entry hro hy r
  exact ⟨hro, x, hx, hxa.trans (rerested_amounts hya r)⟩

theorem execAmend_carries {n : Nat} {needs : Option CapSet} {a r : Option Nat} (hready : s.Ready .amend)
    (he : s.byNumber? n = some e) (hgiven : needs.isSome ∨ a.isSome ∨ r.isSome)
    (hclock : a.isSome ∨ r.isSome → e.clock ≠ .ended) (hneeds : s.needsRefused e needs = false) :
    let u := (s.startTask (taskCode .amend)).amended e needs a r
    exec (.amend n needs a r) s = .next (u.finishTask .ok (amendClamps e a r) (u.amendReport e.slot)) := by
  have hbody : (s.startTask (taskCode .amend)).byNumber? n = some e := he
  have hsome : (needs.isNone && a.isNone && r.isNone) = false := by
    cases needs <;> cases a <;> cases r <;> simp_all
  have hruns : ((a.isSome || r.isSome) && decide (e.clock = .ended)) = false := by
    by_cases h : a.isSome ∨ r.isSome
    · simp [hclock h]
    · simp_all
  have hneeds' : (s.startTask (taskCode .amend)).needsRefused e needs = false := hneeds
  refine (task_next hready).trans ?_
  simp only [hbody, hsome, hruns, hneeds', Bool.false_eq_true, if_false]
  rfl

/-- Settles O26: the amounts of the entry are followed through the two amendments; whatever the new budget or rest
allowance ends or fires keeps the amounts of every entry. -/
theorem amendWritesFacets : Obligations.AmendWritesFacets := by
  unfold Obligations.AmendWritesFacets
  intro s n e needs a r hready hs he hgiven hclock hneeds
  have hexec := execAmend_carries hready he hgiven hclock hneeds
  have hslot : (s.startTask (taskCode .amend)).entry? e.slot = some e := State.entry?_of_byNumber? hs he
  obtain ⟨hro, x, hx, hamounts⟩ := State.amended_entry (s := s.startTask (taskCode .amend)) hs hslot needs a r
  have hnumber : x.number = n := by
    have hid : identity x = identity e :=
      (congrArg Prod.fst hamounts).trans (by cases a <;> cases r <;> rfl)
    rw [← State.number_of_byNumber? he]; exact congrArg (fun i => i.2.1) hid
  have hfound := State.byNumber?_of_mem hro (State.mem_of_entry? hx)
  rw [hnumber] at hfound
  simp only [Entry.amounts, Prod.mk.injEq] at hamounts
  obtain ⟨hid, hneeds, hallow, hrest, hbudget, hused, hrestUsed, hsum⟩ := hamounts
  refine ⟨_, x, hexec, rfl, rfl, hfound, hid.trans ?_, hneeds.trans ?_, hallow.trans ?_, hrest.trans ?_, ?_,
    hused.trans ?_, hrestUsed.trans ?_, hsum.trans ?_, execAmend_only hexec⟩
  case refine_5 =>
    rw [hbudget, hallow]
    cases a <;> cases r <;> rfl
  case refine_3 => cases a <;> cases r <;> simp [rerested, reallowed, rebudget, clampNat_zero]
  case refine_4 => cases a <;> cases r <;> simp [rerested, reallowed, rebudget, restWritten, clampNat_zero]
  all_goals cases a <;> cases r <;> rfl

end Sys2Proof.Machine

namespace Sys2Proof.Machine

variable {s t u : State} {e x : Entry} {z v : Nat} {n : Bool}

/-! ### What a frame leaves of a record -/

theorem OnlyChanges.seat {bs : List Part} (h : OnlyChanges bs s t) (hb : Part.seats ∉ bs) (d : Nat) :
    t.seat d = s.seat d := by
  have hseats : t.seatMap.seats = s.seatMap.seats := h.rest .seats hb
  unfold State.seat; rw [hseats]

theorem OnlyChanges.sitting {bs : List Part} (h : OnlyChanges bs s t) (hb : Part.sittings ∉ bs) (k : Nat) :
    t.sitting k = s.sitting k := by
  have hsittings : t.control.sittings = s.control.sittings := h.rest .sittings hb
  unfold State.sitting; rw [hsittings]

/-! ### The slots and the links of the lines -/

/-- Every line keeps its slot and its link records. -/
def SameLinks (s t : State) : Prop := ∀ z, (t.line z).slot = (s.line z).slot ∧ (t.line z).links = (s.line z).links

theorem SameLinks.refl (s : State) : SameLinks s s := fun _ => ⟨rfl, rfl⟩

theorem SameLinks.trans (h : SameLinks s t) (g : SameLinks t u) : SameLinks s u := fun z =>
  ⟨(g z).1.trans (h z).1, (g z).2.trans (h z).2⟩

theorem SameLinks.ite {c : Prop} [Decidable c] (h : SameLinks s t) (g : SameLinks s u) :
    SameLinks s (if c then t else u) := by split <;> assumption

theorem SameLinks.foldl {β : Type} {f : State → β → State} (l : List β) (hf : ∀ u x, SameLinks u (f u x)) (s : State) :
    SameLinks s (l.foldl f s) := by
  induction l generalizing s with
  | nil => exact .refl s
  | cons x l ih => exact (hf s x).trans (ih _)

theorem SameLinks.of_lines (h : t.lines = s.lines) : SameLinks s t := fun z => by
  have hline : t.line z = s.line z := congrArg (fun l => Table.read ({} : Line) l z) h
  rw [hline]; exact ⟨rfl, rfl⟩

theorem SameLinks.linkRecord (h : SameLinks s t) (z v : Nat) : t.linkRecord z v = s.linkRecord z v := by
  unfold State.linkRecord; rw [(h z).2]

theorem State.setQueue_sameLinks (s : State) (z : Nat) (q : List QEntry) : SameLinks s (s.setQueue z q) := fun y => by
  unfold State.setQueue
  rw [State.line_setLine]
  split
  · next h => subst h; exact ⟨rfl, rfl⟩
  · exact ⟨rfl, rfl⟩

theorem State.raise_sameLinks (s : State) (k : NoticeKind) (x : Subject) : SameLinks s (s.raise k x) := .of_lines rfl

theorem State.hand_sameLinks (s : State) (z v : Nat) (b : Bool) (m : Msg) : SameLinks s (s.hand z v b m) := by
  unfold State.hand
  dsimp only
  refine .ite (State.setQueue_sameLinks _ _ _) (.ite (State.setQueue_sameLinks _ _ _) (.ite ?_ (.ite (.refl s)
    (State.raise_sameLinks _ _ _))))
  split
  · exact (State.setQueue_sameLinks _ _ _).trans (State.raise_sameLinks _ _ _)
  · exact State.raise_sameLinks _ _ _

theorem State.rehand_sameLinks (s : State) (z : Nat) : SameLinks s (s.rehand z) :=
  .foldl _ (fun w o => .ite (.refl w) (by
    unfold State.handOffer
    split
    · exact State.hand_sameLinks _ _ _ _ _
    · exact .refl w)) s

theorem State.leaveQueue_sameLinks (s : State) (z : Nat) (q : List QEntry) : SameLinks s (s.leaveQueue z q) :=
  .ite ((State.setQueue_sameLinks s z q).trans (State.rehand_sameLinks _ z)) (State.setQueue_sameLinks s z q)

theorem State.queueClock_sameLinks (s : State) (p : Nat) (b : Bool) : SameLinks s (s.queueClock p b) := by
  unfold State.queueClock
  split
  · exact .refl s
  · split
    · exact .refl s
    · exact .ite (State.hand_sameLinks _ _ _ _ _) (.refl s)

theorem State.answerDesk_sameLinks (s : State) (d : Nat) (k : EventKind) (m : Nat) (w : DeskVerdict) :
    SameLinks s (s.answerDesk d k m w) := State.hand_sameLinks _ _ _ _ _

theorem SameLinks.heard (h : SameLinks s t) (hs : s.Heard z v n) : t.Heard z v n := by
  unfold State.Heard at hs ⊢
  rw [(h z).1, h.linkRecord]; exact hs

/-! ### An event that is taken -/

/-- The part on which the body of an event runs that unit `v` answers with a new event number (R127, R131, R134). -/
def State.taken (s : State) (z v : Nat) (n : Bool) : State :=
  (((s.endGood z).setLinkRecord z v { s.linkRecord z v with misses := 0 })).setLinkRecord z v
    { s.linkRecord z v with misses := 0, lastTaken := some n }

theorem State.endGood_ends (s : State) (z : Nat) :
    ((s.endGood z).line z).slot = .idle ∧ ∀ y w, (s.endGood z).linkRecord y w = s.linkRecord y w := by
  have hqueue := State.leaveQueue_sameLinks (s.setSlot z .idle) z
    (((s.line z).queue.filter fun x => !x.inSlot || x.replaced).map unslotted)
  refine ⟨(hqueue z).1.trans ?_, fun y w => (hqueue.linkRecord y w).trans ?_⟩
  · unfold State.setSlot; rw [State.line_setLine, if_pos rfl]
  · unfold State.linkRecord State.setSlot
    rw [State.line_setLine]
    split
    · next h => subst h; rfl
    · rfl

theorem State.slot_setLinkRecord (s : State) (z v : Nat) (r : LinkRecord) (y : Nat) :
    ((s.setLinkRecord z v r).line y).slot = (s.line y).slot := by
  unfold State.setLinkRecord
  rw [State.line_setLine]
  split
  · next h => subst h; rfl
  · rfl

theorem State.taken_heard (h : (s.linkRecord z v).state = .up) : (s.taken z v n).Heard z v n := by
  have hrecord : (s.taken z v n).linkRecord z v = { s.linkRecord z v with misses := 0, lastTaken := some n } := by
    unfold State.taken; rw [State.linkRecord_setLinkRecord, if_pos ⟨rfl, rfl⟩]
  unfold State.Heard
  rw [hrecord]
  refine ⟨?_, rfl, rfl, h⟩
  unfold State.taken
  rw [State.slot_setLinkRecord, State.slot_setLinkRecord]
  exact (State.endGood_ends s z).1

theorem State.taken_only (s : State) (z v : Nat) (n : Bool) : OnlyChanges tellingParts s (s.taken z v n) := by
  have hrecord := (State.endGood_ends s z).2 z v
  have hgood : OnlyChanges tellingParts s (s.endGood z) := State.endGood_only s z (List.Subset.refl _) (.refl _ _)
  unfold State.taken
  refine State.setLinkRecord_only _ z v _ ?_ (by decide) (State.setLinkRecord_only _ z v _ ?_ (by decide) hgood)
  · rw [State.linkRecord_setLinkRecord, if_pos ⟨rfl, rfl⟩]
  · rw [hrecord]

/-- A desk's event with a new number runs its body on the part that has heard it. -/
theorem State.deskEvent_taken (hv : v < Config.zoneSeats) (h : s.Hears z v n) (body : Nat → State → State) :
    (Host.Outcome.next (s.whileOn fun s => s.deskEvent z v n body) : Result) = .next (body (seatOf z v) (s.taken z v n)) := by
  obtain ⟨hon, hwindow, hup, hjoined, hnew⟩ := h
  obtain ⟨f, hf, hprobe⟩ := Option.map_eq_some_iff.1 hwindow
  have hrecord := (State.endGood_ends s z).2 z v
  unfold State.whileOn State.deskEvent State.takeEvent State.answer State.countGood
  simp only [hon, hf, hprobe, hrecord, hup, hjoined, hnew, isDesk, hv, State.linkRecord_setLinkRecord, State.taken,
    decide_true, ne_eq, not_false_eq_true, Bool.not_false, Bool.and_self, if_true, Bool.false_eq_true, if_false, and_self]

end Sys2Proof.Machine

namespace Sys2Proof.Machine

variable {s t u v : State} {e x : Entry} {p m : Nat}

/-! ### Entries by number -/

theorem State.byNumber?_modEntry (s : State) (p : Nat) (f : Entry → Entry) (hf : ∀ e, (f e).number = e.number) (m : Nat) :
    (s.modEntry p f).byNumber? m = (s.byNumber? m).map fun e => if e.slot = p then f e else e := by
  have hpred : ((fun e : Entry => e.number == m) ∘ fun e => if e.slot = p then f e else e) = fun e => e.number == m := by
    funext e
    simp only [Function.comp]
    split <;> simp [hf]
  simp only [State.byNumber?, State.modEntry, State.setEntries_roster, List.find?_map, hpred]

theorem State.byNumber?_modEntry_other (hs : s.RosterOrdered) (he : s.byNumber? p = some e) (f : Entry → Entry)
    (hf : ∀ e, (f e).number = e.number) (hm : m ≠ p) : (s.modEntry e.slot f).byNumber? m = s.byNumber? m := by
  rw [State.byNumber?_modEntry s e.slot f hf]
  cases hy : s.byNumber? m with
  | none => rfl
  | some y =>
    have hslot : y.slot ≠ e.slot := fun h => hm (by
      have hsame := State.entry?_of_byNumber? hs hy
      rw [h, State.entry?_of_byNumber? hs he] at hsame
      cases hsame
      rw [← State.number_of_byNumber? hy, State.number_of_byNumber? he])
    simp [hslot]

theorem State.byNumber?_congr (h : t.roster.entries = s.roster.entries) (m : Nat) : t.byNumber? m = s.byNumber? m := by
  unfold State.byNumber?; rw [h]

/-! ### An accepted CHECKIN (R89) -/

theorem State.count_roster (s : State) (p : Nat) (f : Sitting → Sitting) : (s.count p f).roster = s.roster := by
  unfold State.count; split <;> rfl

theorem State.requestOccupy_roster (s : State) (d : Nat) : (s.requestOccupy d).roster = s.roster := by
  unfold State.requestOccupy; split <;> rfl

theorem State.requestOccupy_sitting (s : State) (d k : Nat) : (s.requestOccupy d).sitting k = s.sitting k := by
  unfold State.requestOccupy; split <;> rfl

theorem State.requestOccupy_tenure {d : Nat} (h : (s.seat d).tenure = .held p) :
    ((s.requestOccupy d).seat d).tenure = .occupied p := by
  unfold State.requestOccupy
  rw [h]
  dsimp only
  rw [State.seat_setSeat, if_pos rfl]

theorem State.sitting_count (he : s.entry? p = some e) (f : Sitting → Sitting) :
    (s.count p f).sitting e.sitting = f (s.sitting e.sitting) := by
  unfold State.count
  rw [he]
  dsimp only [State.modSitting]
  rw [State.sitting_setSitting, if_pos rfl]

theorem State.slotOfTag?_issueTag {tag : Nat} (h : s.slotOfTag? tag = none) (p : Nat) :
    (s.issueTag p tag).slotOfTag? tag = some p := by
  have hnone : s.roster.tags.find? (fun q => q.1 == tag) = none := by simpa [State.slotOfTag?] using h
  simp only [State.slotOfTag?, State.issueTag, State.modEntry, State.setEntries_roster, List.find?_append, hnone]
  simp

theorem State.issueTag_entries (s : State) (p tag : Nat) : (s.issueTag p tag).roster.entries
    = (s.modEntry p fun e => { e with tag := some tag, custody := .issued }).roster.entries := rfl

/-- The entry an accepted CHECKIN leaves, by the candidate's presence before it (R89). -/
def admitted (presence : Presence) (tag : Nat) (e : Entry) : Entry :=
  match presence with
  | .expected => checkedIn tag e
  | .displaced => { e with presence := .present, displacedCause := false }
  | _ => e

theorem number_admitted (c : Presence) (tag : Nat) (e : Entry) : (admitted c tag e).number = e.number := by cases c <;> rfl

theorem State.acceptCheckin_entries (s : State) (d : Nat) (e : Entry) (tag : Nat) :
    (s.acceptCheckin d e tag).roster.entries = (s.modEntry e.slot (admitted e.presence tag)).roster.entries := by
  unfold State.acceptCheckin State.modEntry
  split
  · next hp =>
    rw [State.count_roster]
    simp only [State.setEntries_roster, State.requestOccupy_roster, State.issueTag_entries, State.modEntry, List.map_map, hp]
    refine List.map_congr_left fun y _ => ?_
    by_cases hy : y.slot = e.slot <;> simp [hy, admitted, checkedIn]
  · next hp => simp only [State.setEntries_roster, State.requestOccupy_roster, hp, admitted]
  · next hexp hdis =>
    have hid : admitted e.presence tag = id := by funext y; cases hp : e.presence <;> simp_all [admitted]
    simp [hid]

theorem State.acceptCheckin_candidate (he : s.byNumber? m = some e) (d tag : Nat) :
    (s.acceptCheckin d e tag).byNumber? m = some (admitted e.presence tag e) := by
  rw [State.byNumber?_congr (State.acceptCheckin_entries s d e tag),
    State.byNumber?_modEntry _ _ _ (number_admitted _ _), he]
  simp

theorem State.acceptCheckin_others (hs : s.RosterOrdered) (he : s.byNumber? m = some e) (d tag : Nat) {j : Nat}
    (hj : j ≠ m) : (s.acceptCheckin d e tag).byNumber? j = s.byNumber? j :=
  (State.byNumber?_congr (State.acceptCheckin_entries s d e tag) j).trans
    (State.byNumber?_modEntry_other hs he _ (number_admitted _ _) hj)

theorem State.acceptCheckin_issues (hs : s.RosterOrdered) (he : s.byNumber? m = some e) {d tag : Nat}
    (hp : e.presence = .expected) (htag : s.slotOfTag? tag = none) :
    (s.acceptCheckin d e tag).slotOfTag? tag = some e.slot
      ∧ ((s.acceptCheckin d e tag).sitting e.sitting).present = (s.sitting e.sitting).present + 1 := by
  have htagged : ((s.issueTag e.slot tag).requestOccupy d).slotOfTag? tag = some e.slot := by
    unfold State.slotOfTag?
    rw [State.requestOccupy_roster]
    exact State.slotOfTag?_issueTag htag _
  have hentry : (((s.issueTag e.slot tag).requestOccupy d).modEntry e.slot fun e => { e with presence := .present }).entry?
      e.slot = some (checkedIn tag e) := by
    have hissued : ((s.issueTag e.slot tag).requestOccupy d).entry? e.slot
        = some { e with tag := some tag, custody := .issued } := by
      have hroster : ((s.issueTag e.slot tag).requestOccupy d).entry? e.slot
          = (s.modEntry e.slot fun e => { e with tag := some tag, custody := .issued }).entry? e.slot := by
        unfold State.entry?; rw [State.requestOccupy_roster]; rfl
      rw [hroster, State.entry?_modEntry _ (by intro; rfl), if_pos rfl, State.entry?_of_byNumber? hs he]; rfl
    rw [State.entry?_modEntry _ (by intro; rfl), if_pos rfl, hissued]; rfl
  unfold State.acceptCheckin
  rw [hp]
  dsimp only
  constructor
  · unfold State.slotOfTag?
    rw [State.count_roster]
    exact htagged
  · have hcount := State.sitting_count hentry addPresent
    refine (congrArg Sitting.present hcount).trans ?_
    rw [State.sitting_modEntry, State.requestOccupy_sitting]; rfl

theorem State.acceptCheckin_occupies (s : State) {d q : Nat} (e : Entry) (tag : Nat)
    (hp : e.presence = .expected ∨ e.presence = .displaced) (h : (s.seat d).tenure = .held q) :
    ((s.acceptCheckin d e tag).seat d).tenure = .occupied q := by
  unfold State.acceptCheckin
  rcases hp with hp | hp <;> rw [hp] <;> dsimp only
  · rw [State.seat_count, State.seat_modEntry]
    exact State.requestOccupy_tenure (s := s.issueTag e.slot tag) h
  · exact State.requestOccupy_tenure h

/-! ### The verdict on a CHECKIN -/

theorem State.judgeCheckin_congr (h : OnlyChanges tellingParts s t) (d : Nat) (e : Entry) (tag : Nat) :
    t.judgeCheckin d e tag = s.judgeCheckin d e tag := by
  have hsittings : t.control.sittings = s.control.sittings := h.rest .sittings (by decide)
  have hseats : t.seatMap.seats = s.seatMap.seats := h.rest .seats (by decide)
  have htags : t.roster.tags = s.roster.tags := h.rest .tags (by decide)
  unfold State.judgeCheckin State.checkinSeat State.tagRefused State.slotOfTag? State.seat State.sitting
  rw [hsittings, hseats, htags]

theorem State.checkin_accepted (he : s.byNumber? m = some e) {d tag : Nat} (hj : s.judgeCheckin d e tag = .accepted) :
    s.checkin d m tag = ((s.acceptCheckin d e tag).answerDesk d .checkin m .accepted).queueClock e.slot true := by
  unfold State.checkin
  simp only [he, hj]

theorem State.checkin_refused (he : s.byNumber? m = some e) {d tag : Nat} (hj : s.judgeCheckin d e tag ≠ .accepted) :
    s.checkin d m tag = s.answerDesk d .checkin m (s.judgeCheckin d e tag) := by
  unfold State.checkin
  simp only [he]

theorem State.checkin_accepted_entry (hs : s.RosterOrdered) (he : s.byNumber? m = some e) {d tag : Nat}
    (hj : s.judgeCheckin d e tag = .accepted) :
    let t := s.checkin d m tag
    t.byNumber? m = some (admitted e.presence tag e)
      ∧ (e.presence = .expected → t.slotOfTag? tag = some e.slot
        ∧ (t.sitting e.sitting).present = (s.sitting e.sitting).present + 1)
      ∧ (∀ q, (s.seat d).tenure = .held q → (t.seat d).tenure = .occupied q)
      ∧ ∀ j, j ≠ m → t.byNumber? j = s.byNumber? j := by
  obtain ⟨-, -, -, -, hseat, hfree, -⟩ := State.judgeCheckin_accepted hj
  obtain ⟨-, hten⟩ := State.checkinSeat_eq hseat
  have htold : OnlyChanges tellingParts (s.acceptCheckin d e tag) (s.checkin d m tag) := by
    rw [State.checkin_accepted he hj]
    exact State.queueClock_only _ _ _ (List.Subset.refl _) (State.answerDesk_only _ _ _ _ _ (List.Subset.refl _) (.refl _ _))
  have hentries : (s.checkin d m tag).roster.entries = (s.acceptCheckin d e tag).roster.entries :=
    htold.rest .entries (by decide)
  have htags : (s.checkin d m tag).roster.tags = (s.acceptCheckin d e tag).roster.tags := htold.rest .tags (by decide)
  refine ⟨?_, fun hp => ?_, fun q hq => ?_, fun j hne => ?_⟩
  · exact (State.byNumber?_congr hentries m).trans (State.acceptCheckin_candidate he d tag)
  · have hnone : s.slotOfTag? tag = none := by
      have hok := hfree hp
      unfold State.tagRefused at hok
      simp_all
    obtain ⟨htag, hpresent⟩ := State.acceptCheckin_issues hs he (d := d) hp hnone
    refine ⟨?_, by rw [htold.sitting (by decide)]; exact hpresent⟩
    unfold State.slotOfTag? at htag ⊢
    rw [htags]; exact htag
  · have hp : e.presence = .expected ∨ e.presence = .displaced := by
      rcases hten with ⟨-, w, hw⟩ | ⟨hp, -⟩
      · rw [hq] at hw; cases hw
      · exact hp
    rw [htold.seat (by decide)]
    exact State.acceptCheckin_occupies s e tag hp hq
  · exact (State.byNumber?_congr hentries j).trans (State.acceptCheckin_others hs he d tag hne)

theorem State.checkin_sameLinks (s : State) (d m tag : Nat) : SameLinks s (s.checkin d m tag) := by
  unfold State.checkin
  split
  · exact State.answerDesk_sameLinks _ _ _ _ _
  · next e _ =>
    have haccept : SameLinks s (s.acceptCheckin d e tag) :=
      .of_lines ((State.acceptCheckin_only s d e tag (List.Subset.refl _) (.refl _ _)).rest .lines (by decide))
    split
    · exact haccept.trans ((State.answerDesk_sameLinks _ _ _ _ _).trans (State.queueClock_sameLinks _ _ _))
    · exact State.answerDesk_sameLinks _ _ _ _ _

/-- Settles O48: the event runs on the part that has heard it, which differs in lines and notices alone; there the
CHECKIN is judged, and an accepted one writes the candidate's entry by its presence. -/
theorem checkinAdmits : Obligations.CheckinAdmits := by
  unfold Obligations.CheckinAdmits
  intro s z v n number tag e hv hears hs he
  have hexec : exec (.checkin z v n number tag) s = .next ((s.taken z v n).checkin (seatOf z v) number tag) :=
    State.deskEvent_taken hv hears _
  have htaken := State.taken_only s z v n
  have hheard := (State.checkin_sameLinks (s.taken z v n) (seatOf z v) number tag).heard
    (State.taken_heard (n := n) hears.2.2.1)
  have hentries : (s.taken z v n).roster.entries = s.roster.entries := htaken.rest .entries (by decide)
  have hsame (j : Nat) : (s.taken z v n).byNumber? j = s.byNumber? j := State.byNumber?_congr hentries j
  have hordered : (s.taken z v n).RosterOrdered := State.rosterOrdered_of_identities (by rw [hentries]) hs
  have he' := (hsame number).trans he
  have hjudge := State.judgeCheckin_congr htaken (seatOf z v) e tag
  refine ⟨fun hj => ?_, fun hj => ⟨_, hexec, hheard, ?_⟩⟩
  · obtain ⟨hcame, hstays, -⟩ := State.judgeCheckin_accepted hj
    obtain ⟨hx, hissue, hocc, hothers⟩ := State.checkin_accepted_entry hordered he' (hjudge.trans hj)
    rw [htaken.seat (by decide)] at hocc
    rw [htaken.sitting (by decide)] at hissue
    refine ⟨_, _, hexec, hheard, hx, ?_, fun hp => ?_, fun hp => ?_, hocc,
      fun j hne => (hothers j hne).trans (hsame j), execCheckin_only hexec⟩
    · cases hp : e.presence <;> simp_all [admitted, checkedIn]
    · rw [hp]; exact ⟨rfl, rfl, hissue hp⟩
    · rw [hp]; exact ⟨rfl, rfl, rfl⟩
  · rw [State.checkin_refused he' (by rwa [hjudge])]
    exact State.answerDesk_only _ _ _ _ _ (List.Subset.refl _) htaken

end Sys2Proof.Machine

namespace Sys2Proof.Machine

variable {s t u : State} {e x : Entry} {k m n : Nat} {p : EnrolEntry}

/-! ### Enrolment with room -/

theorem State.freeSlot_of_room (h : s.roster.entries.length < Config.slots) : ∃ i, s.freeSlot = some i := by
  refine Option.isSome_iff_exists.1 ?_
  by_contra hnone
  have hfull : List.range Config.slots ⊆ s.roster.entries.map Entry.slot := fun i hi => by
    have hnot : s.freeSlot = none := by simpa using hnone
    unfold State.freeSlot at hnot
    have htaken : s.entry? i ≠ none := by simpa using List.find?_eq_none.1 hnot i hi
    obtain ⟨x, hx⟩ := Option.ne_none_iff_exists'.1 htaken
    rw [← State.slot_of_entry? hx]
    exact List.mem_map_of_mem (State.mem_of_entry? hx)
  have hle := (List.nodup_range.subperm hfull).length_le
  rw [List.length_range, List.length_map] at hle
  omega

theorem find?_insertEntry (l : List Entry) (e : Entry) {n : Nat} (hnew : e.number = n → l.find? (fun x => x.number == n) = none) :
    (insertEntry e l).find? (fun x => x.number == n) = if e.number = n then some e else l.find? fun x => x.number == n := by
  induction l with
  | nil => by_cases h : e.number = n <;> simp [insertEntry, h]
  | cons x l ih =>
    by_cases h : e.number = n
    · have hrest := hnew h
      rw [List.find?_cons] at hrest
      split at hrest
      · cases hrest
      · next hx =>
        unfold insertEntry
        rw [if_pos h] at ih ⊢
        split
        · simp [h]
        · rw [List.find?_cons, hx]; exact ih fun _ => hrest
    · rw [if_neg h] at ih ⊢
      unfold insertEntry
      split
      · simp [h]
      · rw [List.find?_cons, List.find?_cons, ih fun g => absurd g h]

/-- A candidate is entered with a new number: it alone is added (R7). -/
theorem State.byNumber?_insertEntry (hnew : s.byNumber? e.number = none) (n : Nat) :
    (s.setEntries (insertEntry e s.roster.entries)).byNumber? n = if e.number = n then some e else s.byNumber? n := by
  unfold State.byNumber? at hnew ⊢
  rw [State.setEntries_roster]
  exact find?_insertEntry _ _ fun h => h ▸ hnew

theorem budgetOf_new (w a : Nat) : budgetOf w (clampNat 0 100 a) 0 0 = min 57600 (w + (w * min 100 a + 99) / 100) := by
  simp only [clampNat_zero, budgetOf, clampInt, budgetFormula, ceilDiv, Config.lastBudget]
  omega

/-- The entry that ENROL makes of a valid request (R3, R4, R6). -/
def enrolled (k slot w : Nat) (p : EnrolEntry) : Entry :=
  { slot := slot, number := p.number, sitting := k, needs := p.needs, allowance := min 100 p.allowance,
    restAllowance := min 3600 p.restAllowance, budget := min 57600 (w + (w * min 100 p.allowance + 99) / 100) }

theorem newEntry_eq (k slot w : Nat) (p : EnrolEntry) : newEntry k slot w p = enrolled k slot w p := by
  unfold newEntry enrolled
  rw [budgetOf_new, clampNat_zero, clampNat_zero]

/-- What one request does when there is room: refused, it changes nothing, and its number is invalid or known; entered,
it adds its entry in a free slot and counts it. -/
theorem State.enrolOne_room (h : s.roster.entries.length < Config.slots) (k : Nat) (p : EnrolEntry) :
    ((s.enrolOne k p).1 = s ∧ (s.enrolOne k p).2 ≠ .ok ∧ (badNumber p.number = true ∨ (s.byNumber? p.number).isSome))
      ∨ ∃ i, i < Config.slots ∧ s.entry? i = none ∧ badNumber p.number = false ∧ s.byNumber? p.number = none
        ∧ (s.enrolOne k p).2 = .ok
        ∧ (s.enrolOne k p).1 = (s.setEntries (insertEntry (enrolled k i (s.sitting k).defn.writing p) s.roster.entries)).modSitting k
          fun r => { r with enrolled := r.enrolled + 1 } := by
  obtain ⟨i, hi⟩ := State.freeSlot_of_room h
  obtain ⟨hslot, hfree⟩ := State.freeSlot_spec hi
  cases hb : badNumber p.number with
  | true =>
    have heq : s.enrolOne k p = (s, .badParam) := by unfold State.enrolOne; rw [if_pos hb]
    rw [heq]; exact .inl ⟨rfl, by simp, .inl rfl⟩
  | false =>
    cases hd : s.byNumber? p.number with
    | some y =>
      have heq : s.enrolOne k p = (s, .duplicate) := by unfold State.enrolOne; simp [hb, hd]
      rw [heq]; exact .inl ⟨rfl, by simp, .inr rfl⟩
    | none =>
      refine .inr ⟨i, hslot, hfree, rfl, rfl, ?_⟩
      have heq : s.enrolOne k p = ((s.setEntries (insertEntry (newEntry k i (s.sitting k).defn.writing p)
          s.roster.entries)).modSitting k (fun r => { r with enrolled := r.enrolled + 1 }), .ok) := by
        unfold State.enrolOne; simp [hb, hd, hi]
      rw [heq, newEntry_eq]; exact ⟨rfl, rfl⟩

/-- The request of `l` that enters candidate `n`: the first valid one that names it. -/
def requestFor (l : List EnrolEntry) (n : Nat) : Option EnrolEntry := l.find? fun p => p.number == n && !badNumber n

/-- What ENROL leaves of `s`: the sitting's count, and the candidates entered, known and unknown (R1–R7). -/
structure Enrols (k : Nat) (l : List EnrolEntry) (s t : State) (codes : List ResultCode) : Prop where
  answered : codes.length = l.length
  counted : t.sitting k = { s.sitting k with enrolled := (s.sitting k).enrolled + (codes.filter (· == .ok)).length }
  others : ∀ j, j ≠ k → t.sitting j = s.sitting j
  known : ∀ n e, s.byNumber? n = some e → t.byNumber? n = some e
  unasked : ∀ n, s.byNumber? n = none → requestFor l n = none → t.byNumber? n = none
  entered : ∀ n p, s.byNumber? n = none → requestFor l n = some p → ∃ slot, slot < Config.slots ∧ s.entry? slot = none
    ∧ t.byNumber? n = some (enrolled k slot (s.sitting k).defn.writing p)

theorem requestFor_cons_other {l : List EnrolEntry} (h : p.number ≠ n ∨ badNumber n = true) :
    requestFor (p :: l) n = requestFor l n := by
  refine List.find?_cons_of_neg ?_
  rcases h with h | h <;> simp [h]

theorem requestFor_cons_self {l : List EnrolEntry} (h : badNumber p.number = false) :
    requestFor (p :: l) p.number = some p := by
  unfold requestFor
  rw [List.find?_cons]; simp [h]

theorem Enrols.nil (k : Nat) (s : State) : Enrols k [] s s [] :=
  ⟨rfl, rfl, fun _ _ => rfl, fun _ _ h => h, fun _ h _ => h, fun _ _ _ h => by cases h⟩

/-- A refused request is answered and changes nothing. -/
theorem Enrols.refused {l : List EnrolEntry} {codes : List ResultCode} {c : ResultCode} (h : Enrols k l s t codes)
    (hc : c ≠ .ok) (hp : badNumber p.number = true ∨ (s.byNumber? p.number).isSome) : Enrols k (p :: l) s t (c :: codes) := by
  have hother {n : Nat} (hn : s.byNumber? n = none) : requestFor (p :: l) n = requestFor l n := by
    refine requestFor_cons_other ?_
    by_cases hpn : p.number = n
    · subst hpn; exact .inr (hp.resolve_right (by simp [hn]))
    · exact .inl hpn
  have hfilter : (c :: codes).filter (· == .ok) = codes.filter (· == .ok) := by simp [hc]
  exact ⟨by simp [h.answered], hfilter ▸ h.counted, h.others, h.known, fun n hn hr => h.unasked n hn (hother hn ▸ hr),
    fun n q hn hr => h.entered n q hn (hother hn ▸ hr)⟩

/-- An entered request adds its candidate before the others are dealt with. -/
theorem Enrols.added {l : List EnrolEntry} {codes : List ResultCode} {i : Nat} (hi : i < Config.slots)
    (hfree : s.entry? i = none) (hgood : badNumber p.number = false) (hnew : s.byNumber? p.number = none)
    (h : Enrols k l ((s.setEntries (insertEntry (enrolled k i (s.sitting k).defn.writing p) s.roster.entries)).modSitting k
      fun r => { r with enrolled := r.enrolled + 1 }) t codes) : Enrols k (p :: l) s t (.ok :: codes) := by
  have hfound (n : Nat) : ((s.setEntries (insertEntry (enrolled k i (s.sitting k).defn.writing p)
      s.roster.entries)).modSitting k fun r => { r with enrolled := r.enrolled + 1 }).byNumber? n
        = if p.number = n then some (enrolled k i (s.sitting k).defn.writing p) else s.byNumber? n :=
    State.byNumber?_insertEntry (e := enrolled k i (s.sitting k).defn.writing p) hnew n
  have hsitting (j : Nat) : ((s.setEntries (insertEntry (enrolled k i (s.sitting k).defn.writing p)
      s.roster.entries)).modSitting k fun r => { r with enrolled := r.enrolled + 1 }).sitting j
        = if j = k then { s.sitting k with enrolled := (s.sitting k).enrolled + 1 } else s.sitting j := by
    unfold State.modSitting; rw [State.sitting_setSitting]; rfl
  have hother {n : Nat} (hn : p.number ≠ n) : requestFor (p :: l) n = requestFor l n := requestFor_cons_other (.inl hn)
  refine ⟨by simp [h.answered], ?_, fun j hj => ?_, fun n e he => ?_, fun n hn hr => ?_, fun n q hn hr => ?_⟩
  · rw [h.counted, hsitting, if_pos rfl]
    simp only [beq_self_eq_true, List.filter_cons_of_pos, List.length_cons, Sitting.mk.injEq, true_and, and_true]
    omega
  · rw [h.others j hj, hsitting, if_neg hj]
  · have hpn : p.number ≠ n := fun hpn => by rw [← hpn, hnew] at he; cases he
    exact h.known n e (by rw [hfound, if_neg hpn, he])
  · have hpn : p.number ≠ n := fun hpn => by rw [← hpn, requestFor_cons_self hgood] at hr; cases hr
    exact h.unasked n (by rw [hfound, if_neg hpn, hn]) (hother hpn ▸ hr)
  · by_cases hpn : p.number = n
    · subst hpn
      rw [requestFor_cons_self hgood] at hr
      cases hr
      exact ⟨i, hi, hfree, h.known _ _ (by rw [hfound, if_pos rfl])⟩
    · obtain ⟨slot, hslot, hempty, hentry⟩ := h.entered n q (by rw [hfound, if_neg hpn, hn]) (hother hpn ▸ hr)
      rw [hsitting, if_pos rfl] at hentry
      refine ⟨slot, hslot, List.find?_eq_none.2 fun y hy => ?_, hentry⟩
      exact List.find?_eq_none.1 hempty y (mem_insertEntry.2 (.inr hy))

theorem State.enrolAll_enrols {l : List EnrolEntry} (h : s.roster.entries.length + l.length ≤ Config.slots) (k : Nat) :
    Enrols k l s (s.enrolAll k l).1 (s.enrolAll k l).2 := by
  induction l generalizing s with
  | nil => exact .nil k s
  | cons p l ih =>
    rw [List.length_cons] at h
    have hcons : s.enrolAll k (p :: l) = (((s.enrolOne k p).1.enrolAll k l).1,
      (s.enrolOne k p).2 :: ((s.enrolOne k p).1.enrolAll k l).2) := rfl
    rw [hcons]
    obtain ⟨hsame, hc, hp⟩ | ⟨i, hi, hfree, hgood, hnew, hc, hst⟩ := s.enrolOne_room (by omega) k p
    · rw [hsame]
      exact (ih (by omega)).refused hc hp
    · rw [hc, hst]
      refine .added hi hfree hgood hnew (ih ?_)
      have hlen := (insertEntry_perm (enrolled k i (s.sitting k).defn.writing p) s.roster.entries).length_eq
      rw [List.length_cons] at hlen
      change (insertEntry _ s.roster.entries).length + l.length ≤ _
      omega

theorem execEnrol_enrols {l : List EnrolEntry} (hready : s.Ready .enrol) (hk : k < Config.sittings) (hne : l ≠ [])
    (hle : l.length ≤ 8) (hphase : admitsEnrolment (s.sitting k).phase = true) :
    let r := (s.startTask (taskCode .enrol)).enrolAll k l
    exec (.enrol k l) s = .next (r.1.finishTask (firstRefusal r.2)
      ((l.zip r.2).any fun p => decide (p.2 = .ok) && enrolClamps p.1) (.enrolled (r.2.filter (· == .ok)).length r.2)) := by
  have hempty : l.isEmpty = false := by cases l <;> simp_all
  have hlong : ¬ 8 < l.length := by omega
  have hphase' : admitsEnrolment ((s.startTask (taskCode .enrol)).sitting k).phase = true := hphase
  refine (task_next hready).trans ?_
  simp [not_badSitting hk, hempty, hlong, hphase']

end Sys2Proof.Machine

namespace Sys2Proof.Machine

variable {s t u : State} {e x : Entry} {p q d k n : Nat}

/-! ### The need for a seat ends: a seat held stays the candidate's until it is released -/

theorem State.requestCancel_entry (he : s.entry? p = some e) (d : Nat) :
    ∃ x, (s.requestCancel d).entry? p = some x ∧ x.seat = e.seat := by
  unfold State.requestCancel
  split
  · rw [State.entry?_modEntry _ (by intro; rfl), State.entry?_setSeat, he]
    split
    · exact ⟨_, rfl, rfl⟩
    · exact ⟨e, rfl, rfl⟩
  · exact ⟨e, he, rfl⟩

theorem State.requestCancel_held (h : (s.seat d).tenure = .held q) (j : Nat) :
    ((s.requestCancel j).seat d).tenure = .held q := by
  unfold State.requestCancel
  split
  · next w hw =>
    have hne : d ≠ j := fun hd => by rw [hd, hw] at h; cases h
    rw [State.seat_modEntry, State.seat_setSeat, if_neg hne]; exact h
  · exact h

theorem State.leaveReseat_leaveRetry_sameHall (s : State) (p : Nat) : SameHall s ((s.leaveReseat p).leaveRetry p) :=
  OnlyChanges.sameHall (bs := [.reseats, .run]) (State.leaveRetry_only _ p (by decide)
    (State.leaveReseat_only s p (by decide) (.refl _ _))) (by decide)

/-- What the end of a need leaves of the candidate's seat and of a HELD seat. -/
theorem State.endNeed_held (he : s.entry? p = some e) (j : Nat) : (∃ x, (s.endNeed j).entry? p = some x ∧ x.seat = e.seat)
    ∧ ∀ d q, (s.seat d).tenure = .held q → ((s.endNeed j).seat d).tenure = .held q := by
  unfold State.endNeed
  dsimp only
  split
  · next o _ =>
    have hall := (State.cancelOffer_sameHall s o).trans (State.leaveReseat_leaveRetry_sameHall _ j)
    rw [hall.entry?]
    refine ⟨State.requestCancel_entry (s := s.dropOffer o.seat) he o.seat, fun d q hd => ?_⟩
    rw [hall.tenure]
    exact State.requestCancel_held (s := s.dropOffer o.seat) hd o.seat
  · have hall := State.leaveReseat_leaveRetry_sameHall s j
    rw [hall.entry?]
    exact ⟨⟨e, he, rfl⟩, fun d q hd => by rw [hall.tenure]; exact hd⟩

theorem State.requestRelease_frees (h : (s.seat d).tenure = .held q) : ((s.requestRelease d).seat d).tenure = .empty := by
  have hcount : ((((s.setSeat d { s.seat d with tenure := .empty }).modEntry q fun e => { e with seat := none }).count q
      dropPlaced).seat d).tenure = .empty := by
    rw [State.seat_count, State.seat_modEntry, State.seat_setSeat, if_pos rfl]
  unfold State.requestRelease
  rw [h]
  dsimp only [occupant]
  split
  · rw [(State.showSeat_only _ d .empty (List.Subset.refl _) (.refl _ _)).seat (by decide)]
    exact hcount
  · exact hcount

theorem State.releaseHeld_frees (he : s.entry? p = some e) (hd : e.seat = some d) (h : (s.seat d).tenure = .held q) :
    ((s.releaseHeld p).seat d).tenure = .empty := by
  unfold State.releaseHeld
  simp only [he, Option.bind_some, hd, h]
  unfold State.releaseSeat
  rw [(State.retryStranded_only _ d (List.Subset.refl _) (.refl _ _)).seat (by decide)]
  exact State.requestRelease_frees h

/-! ### The enrolled count -/

/-- Every sitting keeps its enrolled count (R81). -/
def SameEnrolled (s t : State) : Prop := ∀ k, (t.sitting k).enrolled = (s.sitting k).enrolled

theorem SameEnrolled.trans (h : SameEnrolled s t) (g : SameEnrolled t u) : SameEnrolled s u := fun k => (g k).trans (h k)

theorem OnlyChanges.sameEnrolled {bs : List Part} (h : OnlyChanges bs s t) (hb : Part.sittings ∉ bs) : SameEnrolled s t :=
  fun k => by rw [h.sitting hb]

theorem State.modSitting_sameEnrolled (s : State) (k : Nat) {f : Sitting → Sitting}
    (hf : ∀ r, (f r).enrolled = r.enrolled) : SameEnrolled s (s.modSitting k f) := fun j => by
  unfold State.modSitting
  rw [State.sitting_setSitting]
  split
  · next h => rw [hf, h]
  · rfl

theorem State.count_sameEnrolled (s : State) (p : Nat) {f : Sitting → Sitting} (hf : ∀ r, (f r).enrolled = r.enrolled) :
    SameEnrolled s (s.count p f) := by
  unfold State.count
  split
  · exact State.modSitting_sameEnrolled s _ hf
  · exact fun _ => rfl

theorem State.requestRelease_sameEnrolled (s : State) (d : Nat) : SameEnrolled s (s.requestRelease d) := by
  unfold State.requestRelease
  split
  · exact fun _ => rfl
  · next q _ =>
    have hcount := State.count_sameEnrolled ((s.setSeat d { s.seat d with tenure := .empty }).modEntry q fun e =>
      { e with seat := none }) q (f := dropPlaced) fun _ => rfl
    dsimp only
    split
    · exact fun k => ((State.showSeat_only _ d .empty (List.Subset.refl _) (.refl _ _)).sameEnrolled (by decide) k).trans
        (hcount k)
    · exact hcount

theorem State.releaseHeld_sameEnrolled (s : State) (p : Nat) : SameEnrolled s (s.releaseHeld p) := by
  unfold State.releaseHeld
  split
  · split
    · exact (State.requestRelease_sameEnrolled s _).trans
        ((State.retryStranded_only _ _ (List.Subset.refl _) (.refl _ _)).sameEnrolled (by decide))
    · exact fun _ => rfl
  · exact fun _ => rfl

theorem State.checkRun_sameEnrolled (s : State) : SameEnrolled s s.checkRun := by
  unfold State.checkRun
  split
  · next r _ =>
    have hclose (a : AllocState) : SameEnrolled s ((s.closeRun r a).raise .allocDone (.sitting r.sitting)) :=
      State.modSitting_sameEnrolled s r.sitting (f := fun k =>
        { k with alloc := a, runPlaced := r.placed, runUnplaced := r.unplaced, runPassed := r.passed }) fun _ => rfl
    split
    · exact hclose _
    · exact fun _ => rfl
  · exact fun _ => rfl

/-! ### WITHDRAW -/

/-- The part from which WITHDRAW deletes the entry (R9). -/
def State.freed (s : State) (p : Nat) : State := ((s.endNeed p).leaveList p).releaseHeld p

/-- The part that WITHDRAW of the entry in slot `p` leaves (R9). -/
def State.withdrawn (s : State) (p : Nat) : State := ((s.freed p).deleteEntry p).checkRun

theorem State.freed_sameAmounts (s : State) (p : Nat) : SameAmounts s (s.freed p) :=
  (State.endNeed_sameAmounts s p).trans
    (((State.leaveList_only _ p (List.Subset.refl _) (.refl _ _)).sameAmounts (by decide)).trans
      (State.releaseHeld_sameAmounts _ p))

theorem State.freed_sameEnrolled (s : State) (p : Nat) : SameEnrolled s (s.freed p) :=
  ((State.endNeed_only s p (List.Subset.refl _) (.refl _ _)).sameEnrolled (by decide)).trans
    (((State.leaveList_only _ p (List.Subset.refl _) (.refl _ _)).sameEnrolled (by decide)).trans
      (State.releaseHeld_sameEnrolled _ p))

theorem State.freed_seat (he : s.entry? p = some e) (hd : e.seat = some d) (h : (s.seat d).tenure = .held q) :
    ((s.freed p).seat d).tenure = .empty := by
  obtain ⟨⟨x, hx, hseat⟩, hheld⟩ := State.endNeed_held he p
  have hall := State.leaveList_sameHall (s.endNeed p) p
  refine State.releaseHeld_frees (e := x) (q := q) (by rw [hall.entry?, hx]) (hseat.trans hd) ?_
  rw [hall.tenure]; exact hheld d q h

theorem State.withdrawn_only (s : State) (p : Nat) : OnlyChanges (.identities :: .tags :: placementParts) s (s.withdrawn p) :=
  State.checkRun_only _ (by decide) (State.deleteEntry_only _ _ (by decide) (State.releaseHeld_only _ _ (by decide)
    (State.leaveList_only _ _ (by decide) (State.endNeed_only _ _ (by decide) (.refl _ _)))))

theorem State.withdrawn_identities (hs : s.RosterOrdered) (he : s.entry? p = some e) :
    (s.withdrawn p).roster.entries.map identity = (s.roster.entries.map identity).filter fun x => x.1 != p := by
  obtain ⟨x, hx, -⟩ := (State.freed_sameAmounts s p).entry? hs he
  have hrun : (s.withdrawn p).roster.entries = ((s.freed p).deleteEntry p).roster.entries :=
    (State.checkRun_only _ (List.Subset.refl _) (.refl _ _)).rest .entries (by decide)
  have hdel : ((s.freed p).deleteEntry p).roster.entries = (s.freed p).roster.entries.filter fun x => x.slot != p := by
    unfold State.deleteEntry; rw [hx]; rfl
  have hid := (State.freed_sameAmounts s p).identities
  rw [hrun, hdel, ← hid, List.filter_map]; rfl

theorem State.withdrawn_absent (hs : s.RosterOrdered) (he : s.byNumber? n = some e) :
    (s.withdrawn e.slot).byNumber? n = none ∧ (s.withdrawn e.slot).entry? e.slot = none := by
  have hids := State.withdrawn_identities hs (State.entry?_of_byNumber? hs he)
  have gone {y : Entry} (hy : y ∈ (s.withdrawn e.slot).roster.entries) :
      (∃ x ∈ s.roster.entries, identity x = identity y) ∧ y.slot ≠ e.slot := by
    have hmem := List.mem_map_of_mem (f := identity) hy
    rw [hids, List.mem_filter] at hmem
    have hslot : (identity y).1 ≠ e.slot := by simpa using hmem.2
    exact ⟨List.mem_map.1 hmem.1, hslot⟩
  refine ⟨List.find?_eq_none.2 fun y hy hn => ?_, List.find?_eq_none.2 fun y hy => by simpa using (gone hy).2⟩
  obtain ⟨⟨x, hx, hxy⟩, hslot⟩ := gone hy
  have hnumber : x.number = n := (congrArg (fun i => i.2.1) hxy).trans (by simpa using hn : y.number = n)
  have hfound := State.byNumber?_of_mem hs hx
  rw [hnumber, he] at hfound
  cases hfound
  exact hslot (congrArg Prod.fst hxy).symm

theorem State.withdrawn_enrolled (hs : s.RosterOrdered) (he : s.entry? p = some e) :
    ((s.withdrawn p).sitting e.sitting).enrolled = (s.sitting e.sitting).enrolled - 1 := by
  obtain ⟨x, hx, hsame⟩ := (State.freed_sameAmounts s p).entry? hs he
  have hsitting : x.sitting = e.sitting := congrArg (fun a => a.1.2.2) hsame
  have hdel : ((s.freed p).deleteEntry p).sitting e.sitting = withoutEntry x ((s.freed p).sitting e.sitting) := by
    have hwrite := State.sitting_setSitting (s := s.freed p) e.sitting (withoutEntry x ((s.freed p).sitting e.sitting))
      e.sitting
    rw [if_pos rfl] at hwrite
    unfold State.deleteEntry
    rw [hx]
    dsimp only
    rw [hsitting]
    exact hwrite
  unfold State.withdrawn
  rw [State.checkRun_sameEnrolled, hdel]
  change ((s.freed p).sitting e.sitting).enrolled - 1 = _
  rw [State.freed_sameEnrolled]

theorem State.withdrawn_seat (he : s.entry? p = some e) (hd : e.seat = some d) (h : (s.seat d).tenure = .held q) :
    ((s.withdrawn p).seat d).tenure = .empty := by
  unfold State.withdrawn
  rw [(State.checkRun_only _ (List.Subset.refl _) (.refl _ _)).seat (by decide),
    (State.deleteEntry_only _ _ (List.Subset.refl _) (.refl _ _)).seat (by decide)]
  exact State.freed_seat he hd h

theorem execWithdraw_deletes (hready : s.Ready .withdraw) (he : s.byNumber? n = some e) (hp : e.presence = .expected) :
    exec (.withdraw n) s = .next (((s.startTask (taskCode .withdraw)).withdrawn e.slot).finishTask .ok false
      (.withdrawn n (if e.seat.isSome then e.seat else e.offer))) := by
  have hbody : (s.startTask (taskCode .withdraw)).byNumber? n = some e := he
  refine (task_next hready).trans ?_
  simp only [hbody, hp, ne_eq, not_true_eq_false, if_false]
  rfl

/-- Settles O25: ENROL by induction on the requests, each refused or entered; WITHDRAW through what the freeing of the
candidate's seat, the deletion of its entry and the check of the run each leave. -/
theorem enrolAndWithdraw : Obligations.EnrolAndWithdraw := by
  unfold Obligations.EnrolAndWithdraw
  refine ⟨fun s k l hready hk hne hle hphase hroom => ?_, fun s n e hready hs he hp => ?_⟩
  · have hexec := execEnrol_enrols hready hk hne hle ((admitsEnrolment_iff _).2 hphase)
    have h := State.enrolAll_enrols (s := s.startTask (taskCode .enrol)) hroom k
    refine ⟨_, _, hexec, h.answered, rfl, rfl, h.counted, h.others, h.known, fun n hn => ?_, execEnrol_only hexec⟩
    split
    · next hr => exact h.unasked n hn hr
    · next p hr =>
      obtain ⟨slot, hslot, hfree, hentry⟩ := h.entered n p hn hr
      have hnumber : p.number = n := by
        have := List.find?_some hr
        simp_all
      subst hnumber
      exact ⟨slot, hslot, hfree, hentry⟩
  · have hexec := execWithdraw_deletes hready he hp
    have hentry : (s.startTask (taskCode .withdraw)).entry? e.slot = some e := State.entry?_of_byNumber? hs he
    obtain ⟨hnumber, hslot⟩ := State.withdrawn_absent (s := s.startTask (taskCode .withdraw)) hs he
    have hmailbox := (State.withdrawn_only (s.startTask (taskCode .withdraw)) e.slot).rest .mailbox (by decide)
    obtain ⟨-, -, -, hignored⟩ := hmailbox
    exact ⟨_, hexec, ⟨rfl, rfl, hignored⟩,
      State.withdrawn_identities (s := s.startTask (taskCode .withdraw)) hs hentry, hnumber, hslot,
      State.withdrawn_enrolled (s := s.startTask (taskCode .withdraw)) hs hentry,
      fun d hd hheld => State.withdrawn_seat (s := s.startTask (taskCode .withdraw)) hentry hd hheld,
      execWithdraw_only hexec⟩

end Sys2Proof.Machine

namespace Sys2Proof.Machine

variable {s t u : State} {e x : Entry} {k : Nat} {cause : StartCause}

/-! ### What a warm start leaves of each record (R203) -/

/-- The sitting of an active run, which a start ends ABORTED with its counts (R61). -/
def runEnded (run : Option Run) (k : Nat) (r : Sitting) : Sitting :=
  match run with
  | some x => if k = x.sitting then
      { r with alloc := .aborted, runPlaced := x.placed, runUnplaced := x.unplaced, runPassed := x.passed } else r
  | none => r

/-- A sitting under way is held for the restart, and for an asserted alarm input (R83, R77). -/
def restarted (alarm : Bool) (r : Sitting) : Sitting :=
  if holdPhase r.phase then { r with holds := { r.holds with restart := true, alarm := r.holds.alarm || alarm } } else r

theorem State.sitting_endRunAtStart (s : State) (k : Nat) :
    s.endRunAtStart.sitting k = runEnded s.placement.run k (s.sitting k) := by
  unfold State.endRunAtStart runEnded
  cases s.placement.run with
  | none => rfl
  | some r =>
    refine (State.sitting_setSitting (s := s) r.sitting _ k).trans ?_
    dsimp only
    split
    · next h => rw [h]
    · rfl

theorem State.sitting_holdQuietly (hw : Table.wf {} s.control.sittings = true) (f : Holds → Holds) (k : Nat) :
    (s.holdQuietly f).sitting k =
      if holdPhase (s.sitting k).phase then { s.sitting k with holds := f (s.sitting k).holds } else s.sitting k :=
  Table.read_mapRecords (f := fun r : Sitting => if holdPhase r.phase then { r with holds := f r.holds } else r) hw rfl k

/-- The records after a warm start, each from its record before it. -/
structure WarmStarted (cause : StartCause) (s t : State) : Prop where
  power : t.power.power = .starting
  cause : t.power.cause = cause
  settings : t.settings = loaded s.settings
  port : t.port = { notices := s.port.notices }
  entries : t.roster.entries = s.roster.entries.map fun e => { e with offer := none }
  placement : t.placement = { reseats := rebuiltReseats s.roster.entries }
  sitting : ∀ k, t.sitting k = restarted s.hall.alarm (runEnded s.placement.run k (s.sitting k))
  seat : ∀ d, t.seat d = warmSeat (s.seat d)
  line : ∀ z, t.line z = warmLine (s.line z)
  linkRecord : ∀ z u, t.linkRecord z u = warmLink (s.linkRecord z u)
  tray : ∀ u, t.tray u = warmTray (s.tray u)
  sheet : t.sheet = {}
  scoring : t.scoring = { s.scoring with walkQueue := rebuiltWalks s, walk := none, batch := {} }

/-- A start written to the mailbox starts from the same records. -/
theorem WarmStarted.of_startTask {c : Nat} (h : WarmStarted cause (s.startTask c) t) : WarmStarted cause s t :=
  ⟨h.power, h.cause, h.settings, h.port, h.entries, h.placement, h.sitting, h.seat, h.line, h.linkRecord, h.tray,
    h.sheet, h.scoring⟩

/-- The tables of seats, lines and trays as a warm start writes them. -/
theorem State.warmStart_tables (s : State) (cause : StartCause) :
    (s.warmStart cause).seatMap.seats = Table.mapRecords {} warmSeat s.seatMap.seats
      ∧ (s.warmStart cause).lines = Table.mapRecords {} warmLine s.lines
      ∧ (s.warmStart cause).trays = Table.mapRecords {} warmTray s.trays := by
  have hrun : s.endRunAtStart.seatMap = s.seatMap ∧ s.endRunAtStart.lines = s.lines
      ∧ s.endRunAtStart.trays = s.trays := by
    unfold State.endRunAtStart; split <;> exact ⟨rfl, rfl, rfl⟩
  obtain ⟨hseats, hlines, htrays⟩ := hrun
  rw [← hseats, ← hlines, ← htrays]
  unfold State.warmStart
  dsimp only
  split <;> exact ⟨rfl, rfl, rfl⟩

theorem State.sitting_warmStart (hw : Table.wf {} s.control.sittings = true) (cause : StartCause) (k : Nat) :
    (s.warmStart cause).sitting k = restarted s.hall.alarm (runEnded s.placement.run k (s.sitting k)) := by
  have hwf := State.endRunAtStart_wf hw
  have hheld := State.sitting_holdQuietly hwf (fun h => { h with restart := true }) k
  rw [State.sitting_endRunAtStart] at hheld
  unfold State.warmStart restarted
  dsimp only
  split
  · next halarm =>
    refine (State.sitting_holdQuietly (State.holdQuietly_wf hwf fun h => { h with restart := true })
      (fun h => { h with alarm := true }) k).trans ?_
    rw [hheld, halarm]
    by_cases hp : holdPhase (runEnded s.placement.run k (s.sitting k)).phase <;> simp [hp]
  · next halarm =>
    refine hheld.trans ?_
    simp [halarm]

theorem State.warmStart_started (h : s.Canonical) (cause : StartCause) : WarmStarted cause s (s.warmStart cause) := by
  obtain ⟨-, hseats, -, hsittings, -, htrays, hlines, hlinks, -, -⟩ := h
  obtain ⟨hseatTable, hlineTable, htrayTable⟩ := s.warmStart_tables cause
  have hline (z : Nat) : (s.warmStart cause).line z = warmLine (s.line z) := by
    unfold State.line; rw [hlineTable]; exact Table.read_mapRecords hlines rfl z
  refine ⟨?_, ?_, ?_, ?_, ?_, ?_, State.sitting_warmStart hsittings cause, fun d => ?_, hline, fun z u => ?_, fun u => ?_,
    ?_, ?_⟩
  case refine_7 => unfold State.seat; rw [hseatTable]; exact Table.read_mapRecords hseats rfl d
  case refine_8 => unfold State.linkRecord; rw [hline]; exact Table.read_mapRecords (hlinks z) rfl u
  case refine_9 => unfold State.tray; rw [htrayTable]; exact Table.read_mapRecords htrays rfl u
  all_goals
    unfold State.warmStart State.endRunAtStart
    dsimp only
    split <;> split <;> rfl

/-! ### The records one by one -/

theorem runEnded_other {run : Option Run} {r : Sitting} (h : ∀ x, run = some x → x.sitting ≠ k) : runEnded run k r = r := by
  cases run with
  | none => rfl
  | some x => exact if_neg fun hk => h x rfl hk.symm

theorem runEnded_phase (run : Option Run) (k : Nat) (r : Sitting) :
    (runEnded run k r).phase = r.phase ∧ (runEnded run k r).holds = r.holds := by
  unfold runEnded
  split
  · split <;> exact ⟨rfl, rfl⟩
  · exact ⟨rfl, rfl⟩

theorem restarted_counts (alarm : Bool) (r : Sitting) : (restarted alarm r).alloc = r.alloc
    ∧ (restarted alarm r).runPlaced = r.runPlaced ∧ (restarted alarm r).runUnplaced = r.runUnplaced
    ∧ (restarted alarm r).runPassed = r.runPassed := by
  unfold restarted; split <;> exact ⟨rfl, rfl, rfl, rfl⟩

theorem restarted_phase (alarm : Bool) (r : Sitting) : (restarted alarm r).phase = r.phase
    ∧ (restarted alarm r).holds = if holdPhase r.phase then
        { r.holds with restart := true, alarm := r.holds.alarm || alarm } else r.holds := by
  unfold restarted
  split <;> exact ⟨rfl, rfl⟩

theorem WarmStarted.run_aborted (h : WarmStarted cause s t) {r : Run} (hr : s.placement.run = some r) :
    (t.sitting r.sitting).alloc = .aborted ∧ (t.sitting r.sitting).runPlaced = r.placed
      ∧ (t.sitting r.sitting).runUnplaced = r.unplaced ∧ (t.sitting r.sitting).runPassed = r.passed := by
  obtain ⟨ha, hp, hu, hs⟩ := restarted_counts s.hall.alarm (runEnded s.placement.run r.sitting (s.sitting r.sitting))
  rw [h.sitting, ha, hp, hu, hs, hr]
  simp [runEnded]

theorem WarmStarted.alloc_kept (h : WarmStarted cause s t) (hk : ∀ r, s.placement.run = some r → r.sitting ≠ k) :
    (t.sitting k).alloc = (s.sitting k).alloc := by
  rw [h.sitting, (restarted_counts _ _).1, runEnded_other hk]

theorem WarmStarted.phase_holds (h : WarmStarted cause s t) (k : Nat) :
    (t.sitting k).phase = (s.sitting k).phase ∧ (t.sitting k).holds = if holdPhase (s.sitting k).phase then
      { (s.sitting k).holds with restart := true, alarm := (s.sitting k).holds.alarm || s.hall.alarm }
      else (s.sitting k).holds := by
  obtain ⟨hphase, hholds⟩ := runEnded_phase s.placement.run k (s.sitting k)
  obtain ⟨hp, hh⟩ := restarted_phase s.hall.alarm (runEnded s.placement.run k (s.sitting k))
  rw [h.sitting, hp, hh, hphase, hholds]
  exact ⟨rfl, rfl⟩

theorem WarmStarted.working (h : WarmStarted cause s t) : t.settings.working
    = if s.settings.imageGood = true ∧ s.settings.writing = none then s.settings.image else {} := by
  rw [h.settings]
  unfold loaded
  cases s.settings.imageGood <;> cases s.settings.writing <;> rfl

theorem WarmStarted.link_record (h : WarmStarted cause s t) (z v : Nat) : t.linkRecord z v =
    if (s.linkRecord z v).state = .unknown then
      { state := .unknown, misses := 0, goods := 0, lastTaken := none, joinAwaited := false }
    else { state := .up, misses := 0, goods := 0, lastTaken := none, joinAwaited := true } := h.linkRecord z v

theorem warmTray_cases (r : Tray) : (r.state ≠ .reading → warmTray r = r)
    ∧ (r.state = .reading → r.tags ≠ [] → warmTray r = { r with state := .done })
    ∧ (r.state = .reading → r.tags = [] → warmTray r = { state := .empty, sitting := none, tags := [] }) := by
  unfold warmTray
  refine ⟨fun h => ?_, fun h hn => ?_, fun h hn => ?_⟩
  · split
    · next hr => exact absurd hr h
    · rfl
  · rw [h]; exact if_neg hn
  · rw [h]; exact if_pos hn

theorem rebuiltReseats_eq (l : List Entry) :
    rebuiltReseats l = ((l.filter fun e => decide (e.presence = .displaced ∧ e.seat = none)).take 16).map
      fun e => { slot := e.slot, former := none, excluded := none } := by
  have hpred : (fun e : Entry => decide (e.presence = .displaced) && e.seat.isNone)
      = fun e => decide (e.presence = .displaced ∧ e.seat = none) := by
    funext e
    rw [Bool.decide_and]
    cases e.seat <;> rfl
  unfold rebuiltReseats
  rw [hpred]

theorem rebuiltWalks_ascending (s : State) : (rebuiltWalks s).Pairwise (· < ·) :=
  List.Pairwise.filter _ List.pairwise_lt_range

theorem mem_rebuiltWalks : k ∈ rebuiltWalks s ↔ k < 16 ∧ (s.key k).state = .locked ∧ 0 < (s.key k).revision := by
  unfold rebuiltWalks
  simp [Config.sittings]

/-- Each of the three commands starts from the records as they stand. -/
theorem exec_warmStart {c : Instr} (hc : s.Canonical) (h : (c = .reboot ∧ cause = .reboot ∧ s.Ready .reboot)
      ∨ (c = .resetn ∧ cause = .resetn ∧ (s.power.power = .on ∨ s.power.power = .starting))
      ∨ (c = .mainSupplyReturn ∧ cause = .supply ∧ s.power.power = .standby)) :
    ∃ t, exec c s = .next t ∧ WarmStarted cause s t ∧ OnlyChanges warmParts s t := by
  rcases h with ⟨rfl, rfl, hready⟩ | ⟨rfl, rfl, hp⟩ | ⟨rfl, rfl, hp⟩
  · have hexec := task_next (body := fun s => s.warmStart .reboot) hready
    exact ⟨_, hexec, (State.warmStart_started (s := s.startTask (taskCode .reboot)) hc .reboot).of_startTask,
      (execReboot_only hexec).mono (by decide)⟩
  · have hexec : exec .resetn s = .next (s.warmStart .resetn) := by
      change execResetn s = _
      unfold execResetn
      rcases hp with hp | hp <;> rw [hp]
    exact ⟨_, hexec, State.warmStart_started hc _, s.warmStart_only _⟩
  · have hexec : exec .mainSupplyReturn s = .next (s.warmStart .supply) := by
      change execMainSupplyReturn s = _
      unfold execMainSupplyReturn
      rw [hp]
    exact ⟨_, hexec, State.warmStart_started hc _, s.warmStart_only _⟩

/-- Settles O23: every record after the start is read off its record before it. -/
theorem warmStartBegins : Obligations.WarmStartBegins := by
  unfold Obligations.WarmStartBegins
  intro s c cause hc hcause
  obtain ⟨t, hexec, h, honly⟩ := exec_warmStart hc hcause
  refine ⟨t, hexec, h.power, h.cause, h.working, ?_, ?_, ?_, ?_, ?_, ?_, fun e he => ?_, ?_, fun r hr => h.run_aborted hr,
    fun k hk => h.alloc_kept hk, h.phase_holds, fun d => ?_, fun z => ?_, h.link_record, fun u => ?_, h.sheet, ?_, ?_, ?_,
    fun k => ?_, honly⟩
  · rw [h.port]
  · rw [h.port]
  · rw [h.port]
  · rw [h.port]
  · rw [h.placement]
  · rw [h.placement]
  · rw [h.entries] at he
    obtain ⟨x, -, rfl⟩ := List.mem_map.1 he
    rfl
  · rw [h.placement]; exact rebuiltReseats_eq _
  · rw [h.seat]; exact ⟨rfl, rfl, rfl, rfl⟩
  · rw [h.line]; exact ⟨rfl, rfl, rfl, rfl, rfl⟩
  · rw [h.tray]; exact warmTray_cases _
  · rw [h.scoring]
  · rw [h.scoring]
  · rw [h.scoring]; exact rebuiltWalks_ascending s
  · rw [h.scoring]; exact mem_rebuiltWalks

end Sys2Proof.Machine

namespace Sys2Proof

/-- A table reads as its default record or as one it lists. -/
theorem Table.read_cases {α : Type} (d : α) (x : Table α) (k : Nat) :
    Table.read d x k = d ∨ ∃ p ∈ x, Table.read d x k = p.2 := by
  induction x with
  | nil => exact .inl rfl
  | cons p x ih =>
    obtain ⟨i, v⟩ := p
    by_cases hi : i = k
    · exact .inr ⟨(i, v), List.mem_cons_self, by simp [Table.read, hi]⟩
    · obtain ih | ⟨q, hq, ih⟩ := ih
      · exact .inl (by simpa [Table.read, hi] using ih)
      · exact .inr ⟨q, List.mem_cons_of_mem _ hq, by simpa [Table.read, hi] using ih⟩

end Sys2Proof

namespace Sys2Proof.Machine

variable {s t u : State} {bs : List Part}

/-! ### What a line's queue may hold -/

/-- A queue within its capacity, with at most one CLOCK for a desk (R136, R137). -/
def QueueFits (q : List QEntry) : Prop := q.length ≤ Config.queued ∧ (clockUnits q).Nodup

theorem QueueFits.nil : QueueFits [] := by simp [QueueFits, clockUnits]

/-- Entries that leave a queue leave it fitting. -/
theorem QueueFits.sublist {q r : List QEntry} (h : QueueFits q) (hr : r.Sublist q) : QueueFits r :=
  ⟨hr.length_le.trans h.1, h.2.sublist ((hr.filter _).map _)⟩

/-- What each entry is, and to which unit, stays. -/
theorem QueueFits.map {q : List QEntry} (h : QueueFits q) {f : QEntry → QEntry}
    (hf : ∀ x, (f x).unit = x.unit ∧ isClock (f x).msg = isClock x.msg) : QueueFits (q.map f) := by
  have hunits : clockUnits (q.map f) = clockUnits q := by
    simp [clockUnits, List.filter_map, Function.comp_def, hf]
  exact ⟨by simpa using h.1, hunits ▸ h.2⟩

/-- A CLOCK replaced in place keeps its place (R137). -/
theorem QueueFits.replaceClock {q : List QEntry} (h : QueueFits q) {e : QEntry} (he : isClock e.msg = true) :
    QueueFits (replaceClock e q) := by
  refine h.map fun x => ?_
  split
  · next hx => exact ⟨rfl, he.trans (Bool.and_eq_true_iff.1 hx).2.symm⟩
  · exact ⟨rfl, rfl⟩

/-- The entry inserted, and the queue it goes into, are all that a queue holds after an insertion by class (R136). -/
theorem insertByClass_perm (x : QEntry) (q : List QEntry) : (insertByClass x q).Perm (x :: q) := by
  obtain ⟨hord, hurg⟩ := insertByClass_inserted x q
  cases hx : x.urgent with
  | false => rw [hord hx]; exact List.perm_append_singleton x q
  | true =>
    obtain ⟨l, r, rfl, hins, -⟩ := hurg hx
    rw [hins]; exact List.perm_middle

/-- An entry fits into a free place where it is no second CLOCK for its desk (R136, R137). -/
theorem QueueFits.insertByClass {q : List QEntry} (h : QueueFits q) {x : QEntry} (hlen : q.length < Config.queued)
    (hx : isClock x.msg = true → x.unit ∉ clockUnits q) : QueueFits (insertByClass x q) := by
  have hp := insertByClass_perm x q
  have hunits : (clockUnits (Machine.insertByClass x q)).Perm (clockUnits (x :: q)) := (hp.filter _).map _
  refine ⟨hp.length_eq ▸ hlen, hunits.nodup_iff.2 ?_⟩
  cases hc : isClock x.msg with
  | true => simpa [clockUnits, hc] using And.intro (hx hc) h.2
  | false => simpa [clockUnits, hc] using h.2

/-! ### What keeps the capacities -/

/-- A part that bounds no queue and no counter. -/
abbrev offCapacity (x : Part) : Prop :=
  x ∉ [Part.hallTime, .access, .notices, .lines, .offers, .reseats, .sheet, .batch, .walks]

/-- What changes none of the bounded parts keeps the capacities. -/
theorem State.WithinCapacity.frame (h : s.WithinCapacity) (g : OnlyChanges bs s t)
    (hb : ∀ x ∈ bs, offCapacity x := by decide) : t.WithinCapacity := by
  have out {x : Part} (hx : ¬ offCapacity x) : same x s t := g.rest x fun hm => hx (hb x hm)
  obtain ⟨htime, -⟩ := out (x := .hallTime) (by decide)
  obtain ⟨-, hwrong, hlock⟩ := out (x := .access) (by decide)
  have hnotices : t.port.notices = s.port.notices := out (x := .notices) (by decide)
  have hlines : t.lines = s.lines := out (x := .lines) (by decide)
  have hoffers : t.placement.offers = s.placement.offers := out (x := .offers) (by decide)
  have hreseats : t.placement.reseats = s.placement.reseats := out (x := .reseats) (by decide)
  have hsheet : t.sheet = s.sheet := out (x := .sheet) (by decide)
  have hbatch : t.scoring.batch = s.scoring.batch := out (x := .batch) (by decide)
  obtain ⟨hqueue, hwalk⟩ := out (x := .walks) (by decide)
  unfold State.WithinCapacity State.notice State.line ScoringUnit.walksBounded at h ⊢
  rw [htime, hwrong, hlock, hnotices, hlines, hoffers, hreseats, hsheet, hbatch, hqueue, hwalk]
  exact h

theorem State.WithinCapacity.ite {c : Prop} [Decidable c] (h : s.WithinCapacity) (g : t.WithinCapacity) :
    (if c then s else t).WithinCapacity := by split <;> assumption

theorem State.WithinCapacity.foldl {β : Type} {f : State → β → State} (h : s.WithinCapacity) (l : List β)
    (hf : ∀ (u : State) (x : β), u.WithinCapacity → (f u x).WithinCapacity) : (l.foldl f s).WithinCapacity := by
  induction l generalizing s with
  | nil => exact h
  | cons x l ih => exact ih (hf s x h)

/-! #### The bounded parts, each written -/

theorem State.WithinCapacity.queue (h : s.WithinCapacity) (z : Nat) : QueueFits (s.line z).queue := by
  obtain ⟨-, -, -, -, hlen, hclocks, -⟩ := h
  exact ⟨hlen z, hclocks z⟩

theorem State.WithinCapacity.lines (h : s.WithinCapacity) {x : Table Line}
    (hx : ∀ z, QueueFits (Table.read {} x z).queue) : ({ s with lines := x } : State).WithinCapacity := by
  obtain ⟨h1, h2, h3, h4, -, -, hrest⟩ := h
  exact ⟨h1, h2, h3, h4, fun z => (hx z).1, fun z => (hx z).2, hrest⟩

theorem State.WithinCapacity.setLine (h : s.WithinCapacity) (z : Nat) {v : Line} (hv : QueueFits v.queue) :
    (s.setLine z v).WithinCapacity := by
  refine h.lines fun y => ?_
  rw [Table.read_write]
  split
  · exact hv
  · exact h.queue y

theorem State.WithinCapacity.setQueue (h : s.WithinCapacity) (z : Nat) {q : List QEntry} (hq : QueueFits q) :
    (s.setQueue z q).WithinCapacity := h.setLine z hq

theorem State.WithinCapacity.setSlot (h : s.WithinCapacity) (z : Nat) (v : Slot) : (s.setSlot z v).WithinCapacity :=
  h.setLine z (h.queue z)

theorem State.WithinCapacity.giveUp (h : s.WithinCapacity) (z : Nat) : (s.giveUp z).WithinCapacity :=
  h.setLine z (h.queue z)

theorem State.WithinCapacity.setLinkRecord (h : s.WithinCapacity) (z v : Nat) (r : LinkRecord) :
    (s.setLinkRecord z v r).WithinCapacity := h.setLine z (h.queue z)

theorem State.WithinCapacity.notices (h : s.WithinCapacity) {x : Table Notice}
    (hx : ∀ k, (Table.read {} x (noticeCode k)).count ≤ 255) :
    ({ s with port := { s.port with notices := x } } : State).WithinCapacity := by
  obtain ⟨h1, h2, h3, -, hrest⟩ := h
  exact ⟨h1, h2, h3, hx, hrest⟩

/-- A notice's count saturates (R198). -/
theorem raised_count_le (old : Notice) (x : Subject) : (raised old x).count ≤ 255 := by
  unfold raised; split <;> simp

theorem State.WithinCapacity.raise (h : s.WithinCapacity) (k : NoticeKind) (x : Subject) :
    (s.raise k x).WithinCapacity := by
  have hcount : ∀ j, (s.notice j).count ≤ 255 := h.2.2.2.1
  refine h.notices fun j => ?_
  rw [Table.read_write]
  split
  · exact raised_count_le (s.notice k) x
  · exact hcount j

theorem State.WithinCapacity.setOffers (h : s.WithinCapacity) {l : List Offer} (hl : l.length ≤ Config.offers) :
    (s.setOffers l).WithinCapacity := by
  obtain ⟨h1, h2, h3, h4, h5, h6, -, hrest⟩ := h
  exact ⟨h1, h2, h3, h4, h5, h6, hl, hrest⟩

theorem State.WithinCapacity.setReseats (h : s.WithinCapacity) {l : List Reseat} (hl : l.length ≤ Config.reseats) :
    (s.setReseats l).WithinCapacity := by
  obtain ⟨h1, h2, h3, h4, h5, h6, h7, -, hrest⟩ := h
  exact ⟨h1, h2, h3, h4, h5, h6, h7, hl, hrest⟩

theorem State.WithinCapacity.offers_le (h : s.WithinCapacity) : s.placement.offers.length ≤ Config.offers := by
  obtain ⟨-, -, -, -, -, -, hoffers, -⟩ := h
  exact hoffers

theorem State.WithinCapacity.reseats_le (h : s.WithinCapacity) : s.placement.reseats.length ≤ Config.reseats := by
  obtain ⟨-, -, -, -, -, -, -, hreseats, -⟩ := h
  exact hreseats

/-- A batch's counters and position reads (R178). -/
def Batch.fits (b : Batch) : Prop :=
  b.accepted ≤ 255 ∧ b.rejected ≤ 255 ∧ b.outOfSequence ≤ 255 ∧ ∀ r ∈ b.reads, r ≤ 2

theorem State.WithinCapacity.batch (h : s.WithinCapacity) : s.scoring.batch.fits := by
  obtain ⟨-, -, -, -, -, -, -, -, -, haccepted, hrejected, hout, hreads, -⟩ := h
  exact ⟨haccepted, hrejected, hout, hreads⟩

theorem State.WithinCapacity.setBatch (h : s.WithinCapacity) {b : Batch} (hb : b.fits) :
    (s.setBatch b).WithinCapacity := by
  obtain ⟨h1, h2, h3, h4, h5, h6, h7, h8, h9, -, -, -, -, hwalks⟩ := h
  obtain ⟨haccepted, hrejected, hout, hreads⟩ := hb
  exact ⟨h1, h2, h3, h4, h5, h6, h7, h8, h9, haccepted, hrejected, hout, hreads, hwalks⟩

theorem State.WithinCapacity.replies_le (h : s.WithinCapacity) : s.sheet.replies.length ≤ Config.sheetReplies := by
  obtain ⟨-, -, -, -, -, -, -, -, hreplies, -⟩ := h
  exact hreplies

theorem State.WithinCapacity.setSheet (h : s.WithinCapacity) {x : SheetPort}
    (hx : x.replies.length ≤ Config.sheetReplies) : ({ s with sheet := x } : State).WithinCapacity := by
  obtain ⟨h1, h2, h3, h4, h5, h6, h7, h8, -, hrest⟩ := h
  exact ⟨h1, h2, h3, h4, h5, h6, h7, h8, hx, hrest⟩

theorem State.WithinCapacity.walks (h : s.WithinCapacity) : s.scoring.walksBounded := by
  obtain ⟨-, -, -, -, -, -, -, -, -, -, -, -, -, hwalks⟩ := h
  exact hwalks

theorem State.WithinCapacity.setWalks (h : s.WithinCapacity) {q : List Nat} {w : Option Walk}
    (hx : ScoringUnit.walksBounded { s.scoring with walkQueue := q, walk := w }) :
    ({ s with scoring := { s.scoring with walkQueue := q, walk := w } } : State).WithinCapacity := by
  obtain ⟨h1, h2, h3, h4, h5, h6, h7, h8, h9, h10, h11, h12, h13, -⟩ := h
  exact ⟨h1, h2, h3, h4, h5, h6, h7, h8, h9, h10, h11, h12, h13, hx⟩

theorem State.WithinCapacity.setTime (h : s.WithinCapacity) {n : Nat} {b : Bool} (hn : n ≤ Config.lastSecond) :
    ({ s with hall := { s.hall with time := n, timeSet := b } } : State).WithinCapacity := by
  obtain ⟨-, hrest⟩ := h
  exact ⟨hn, hrest⟩

theorem State.WithinCapacity.setAccess (h : s.WithinCapacity) {l : Level} {w k : Nat} (hw : w ≤ 2)
    (hk : k ≤ Config.lockoutSeconds) :
    ({ s with port := { s.port with level := l, wrongEntries := w, lockout := k } } : State).WithinCapacity := by
  obtain ⟨h1, -, -, hrest⟩ := h
  exact ⟨h1, hk, hw, hrest⟩

end Sys2Proof.Machine

namespace Sys2Proof.Machine

variable {s t u : State} {bs : List Part}

/-- The first member that meets `p`, where there is one, is the one erased. -/
theorem exists_eraseFirst {α : Type} {p : α → Bool} {l : List α} {y : α} (h : l.find? p = some y) :
    ∃ a b, l = a ++ y :: b ∧ (∀ w ∈ a, p w = false) ∧ eraseFirst p l = a ++ b := by
  obtain ⟨hy, a, b, rfl, ha⟩ := List.find?_eq_some_iff_append.1 h
  have ha' : ∀ w ∈ a, p w = false := fun w hw => by simpa using ha w hw
  exact ⟨a, b, rfl, ha', (eraseFirst_append ha' hy).1⟩

/-! ### Messages handed, and entries that leave a queue -/

/-- A message handed to a line keeps its queue within capacity: a CLOCK takes the place of the one queued, another
message a free place or that of an entry evicted, and else it is dropped (R136–R138). -/
theorem State.WithinCapacity.hand (h : s.WithinCapacity) (z v : Nat) (b : Bool) (m : Msg) :
    (s.hand z v b m).WithinCapacity := by
  have hq := h.queue z
  unfold State.hand
  dsimp only
  split
  · next hc => exact h.setQueue z (hq.replaceClock (Bool.and_eq_true_iff.1 hc).1)
  · next hc =>
    have habsent : isClock m = true → v ∉ clockUnits (s.line z).queue := fun hm hv =>
      hc (Bool.and_eq_true_iff.2 ⟨hm, (any_clockTo _ _).2 hv⟩)
    split
    · next hfree => exact h.setQueue z (hq.insertByClass hfree habsent)
    · split
      · split
        · next x hx =>
          obtain ⟨l, r, hl, -, hlr⟩ := exists_eraseFirst hx
          have hsub : (eraseFirst (evictable (s.line z)) (s.line z).queue).Sublist (s.line z).queue := by
            rw [hlr, hl]; simp
          refine (h.setQueue z ((hq.sublist hsub).insertByClass ?_ fun hm hv => habsent hm ?_)).raise _ _
          · have := hq.1
            rw [hlr, List.length_append]
            rw [hl, List.length_append, List.length_cons] at this
            omega
          · exact ((hsub.filter _).map _).subset hv
        · exact h.raise _ _
      · split
        · exact h
        · exact h.raise _ _

theorem State.WithinCapacity.handOffer (h : s.WithinCapacity) (o : Offer) : (s.handOffer o).WithinCapacity := by
  unfold State.handOffer
  split
  · exact h.hand ..
  · exact h

theorem State.WithinCapacity.rehand (h : s.WithinCapacity) (z : Nat) : (s.rehand z).WithinCapacity :=
  h.foldl _ fun _ _ hu => hu.ite (hu.handOffer _)

theorem State.WithinCapacity.leaveQueue (h : s.WithinCapacity) (z : Nat) {q : List QEntry} (hq : QueueFits q) :
    (s.leaveQueue z q).WithinCapacity := ((h.setQueue z hq).rehand z).ite (h.setQueue z hq)

theorem State.WithinCapacity.removeQueued (h : s.WithinCapacity) (z : Nat) (p : QEntry → Bool) :
    (s.removeQueued z p).WithinCapacity := h.leaveQueue z ((h.queue z).sublist List.filter_sublist)

theorem State.WithinCapacity.removeOffer (h : s.WithinCapacity) (d : Nat) : (s.removeOffer d).WithinCapacity :=
  ((h.giveUp _).ite h).removeQueued _ _

/-! ### The hall is told -/

theorem State.WithinCapacity.broadcast (h : s.WithinCapacity) (k : Nat) (x : ZoneSet) :
    (s.broadcast k x).WithinCapacity := h.foldl _ fun _ _ hu => (hu.hand ..).ite hu

theorem State.WithinCapacity.queueClock (h : s.WithinCapacity) (p : Nat) (b : Bool) :
    (s.queueClock p b).WithinCapacity := by
  unfold State.queueClock
  split
  · exact h
  · split
    · exact h
    · exact (h.hand ..).ite h

theorem State.WithinCapacity.clockHoldUpdate (h : s.WithinCapacity) (k : Nat) :
    (s.clockHoldUpdate k).WithinCapacity := h.foldl _ fun _ _ hu => by
  split
  · exact hu.queueClock ..
  · exact hu

theorem State.WithinCapacity.setSitting (h : s.WithinCapacity) (k : Nat) (r : Sitting) :
    (s.setSitting k r).WithinCapacity := h.frame (State.setSitting_only s k r (List.Subset.refl _) (.refl _ _))

theorem State.WithinCapacity.changeSitting (h : s.WithinCapacity) (k : Nat) (f : Sitting → Sitting) :
    (s.changeSitting k f).WithinCapacity := by
  have bells (u : State) (hu : u.WithinCapacity) : (u.ringBells k).WithinCapacity :=
    hu.frame (State.ringBells_only u k (List.Subset.refl _) (.refl _ _))
  have written := h.setSitting k (f (s.sitting k))
  have told := State.WithinCapacity.ite
    (c := (decide ((s.sitting k).phase ≠ (f (s.sitting k)).phase)
      || decide ((s.sitting k).holds ≠ (f (s.sitting k)).holds)) = true)
    (written.broadcast k (if (f (s.sitting k)).phase = .empty then (s.sitting k).defn.zones
      else (f (s.sitting k)).defn.zones)) written
  have phased := State.WithinCapacity.ite (c := decide ((s.sitting k).phase ≠ (f (s.sitting k)).phase) = true)
    (bells _ (told.raise .phase (.sitting k))) told
  have held := State.WithinCapacity.ite (c := decide ((s.sitting k).holds ≠ (f (s.sitting k)).holds) = true)
    (phased.raise .hold (.sitting k)) phased
  exact (held.clockHoldUpdate k).ite held

end Sys2Proof.Machine

namespace Sys2Proof.Machine

variable {s t u : State} {bs : List Part}

/-! ### Seats, offers and the reseat queue -/

theorem State.WithinCapacity.enterCollecting (h : s.WithinCapacity) (k : Nat) :
    (s.enterCollecting k).WithinCapacity := h.changeSitting k _

theorem State.WithinCapacity.clockEnded (h : s.WithinCapacity) (k : Nat) : (s.clockEnded k).WithinCapacity :=
  (h.enterCollecting k).ite h

theorem State.WithinCapacity.tellEnd (h : s.WithinCapacity) (p : Nat) : (s.tellEnd p).WithinCapacity := by
  unfold State.tellEnd
  split
  · exact h.clockEnded _
  · exact h

theorem State.WithinCapacity.setEntries (h : s.WithinCapacity) (l : List Entry) : (s.setEntries l).WithinCapacity :=
  h.frame (State.setEntries_only s l (List.Subset.refl _) (.refl _ _))

theorem State.WithinCapacity.modEntry (h : s.WithinCapacity) (p : Nat) (f : Entry → Entry) :
    (s.modEntry p f).WithinCapacity := h.setEntries _

theorem State.WithinCapacity.setSeat (h : s.WithinCapacity) (d : Nat) (v : Seat) : (s.setSeat d v).WithinCapacity :=
  h.frame (State.setSeat_link_only s d v (List.Subset.refl _) (.refl _ _))

theorem State.WithinCapacity.count (h : s.WithinCapacity) (p : Nat) (f : Sitting → Sitting) :
    (s.count p f).WithinCapacity := h.frame (State.count_only s p f (List.Subset.refl _) (.refl _ _))

theorem State.WithinCapacity.requestCancel (h : s.WithinCapacity) (d : Nat) : (s.requestCancel d).WithinCapacity :=
  h.frame (State.requestCancel_only s d (List.Subset.refl _) (.refl _ _))

theorem State.WithinCapacity.requestRelease (h : s.WithinCapacity) (d : Nat) :
    (s.requestRelease d).WithinCapacity := by
  unfold State.requestRelease
  split
  · exact h
  · next p _ =>
    have freed := ((h.setSeat d { s.seat d with tenure := .empty }).modEntry p fun e => { e with seat := none }).count
      p dropPlaced
    exact State.WithinCapacity.ite (freed.hand ..) freed

/-- A full reseat queue takes no entry (R56). -/
theorem State.WithinCapacity.appendReseat (h : s.WithinCapacity) (r : Reseat) : (s.appendReseat r).WithinCapacity := by
  unfold State.appendReseat
  split
  · next hroom => exact h.setReseats (by simpa using hroom)
  · exact h.raise ..

/-- The stranded candidates join the reseat queue as far as it has places (R58). -/
theorem State.WithinCapacity.retryStranded (h : s.WithinCapacity) (d : Nat) : (s.retryStranded d).WithinCapacity := by
  have hle := h.reseats_le
  unfold State.retryStranded
  split
  · refine h.setReseats ?_
    simp only [List.length_append, List.length_map, List.length_take]
    omega
  · exact h

theorem State.WithinCapacity.releaseSeat (h : s.WithinCapacity) (d : Nat) : (s.releaseSeat d).WithinCapacity :=
  (h.requestRelease d).retryStranded d

/-- An offer is made where the table has a place for it (R39). -/
theorem State.WithinCapacity.makeOffer (h : s.WithinCapacity) (hroom : s.placement.offers.length < Config.offers)
    (p d : Nat) (x : Purpose) (o : Option Nat) : (s.makeOffer p d x o).WithinCapacity := by
  have entered := h.setOffers (l := s.placement.offers ++ [⟨d, p, x, o, .waiting⟩]) (by simpa using hroom)
  unfold State.makeOffer
  exact (entered.frame (State.requestOffer_only _ d p (List.Subset.refl _) (.refl _ _))).handOffer _

theorem State.WithinCapacity.dropOffer (h : s.WithinCapacity) (d : Nat) : (s.dropOffer d).WithinCapacity :=
  h.setOffers ((List.length_filter_le _ _).trans h.offers_le)

theorem State.WithinCapacity.putHead (h : s.WithinCapacity) (r : Reseat) : (s.putHead r).WithinCapacity := by
  unfold State.putHead
  split
  · next hroom => exact h.setReseats (by simpa using hroom)
  · exact h.raise ..

theorem State.WithinCapacity.setRun (h : s.WithinCapacity) (r : Option Run) : (s.setRun r).WithinCapacity :=
  h.frame (State.setRun_only s r (List.Subset.refl _) (.refl _ _))

theorem State.WithinCapacity.returnCandidate (h : s.WithinCapacity) (o : Offer) :
    (s.returnCandidate o).WithinCapacity := by
  unfold State.returnCandidate
  split
  · split
    · exact h.setRun _
    · exact h
  · exact h.putHead _

/-- The end of an offer: its table entry and its queued OFFER go, and CANCEL returns the seat (R53, R55). -/
theorem State.WithinCapacity.endOffer (h : s.WithinCapacity) (d : Nat) :
    (((s.dropOffer d).requestCancel d).removeOffer d).WithinCapacity := ((h.dropOffer d).requestCancel d).removeOffer d

theorem State.WithinCapacity.failOffer (h : s.WithinCapacity) (o : Offer) (tell : Bool) :
    (s.failOffer o tell).WithinCapacity := by
  have ended := h.endOffer o.seat
  unfold State.failOffer
  refine .retryStranded (.returnCandidate (.ite ?_ ended) o) _
  split
  · exact ended.hand ..
  · exact ended

theorem State.WithinCapacity.passOver (h : s.WithinCapacity) : s.passOver.WithinCapacity :=
  h.frame (State.passOver_only s (List.Subset.refl _) (.refl _ _))

theorem State.WithinCapacity.cancelOffer (h : s.WithinCapacity) (o : Offer) : (s.cancelOffer o).WithinCapacity := by
  have ended := h.endOffer o.seat
  have passed (v : State) (hv : v.WithinCapacity) :
      ((if o.purpose = .run then v.passOver else v).retryStranded o.seat).WithinCapacity :=
    .retryStranded (.ite hv.passOver hv) _
  refine passed _ (.ite ?_ ended)
  split
  · exact ended.hand ..
  · exact ended

theorem State.WithinCapacity.filterReseats (h : s.WithinCapacity) (p : Reseat → Bool) :
    (s.setReseats (s.placement.reseats.filter p)).WithinCapacity :=
  h.setReseats ((List.length_filter_le _ _).trans h.reseats_le)

theorem State.WithinCapacity.leaveRetry (h : s.WithinCapacity) (p : Nat) : (s.leaveRetry p).WithinCapacity :=
  h.frame (State.leaveRetry_only s p (List.Subset.refl _) (.refl _ _))

theorem State.WithinCapacity.endNeed (h : s.WithinCapacity) (p : Nat) : (s.endNeed p).WithinCapacity := by
  unfold State.endNeed
  split
  · exact ((h.cancelOffer _).filterReseats _).leaveRetry p
  · exact (h.filterReseats _).leaveRetry p

theorem State.WithinCapacity.releaseHeld (h : s.WithinCapacity) (p : Nat) : (s.releaseHeld p).WithinCapacity := by
  unfold State.releaseHeld
  split
  · split
    · exact h.releaseSeat _
    · exact h
  · exact h

theorem State.WithinCapacity.closeRun (h : s.WithinCapacity) (r : Run) (a : AllocState) :
    (s.closeRun r a).WithinCapacity := h.frame (State.closeRun_only s r a (List.Subset.refl _) (.refl _ _))

theorem State.WithinCapacity.checkRun (h : s.WithinCapacity) : s.checkRun.WithinCapacity := by
  unfold State.checkRun
  split
  · exact ((h.closeRun _ _).raise _ _).ite h
  · exact h

theorem State.WithinCapacity.serveRun (h : s.WithinCapacity) (hroom : s.placement.offers.length < Config.offers)
    (r : Run) (p : Nat) : (s.serveRun r p).WithinCapacity := by
  unfold State.serveRun
  split
  · split
    · split
      · exact (h.setRun (some r)).makeOffer hroom ..
      · exact h.setRun _
    · exact h.setRun _
  · exact h.setRun _

theorem State.WithinCapacity.serveReseat (h : s.WithinCapacity) (hroom : s.placement.offers.length < Config.offers)
    (r : Reseat) : (s.serveReseat r).WithinCapacity := by
  unfold State.serveReseat
  split
  · split
    · split
      · exact h.makeOffer hroom ..
      · exact h.raise ..
    · exact h
  · exact h

/-- A step of the unit serves a candidate only where the offer table has a place (R45). -/
theorem State.WithinCapacity.placementStep (h : s.WithinCapacity) : s.placementStep.WithinCapacity := by
  have hle := h.reseats_le
  unfold State.placementStep
  split
  · next hroom =>
    split
    · next rest hreseats =>
      have hrest : (s.setReseats rest).WithinCapacity := h.setReseats (by rw [hreseats] at hle; exact (Nat.le_succ _).trans hle)
      exact (hrest.serveReseat hroom _).checkRun
    · split
      · split
        · exact (h.serveRun hroom _ _).checkRun
        · split
          · exact (h.serveRun hroom _ _).checkRun
          · exact h
      · exact h
  · exact h

/-! ### Clocks and phases -/

theorem State.WithinCapacity.finishPresent (h : s.WithinCapacity) (p : Nat) : (s.finishPresent p).WithinCapacity :=
  (h.modEntry _ _).count _ _

theorem State.WithinCapacity.handIn (h : s.WithinCapacity) (p : Nat) : (s.handIn p).WithinCapacity :=
  (h.modEntry _ _).count _ _

theorem State.WithinCapacity.requestVacate (h : s.WithinCapacity) (d : Nat) : (s.requestVacate d).WithinCapacity :=
  h.frame (State.requestVacate_only s d (List.Subset.refl _) (.refl _ _))

theorem State.WithinCapacity.endPresent (h : s.WithinCapacity) (p : Nat) : (s.endPresent p).WithinCapacity := by
  have ended := (h.finishPresent p).handIn p
  unfold State.endPresent
  dsimp only
  split
  · exact (ended.requestVacate _).tellEnd p
  · exact ended.tellEnd p

theorem State.WithinCapacity.endDisplaced (h : s.WithinCapacity) (p : Nat) : (s.endDisplaced p).WithinCapacity :=
  (((((h.finishPresent p).handIn p).endNeed p).releaseHeld p).tellEnd p).checkRun

theorem State.WithinCapacity.expire (h : s.WithinCapacity) (p : Nat) : (s.expire p).WithinCapacity := by
  unfold State.expire
  split
  · split
    · exact (h.endPresent p).queueClock p true
    · exact h.endDisplaced p
    · exact (h.modEntry p _).tellEnd p
  · exact h

theorem State.WithinCapacity.queueWarn (h : s.WithinCapacity) (e : Entry) (m : Nat) :
    (s.queueWarn e m).WithinCapacity := by
  unfold State.queueWarn
  split
  · exact (h.hand ..).ite h
  · exact h

theorem State.WithinCapacity.fireWarnings (h : s.WithinCapacity) (p : Nat) : (s.fireWarnings p).WithinCapacity := by
  unfold State.fireWarnings
  split
  · next e _ =>
    have first := State.WithinCapacity.ite
      (c := markFires (s.sitting e.sitting).defn.warning1 e.remaining e.warned1 = true)
      ((h.modEntry p fun e => { e with warned1 := true }).queueWarn e 1) h
    exact .ite (.ite ((first.modEntry _ _).queueWarn e 2) first) h
  · exact h

theorem State.WithinCapacity.endRest (h : s.WithinCapacity) (p : Nat) : (s.endRest p).WithinCapacity :=
  (h.modEntry _ _).queueClock ..

theorem State.WithinCapacity.takeClock (h : s.WithinCapacity) (n : Nat) : (s.takeClock n).WithinCapacity := by
  unfold State.takeClock
  split
  · exact h
  · split
    · exact h
    · exact .ite ((h.modEntry _ _).endRest _) (h.modEntry _ _)
    · next e _ _ _ =>
      have counted := h.modEntry e.slot fun e => { e with used := e.used + 1 }
      exact .ite (counted.expire _) (.ite (counted.fireWarnings _) (.ite (counted.queueClock _ _) counted))

theorem State.WithinCapacity.startClock (h : s.WithinCapacity) (p : Nat) : (s.startClock p).WithinCapacity := by
  have started := h.modEntry p fun e => { e with clock := .running }
  have warned := started.fireWarnings p
  unfold State.startClock
  dsimp only
  split
  · exact .ite (started.expire p) (.ite (warned.queueClock p true) warned)
  · exact started

theorem State.WithinCapacity.startClocks (h : s.WithinCapacity) (k : Nat) : (s.startClocks k).WithinCapacity :=
  h.foldl _ fun _ p hu => hu.startClock p

theorem State.WithinCapacity.makeAbsent (h : s.WithinCapacity) (p : Nat) : (s.makeAbsent p).WithinCapacity :=
  ((h.modEntry _ _).releaseHeld p).endNeed p

theorem State.WithinCapacity.absences (h : s.WithinCapacity) (k : Nat) : (s.absences k).WithinCapacity :=
  (h.foldl _ fun _ p hu => hu.makeAbsent p).checkRun

theorem State.WithinCapacity.afterRebudget (h : s.WithinCapacity) (p : Nat) : (s.afterRebudget p).WithinCapacity := by
  have warned := h.fireWarnings p
  unfold State.afterRebudget
  split
  · exact .ite (.ite (h.expire p) (.ite (warned.queueClock p false) warned)) h
  · exact h

theorem State.WithinCapacity.enterOpen (h : s.WithinCapacity) (k : Nat) : (s.enterOpen k).WithinCapacity :=
  h.changeSitting k _

theorem State.WithinCapacity.enterWriting (h : s.WithinCapacity) (k : Nat) : (s.enterWriting k).WithinCapacity := by
  have started := (h.changeSitting k fun r => { r with phase := .writing, elapsed := 0 }).startClocks k
  exact .ite (started.absences k) started

theorem State.WithinCapacity.sittingStart (h : s.WithinCapacity) (k : Nat) : (s.sittingStart k).WithinCapacity :=
  .ite (h.changeSitting k _) (h.enterWriting k)

theorem State.WithinCapacity.countReading (h : s.WithinCapacity) (k : Nat) : (s.countReading k).WithinCapacity := by
  have counted := h.setSitting k { s.sitting k with readingLeft := (s.sitting k).readingLeft - 1 }
  exact .ite (counted.enterWriting k) counted

theorem State.WithinCapacity.countWriting (h : s.WithinCapacity) (k : Nat) : (s.countWriting k).WithinCapacity := by
  have counted := h.setSitting k { s.sitting k with elapsed := min Config.lastSecond ((s.sitting k).elapsed + 1) }
  unfold State.countWriting
  dsimp only
  have late {c : Prop} [Decidable c] := State.WithinCapacity.ite (c := c) (counted.absences k) counted
  exact .ite (.ite (late.changeSitting k _) (late.enterCollecting k)) late

theorem State.WithinCapacity.takeSitting (h : s.WithinCapacity) (k : Nat) : (s.takeSitting k).WithinCapacity := by
  unfold State.takeSitting
  split
  · exact .ite (.ite ((h.enterOpen k).sittingStart k) (h.enterOpen k)) h
  · exact .ite (h.sittingStart k) h
  · exact .ite h (h.countReading k)
  · exact .ite h (h.countWriting k)
  · exact .ite h (h.countWriting k)
  · exact h

end Sys2Proof.Machine

namespace Sys2Proof.Machine

variable {s t u : State} {bs : List Part}

/-! ### The hall second -/

theorem State.WithinCapacity.setOwed (h : s.WithinCapacity) (l : List HallItem) : (s.setOwed l).WithinCapacity :=
  h.frame (State.setOwed_only s l (List.Subset.refl _) (.refl _ _))

theorem State.WithinCapacity.settled (h : s.WithinCapacity) (i : HallItem) : (s.settled i).WithinCapacity :=
  h.setOwed _

theorem State.WithinCapacity.mapOffers (h : s.WithinCapacity) (f : Offer → Offer) :
    (s.setOffers (s.placement.offers.map f)).WithinCapacity := h.setOffers (by simpa using h.offers_le)

theorem State.WithinCapacity.failDeadline (h : s.WithinCapacity) (d : Nat) : (s.failDeadline d).WithinCapacity := by
  unfold State.failDeadline
  split
  · exact h.failOffer ..
  · exact h

theorem State.WithinCapacity.takeOffers (h : s.WithinCapacity) : s.takeOffers.WithinCapacity :=
  (h.mapOffers tickOffer).foldl _ fun _ d hu => hu.failDeadline d

theorem State.WithinCapacity.takeLockout (h : s.WithinCapacity) : s.takeLockout.WithinCapacity := by
  obtain ⟨-, hlock, hwrong, -⟩ := id h
  exact h.setAccess hwrong ((Nat.sub_le _ _).trans hlock)

theorem State.WithinCapacity.take (h : s.WithinCapacity) (i : HallItem) : (s.take i).WithinCapacity := by
  cases i with
  | lockout => exact h.takeLockout
  | offers => exact h.takeOffers
  | clock n => exact h.takeClock n
  | bell o => exact h.frame (State.takeBell_only s o (List.Subset.refl _) (.refl _ _))
  | sitting k => exact h.takeSitting k

theorem State.WithinCapacity.catchUp (h : s.WithinCapacity) : s.catchUp.WithinCapacity :=
  ((h.setOwed []).foldl _ fun _ d hu => hu.failDeadline d).foldl _ fun _ i hu => hu.take i

theorem State.WithinCapacity.advanceTime (h : s.WithinCapacity) : s.advanceTime.WithinCapacity :=
  h.setTime (Nat.min_le_left _ _)

theorem State.WithinCapacity.takeSecond (h : s.WithinCapacity) (l : List HallItem) : (s.takeSecond l).WithinCapacity :=
  (h.setOwed _).foldl _ fun _ i hu => hu.take i

theorem State.WithinCapacity.reach (h : s.WithinCapacity) (i : HallItem) (b : Bool) : (s.reach i b).WithinCapacity :=
  .ite ((h.settled i).take i) h

/-! ### Scripts and trays -/

theorem State.WithinCapacity.showTray (h : s.WithinCapacity) (v : Nat) : (s.showTray v).WithinCapacity :=
  .ite (h.hand ..) h

theorem State.WithinCapacity.setTray (h : s.WithinCapacity) (v : Nat) (r : Tray) : (s.setTray v r).WithinCapacity :=
  h.frame (State.setTray_only s v r (List.Subset.refl _) (.refl _ _))

theorem State.WithinCapacity.releaseVacated (h : s.WithinCapacity) (p : Nat) : (s.releaseVacated p).WithinCapacity := by
  unfold State.releaseVacated
  split
  · split
    · exact h.releaseSeat _
    · exact h
  · exact h

theorem State.WithinCapacity.acceptTag (h : s.WithinCapacity) (v tag : Nat) (e : Entry) :
    (s.acceptTag v tag e).WithinCapacity := (((h.setTray v _).modEntry _ _).count _ _).releaseVacated _

theorem State.WithinCapacity.readTag (h : s.WithinCapacity) (v tag : Nat) : (s.readTag v tag).WithinCapacity := by
  unfold State.readTag
  refine .hand ?_ ..
  split
  · split
    · exact h.acceptTag ..
    · exact h
  · exact h.raise ..
  · split
    · exact h.raise ..
    · exact h
  · exact h

theorem State.WithinCapacity.dropPosition (h : s.WithinCapacity) (p : Nat) : (s.dropPosition p).WithinCapacity := by
  obtain ⟨haccepted, hrejected, hout, hreads⟩ := h.batch
  refine h.setBatch ⟨haccepted, hrejected, hout, fun r hr => hreads r ?_⟩
  unfold removeAt at hr
  split at hr
  · exact hr
  · exact (List.eraseIdx_sublist _ _).subset hr

theorem State.WithinCapacity.removeTag (h : s.WithinCapacity) (v tag : Nat) : (s.removeTag v tag).WithinCapacity := by
  unfold State.removeTag
  split
  · have taken := h.setTray v (withoutTag (s.tray v) tag)
    exact .showTray (.ite (taken.dropPosition _) taken) v
  · exact h

theorem State.WithinCapacity.voidIssued (h : s.WithinCapacity) (e : Entry) : (s.voidIssued e).WithinCapacity := by
  have finished := h.finishPresent e.slot
  unfold State.voidIssued
  dsimp only
  split
  · exact (((finished.endNeed _).releaseHeld _).tellEnd _).checkRun
  · split
    · exact (finished.releaseSeat _).tellEnd _
    · exact finished.tellEnd _

theorem State.WithinCapacity.voidCollected (h : s.WithinCapacity) (e : Entry) : (s.voidCollected e).WithinCapacity := by
  unfold State.voidCollected
  refine .count (.modEntry ?_ ..) ..
  split
  · exact h.removeTag ..
  · exact h

theorem State.WithinCapacity.voidScript (h : s.WithinCapacity) (e : Entry) : (s.voidScript e).WithinCapacity := by
  have voided := h.modEntry e.slot fun x => { x with custody := .void }
  unfold State.voidScript
  dsimp only
  split
  · exact voided.voidIssued e
  · exact (voided.count _ _).releaseVacated _
  · exact voided.voidCollected e

theorem State.WithinCapacity.deleteEntry (h : s.WithinCapacity) (p : Nat) : (s.deleteEntry p).WithinCapacity :=
  h.frame (State.deleteEntry_only s p (List.Subset.refl _) (.refl _ _))

/-! ### Marks and rescore walks -/

theorem State.WithinCapacity.countFinal (h : s.WithinCapacity) (k : Nat) : (s.countFinal k).WithinCapacity :=
  h.setSitting k _

theorem State.WithinCapacity.settle (h : s.WithinCapacity) (e : Entry) (r : MarkRecord) :
    (s.settle e r).WithinCapacity :=
  .ite ((h.modEntry _ _).countFinal _) (.ite ((h.modEntry _ _).raise ..) ((h.modEntry _ _).raise ..))

/-- The sitting at the head of the walk queue is walked (R173). -/
theorem State.WithinCapacity.startWalk (h : s.WithinCapacity) : s.startWalk.WithinCapacity := by
  obtain ⟨hlen, hnodup, hbound, -⟩ := h.walks
  unfold State.startWalk
  split
  · next k rest hwalk hqueue =>
    rw [hqueue] at hlen hnodup hbound
    obtain ⟨hk, hrest⟩ := List.nodup_cons.1 hnodup
    refine h.setWalks ⟨(Nat.le_succ _).trans hlen, hrest, fun j hj => hbound j (List.mem_cons_of_mem _ hj), ?_⟩
    rintro w ⟨rfl⟩
    exact ⟨hbound k List.mem_cons_self, hk⟩
  · exact h

/-- A duplicate-free list of sittings holds no more than there are (R173). -/
theorem length_le_sittings {l : List Nat} (hl : l.Nodup) (hb : ∀ k ∈ l, k < Config.sittings) :
    l.length ≤ Config.sittings := by
  simpa using (List.subperm_of_subset hl fun k hk => List.mem_range.2 (hb k hk)).length_le

/-- A sitting neither walked nor queued is queued for a walk (R173). -/
theorem State.WithinCapacity.appendWalk (h : s.WithinCapacity) {k : Nat} (hk : k < Config.sittings)
    (hqueued : s.scoring.walkQueue.contains k = false) (hwalked : ∀ w, s.scoring.walk = some w → w.sitting ≠ k) :
    ({ s with scoring := { s.scoring with walkQueue := s.scoring.walkQueue ++ [k] } } : State).WithinCapacity := by
  obtain ⟨-, hnodup, hbound, hwalk⟩ := h.walks
  have hnew : k ∉ s.scoring.walkQueue := by simpa using hqueued
  have hbound' : ∀ j ∈ s.scoring.walkQueue ++ [k], j < Config.sittings := by
    intro j hj
    rcases List.mem_append.1 hj with hj | hj
    · exact hbound j hj
    · rwa [List.mem_singleton.1 hj]
  have hnodup' : (s.scoring.walkQueue ++ [k]).Nodup :=
    hnodup.append (List.nodup_singleton k) (by simpa using hnew)
  refine h.setWalks ⟨length_le_sittings hnodup' hbound', hnodup', hbound', fun w hw => ?_⟩
  obtain ⟨hsitting, hout⟩ := hwalk w hw
  exact ⟨hsitting, by simpa [hout] using hwalked w hw⟩

theorem State.WithinCapacity.queueWalk (h : s.WithinCapacity) {k : Nat} (hk : k < Config.sittings) :
    (s.queueWalk k).WithinCapacity := by
  obtain ⟨hlen, hnodup, hbound, hwalk⟩ := h.walks
  unfold State.queueWalk
  split
  · next w hw =>
    split
    · refine h.setWalks ⟨hlen, hnodup, hbound, ?_⟩
      rintro w' ⟨rfl⟩
      exact hwalk w hw
    · next hne =>
      split
      · exact h
      · next hc =>
        refine h.appendWalk hk (by simpa using hc) fun w' hw' => ?_
        rw [hw] at hw'
        cases hw'
        exact hne
  · next hw =>
    split
    · exact h.startWalk
    · next hc => exact (h.appendWalk hk (by simpa using hc) (by simp [hw])).startWalk

theorem State.WithinCapacity.walkStep (h : s.WithinCapacity) : s.walkStep.WithinCapacity := by
  obtain ⟨hlen, hnodup, hbound, hwalk⟩ := h.walks
  unfold State.walkStep
  split
  · exact h
  · next w hw =>
    split
    · next e _ =>
      have moved : ({ s with scoring := { s.scoring with walk := some { w with position := some e.number } } } :
          State).WithinCapacity := by
        refine h.setWalks ⟨hlen, hnodup, hbound, ?_⟩
        rintro w' ⟨rfl⟩
        exact hwalk w hw
      dsimp only
      split
      · exact .ite (moved.modEntry _ _) moved
      · exact moved
    · have ended : ({ s with scoring := { s.scoring with walk := none } } : State).WithinCapacity :=
        h.setWalks ⟨hlen, hnodup, hbound, by simp⟩
      exact (ended.raise _ _).startWalk

/-! ### Sheets and batches -/

theorem State.WithinCapacity.finishTask (h : s.WithinCapacity) {c : ResultCode} {b : Bool} {r : Report} :
    (s.finishTask c b r).WithinCapacity := h.frame (State.finishTask_only s c b r (List.Subset.refl _) (.refl _ _))

theorem State.WithinCapacity.refuse (h : s.WithinCapacity) {c : ResultCode} : (s.refuse c).WithinCapacity :=
  h.finishTask

/-- A verdict counted: the counters saturate (R178). -/
theorem Batch.fits.countVerdict {b : Batch} (h : b.fits) (v : SheetVerdict) : (countVerdict b v).fits := by
  obtain ⟨haccepted, hrejected, hout, hreads⟩ := h
  unfold Machine.countVerdict
  split
  · split
    · exact ⟨Nat.min_le_left _ _, hrejected, hout, hreads⟩
    · exact ⟨haccepted, Nat.min_le_left _ _, hout, hreads⟩
  · exact ⟨haccepted, hrejected, hout, hreads⟩

/-- A fifth verdict finds the head already sent (R148). -/
theorem State.WithinCapacity.pushReply (h : s.WithinCapacity) (r : SheetReply) : (s.pushReply r).WithinCapacity := by
  have hle := h.replies_le
  unfold State.pushReply
  split
  · next x rest hreplies =>
    split
    · exact h.setSheet (by simpa [hreplies] using hle)
    · next hroom =>
      refine h.setSheet ?_
      simp only [List.length_append, List.length_singleton]
      omega
  · exact h.setSheet (by simp)

theorem State.WithinCapacity.decideSheet (h : s.WithinCapacity) (n tag : Nat) (v : SheetVerdict) :
    (s.decideSheet n tag v).WithinCapacity :=
  (State.WithinCapacity.setBatch (.ite h (h.raise _ _)) (h.batch.countVerdict v)).pushReply _

theorem State.WithinCapacity.setBuffer (h : s.WithinCapacity) (i : Nat) (b : Buffer) : (s.setBuffer i b).WithinCapacity :=
  h.setSheet h.replies_le

theorem State.WithinCapacity.freeBuffer (h : s.WithinCapacity) (i : Nat) : (s.freeBuffer i).WithinCapacity :=
  (h.setBuffer i {}).setSheet h.replies_le

theorem Batch.fits_default : ({} : Batch).fits := by
  refine ⟨?_, ?_, ?_, ?_⟩ <;> simp

theorem State.WithinCapacity.closeBatch (h : s.WithinCapacity) : s.closeBatch.WithinCapacity :=
  ((((h.setTray _ _).showTray _).raise ..).setBatch Batch.fits_default).finishTask

theorem State.WithinCapacity.settleOwed (h : s.WithinCapacity) (i : Nat) : (s.settleOwed i).WithinCapacity := by
  have settled := h.setBatch (b := { s.scoring.batch with owed := s.scoring.batch.owed.filter (· != i) }) h.batch
  exact .ite (.ite settled.closeBatch settled) h

theorem State.WithinCapacity.answerSheet (h : s.WithinCapacity) (i : Nat) (v : SheetVerdict) :
    (s.answerSheet i v).WithinCapacity :=
  (((h.setSheet (x := { s.sheet with job := none }) h.replies_le).decideSheet ..).freeBuffer i).settleOwed i

theorem State.WithinCapacity.takeSheet (h : s.WithinCapacity) (i : Nat) : (s.takeSheet i).WithinCapacity := by
  unfold State.takeSheet
  split
  · exact h.answerSheet ..
  · split
    · exact h.answerSheet ..
    · exact (h.setBuffer i _).setSheet h.replies_le

theorem State.WithinCapacity.decoderStep (h : s.WithinCapacity) : s.decoderStep.WithinCapacity := by
  unfold State.decoderStep
  split
  · exact h
  · split
    · exact h.takeSheet _
    · exact h

theorem State.WithinCapacity.storeSecond (h : s.WithinCapacity) (e : Entry) (m : MarkRecord) :
    (s.storeSecond e m).WithinCapacity := .ite (h.settle ..) ((h.modEntry _ _).raise ..)

theorem State.WithinCapacity.storeRead (h : s.WithinCapacity) (e : Entry) (r : Read) (b : Bool) :
    (s.storeRead e r b).WithinCapacity := by
  unfold State.storeRead
  split
  · exact h.storeSecond ..
  · dsimp only
    split
    · exact h.settle ..
    · exact h.modEntry ..

/-- A matched sheet raises the read count of its position to 2 at most (R181). -/
theorem State.WithinCapacity.matchSheet (h : s.WithinCapacity) (p : Nat) (b : Bool) :
    (s.matchSheet p b).WithinCapacity := by
  obtain ⟨haccepted, hrejected, hout, hreads⟩ := h.batch
  refine h.setBatch ⟨haccepted, hrejected, ?_, fun r hr => ?_⟩
  · dsimp only
    split
    · exact Nat.min_le_left _ _
    · exact hout
  · obtain ⟨⟨c, i⟩, hci, rfl⟩ := List.mem_map.1 hr
    dsimp only
    split
    · exact Nat.min_le_left _ _
    · exact hreads c (List.fst_mem_of_mem_zipIdx hci)

theorem State.WithinCapacity.identify (h : s.WithinCapacity) (tag : Nat) (r : Read) :
    (s.identify tag r).1.WithinCapacity := by
  unfold State.identify
  split
  · exact h
  · split
    · exact h
    · split
      · exact h
      · split
        · exact h.matchSheet ..
        · exact (h.matchSheet ..).storeRead ..

theorem State.WithinCapacity.handOver (h : s.WithinCapacity) (j : DecodeJob) : (s.handOver j).WithinCapacity :=
  (h.identify _ _).answerSheet ..

theorem State.WithinCapacity.decoderEvent (h : s.WithinCapacity) : s.decoderEvent.WithinCapacity := by
  unfold State.decoderEvent
  split
  · exact h.handOver _
  · exact h.decoderStep

theorem State.WithinCapacity.refuseSheet (h : s.WithinCapacity) (r : Receiving) (l : List Octet) (v : SheetVerdict) :
    (s.refuseSheet r l v).WithinCapacity := by
  have ended := h.setSheet (x := { s.sheet with receiving := none }) h.replies_le
  unfold State.refuseSheet
  refine .decideSheet ?_ ..
  split
  · exact ended.freeBuffer _
  · exact ended

theorem State.WithinCapacity.keepSheet (h : s.WithinCapacity) (i : Nat) (l : List Octet) :
    (s.keepSheet i l).WithinCapacity := (h.setBuffer i _).setSheet h.replies_le

/-! ### Slots, links and units -/

theorem State.WithinCapacity.headCheck (h : s.WithinCapacity) (z : Nat) : (s.headCheck z).WithinCapacity :=
  h.leaveQueue z ((h.queue z).sublist (List.dropWhile_sublist _))

/-- The choice of a frame marks the head of the queue alone (R126). -/
theorem Line.choose_fits {l m : Line} (hm : l.choose = some m) (h : QueueFits l.queue) : QueueFits m.queue := by
  unfold Line.choose at hm
  dsimp only at hm
  split at hm
  · cases hm; exact h
  · split at hm
    · next x rest hq =>
      cases hm
      rw [hq] at h
      unfold QueueFits clockUnits at h ⊢
      simpa [Line.sendHead, List.filter_cons, apply_ite] using h
    · split at hm
      · cases hm; exact h
      · obtain ⟨v, -, rfl⟩ := Option.map_eq_some_iff.1 hm
        exact h

theorem State.WithinCapacity.startSlot (h : s.WithinCapacity) (z : Nat) : (s.startSlot z).WithinCapacity := by
  have checked := h.headCheck z
  unfold State.startSlot
  split
  · dsimp only
    split
    · next hl => exact checked.setLine z (Line.choose_fits hl (checked.queue z))
    · exact checked
  · exact h

theorem State.WithinCapacity.endFrame (h : s.WithinCapacity) (z : Nat) (f : Frame) : (s.endFrame z f).WithinCapacity := by
  have sent := h.setLine z (v := { s.line z with
      slot := .window f
      queue := (s.line z).queue.map fun x => if x.inSlot then { x with transmitted := true } else x })
    ((h.queue z).map fun x => by split <;> simp)
  exact .ite ((h.setSlot z .idle).leaveQueue z ((h.queue z).sublist List.filter_sublist))
    (.ite (sent.mapOffers _) sent)

theorem QueueFits.unslotted {q : List QEntry} (h : QueueFits q) : QueueFits (q.map unslotted) :=
  h.map fun _ => ⟨rfl, rfl⟩

theorem State.WithinCapacity.endGood (h : s.WithinCapacity) (z : Nat) : (s.endGood z).WithinCapacity :=
  (h.setSlot z .idle).leaveQueue z ((h.queue z).sublist List.filter_sublist).unslotted

theorem State.WithinCapacity.endMiss (h : s.WithinCapacity) (z : Nat) : (s.endMiss z).WithinCapacity :=
  h.setLine z (h.queue z).unslotted

theorem State.WithinCapacity.loseCandidate (h : s.WithinCapacity) (d p : Nat) (b : Bool) :
    (s.loseCandidate d p b).WithinCapacity := by
  have left := (h.requestRelease d).appendReseat { slot := p, former := some d, excluded := none }
  exact .raise (.ite (left.modEntry _ _) left) ..

theorem State.WithinCapacity.loseSeat (h : s.WithinCapacity) (d : Nat) : (s.loseSeat d).WithinCapacity := by
  have down := h.setSeat d { s.seat d with link := .down }
  unfold State.loseSeat
  dsimp only
  split
  · exact down
  · split
    · exact down.failOffer ..
    · exact down
  · exact down.loseCandidate ..
  · exact down.loseCandidate ..
  · exact down

theorem State.WithinCapacity.goDown (h : s.WithinCapacity) (z v : Nat) : (s.goDown z v).WithinCapacity := by
  have lost := (h.setLinkRecord z v
    { s.linkRecord z v with state := .down, misses := 0, goods := 0, joinAwaited := false }).raise
    .deskLost (unitSubject z v)
  exact .ite (lost.loseSeat _) lost

theorem State.WithinCapacity.countMiss (h : s.WithinCapacity) (z v : Nat) : (s.countMiss z v).WithinCapacity := by
  unfold State.countMiss
  dsimp only
  split
  · exact h
  · exact h.setLinkRecord ..
  · exact .ite (h.goDown z v) (h.setLinkRecord ..)

theorem State.WithinCapacity.regainSeat (h : s.WithinCapacity) (d : Nat) : (s.regainSeat d).WithinCapacity :=
  (h.setSeat d _).retryStranded d

theorem State.WithinCapacity.handResync (h : s.WithinCapacity) (z v : Nat) : (s.handResync z v).WithinCapacity :=
  .ite h (h.hand ..)

theorem State.WithinCapacity.goUp (h : s.WithinCapacity) (z v : Nat) : (s.goUp z v).WithinCapacity := by
  have regained := (h.setLinkRecord z v
    { s.linkRecord z v with state := .up, misses := 0, goods := 0, joinAwaited := true }).raise
    .deskRegained (unitSubject z v)
  exact .handResync (.ite (regained.regainSeat _) regained) z v

theorem State.WithinCapacity.countGood (h : s.WithinCapacity) (z v : Nat) : (s.countGood z v).WithinCapacity := by
  unfold State.countGood
  dsimp only
  split
  · exact h
  · exact h.setLinkRecord ..
  · exact .ite (h.goUp z v) (h.setLinkRecord ..)

theorem State.WithinCapacity.answer (h : s.WithinCapacity) (z v : Nat) {body : State → State}
    (hbody : ∀ w : State, w.WithinCapacity → (body w).WithinCapacity) : (s.answer z v body).WithinCapacity := by
  unfold State.answer
  split
  · exact h
  · exact .ite (h.endGood z) (hbody _ (h.endGood z))

theorem State.WithinCapacity.takeEvent (h : s.WithinCapacity) (z v : Nat) (n : Bool) {body : State → State}
    (hbody : ∀ w : State, w.WithinCapacity → (body w).WithinCapacity) : (s.takeEvent z v n body).WithinCapacity :=
  h.answer z v fun _ hw => .ite (hbody _ ((hw.countGood z v).setLinkRecord ..)) (hw.countGood z v)

theorem State.WithinCapacity.deskEvent (h : s.WithinCapacity) (z v : Nat) (n : Bool) {body : Nat → State → State}
    (hbody : ∀ (d : Nat) (w : State), w.WithinCapacity → (body d w).WithinCapacity) :
    (s.deskEvent z v n body).WithinCapacity := h.takeEvent z v n fun w hw => .ite (hbody _ w hw) hw

theorem State.WithinCapacity.showCandidate (h : s.WithinCapacity) (d p : Nat) (x : Nat → Nat → Shown) :
    (s.showCandidate d p x).WithinCapacity := by
  unfold State.showCandidate
  split
  · exact (h.hand ..).hand ..
  · exact h

theorem State.WithinCapacity.showSeat (h : s.WithinCapacity) (d : Nat) (x : Shown) : (s.showSeat d x).WithinCapacity :=
  h.hand ..

theorem State.WithinCapacity.joinSeat (h : s.WithinCapacity) (d : Nat) (c : CapSet) :
    (s.joinSeat d c).WithinCapacity := by
  have joined := h.setSeat d { s.seat d with caps := c }
  unfold State.joinSeat
  dsimp only
  split
  · exact (joined.showSeat ..).retryStranded d
  · split
    · exact (joined.failOffer ..).showSeat ..
    · exact joined
  · exact joined.showCandidate ..
  · exact (joined.showCandidate ..).queueClock ..
  · exact joined.showSeat ..

theorem State.WithinCapacity.deliverJoin (h : s.WithinCapacity) (z v : Nat) (c : CapSet) :
    (s.deliverJoin z v c).WithinCapacity := by
  have removed := h.removeQueued z (resyncTo v)
  exact .ite (removed.joinSeat ..) (removed.showTray _)

theorem State.WithinCapacity.joinUnknown (h : s.WithinCapacity) (z v : Nat) (c : CapSet) :
    (s.joinUnknown z v c).WithinCapacity := by
  have linked := h.setLinkRecord z v { state := .up }
  exact .deliverJoin (.ite (linked.setSeat ..) linked) z v c

theorem State.WithinCapacity.joinKnown (h : s.WithinCapacity) (z v : Nat) (c : CapSet) :
    (s.joinKnown z v c).WithinCapacity := ((h.countGood z v).setLinkRecord ..).deliverJoin z v c

theorem State.WithinCapacity.takeJoin (h : s.WithinCapacity) (z v : Nat) (k : UnitKind) (c : CapSet) :
    (s.takeJoin z v k c).WithinCapacity := by
  have ended := h.endGood z
  unfold State.takeJoin
  split
  · exact h
  · dsimp only
    split
    · exact .ite (ended.joinUnknown z v c) ended
    · exact .ite ended (ended.joinKnown z v c)
    · exact .ite ended (ended.countGood z v)

theorem State.WithinCapacity.closeWindow (h : s.WithinCapacity) (z : Nat) (f : Frame) :
    (s.closeWindow z f).WithinCapacity := .ite (h.endMiss z) ((h.endMiss z).countMiss z _)

/-! ### Desk events -/

theorem State.WithinCapacity.answerDesk (h : s.WithinCapacity) (d : Nat) (k : EventKind) (n : Nat) (v : DeskVerdict) :
    (s.answerDesk d k n v).WithinCapacity := h.hand ..

theorem State.WithinCapacity.acceptCheckin (h : s.WithinCapacity) (d : Nat) (e : Entry) (tag : Nat) :
    (s.acceptCheckin d e tag).WithinCapacity :=
  h.frame (State.acceptCheckin_only s d e tag (List.Subset.refl _) (.refl _ _))

theorem State.WithinCapacity.checkin (h : s.WithinCapacity) (d n tag : Nat) : (s.checkin d n tag).WithinCapacity := by
  unfold State.checkin
  split
  · exact h.answerDesk ..
  · split
    · exact ((h.acceptCheckin ..).answerDesk ..).queueClock ..
    · exact h.answerDesk ..

theorem State.WithinCapacity.handin (h : s.WithinCapacity) (d n : Nat) : (s.handin d n).WithinCapacity := by
  unfold State.handin
  split
  · exact h.answerDesk ..
  · split
    · exact ((h.endPresent _).answerDesk ..).queueClock ..
    · exact h.answerDesk ..

theorem State.WithinCapacity.restBegin (h : s.WithinCapacity) (d n : Nat) : (s.restBegin d n).WithinCapacity := by
  unfold State.restBegin
  split
  · exact h.answerDesk ..
  · split
    · exact .ite (h.answerDesk ..) (((h.modEntry _ _).answerDesk ..).queueClock ..)
    · exact h.answerDesk ..

theorem State.WithinCapacity.restEnd (h : s.WithinCapacity) (d n : Nat) : (s.restEnd d n).WithinCapacity := by
  unfold State.restEnd
  split
  · exact h.answerDesk ..
  · split
    · exact .ite (((h.modEntry _ _).answerDesk ..).queueClock ..) (h.answerDesk ..)
    · exact h.answerDesk ..

theorem State.WithinCapacity.acceptOffer (h : s.WithinCapacity) (o : Offer) : (s.acceptOffer o).WithinCapacity := by
  have placed := ((h.dropOffer o.seat).frame
    (State.requestPlace_only _ o.seat (List.Subset.refl _) (.refl _ _))).removeOffer o.seat
  exact ((placed.showCandidate ..).frame (State.countPlaced_only _ o (List.Subset.refl _) (.refl _ _))).checkRun

theorem State.WithinCapacity.refuseOffer (h : s.WithinCapacity) (o : Offer) (c : CapSet) :
    (s.refuseOffer o c).WithinCapacity := (h.setSeat ..).failOffer ..

end Sys2Proof.Machine

namespace Sys2Proof.Machine

variable {s t u : State} {bs : List Part}

/-! ### Tasks -/

theorem task_within {k : Task} {body : State → State} (hs : s.WithinCapacity)
    (h : (Host.Outcome.next (s.atPort k body) : Result) = .next t)
    (hbody : ∀ u : State, u.WithinCapacity → (body u).WithinCapacity) : t.WithinCapacity :=
  task_keeps (P := fun u => u.WithinCapacity) h (fun _ _ hm hu => hu.frame hm) hs hbody

theorem State.WithinCapacity.withCandidate (h : s.WithinCapacity) {n : Nat} {body : Entry → State}
    (hbody : ∀ e, (body e).WithinCapacity) : (s.withCandidate n body).WithinCapacity := by
  unfold State.withCandidate
  split
  · exact h.refuse
  · split
    · exact h.refuse
    · exact hbody _

/-- The third wrong entry starts the lockout (R200). -/
theorem State.WithinCapacity.wrongEntry (h : s.WithinCapacity) : s.wrongEntry.WithinCapacity := by
  obtain ⟨-, hlock, -⟩ := id h
  unfold State.wrongEntry
  split
  · next hfew => exact h.setAccess (by omega) hlock
  · exact h.setAccess (by simp) (Nat.le_refl _)

theorem execEnterLevel_within {l p} (hs : s.WithinCapacity) (h : execEnterLevel l p s = .next t) : t.WithinCapacity :=
  task_within hs h fun u hu => by
    obtain ⟨-, hlock, -⟩ := id hu
    cases l with
    | none => exact hu.refuse
    | some l => exact .ite hu.refuse (.ite (hu.setAccess (by simp) hlock).finishTask hu.wrongEntry.refuse)

theorem execLeaveLevel_within (hs : s.WithinCapacity) (h : execLeaveLevel s = .next t) : t.WithinCapacity :=
  task_within hs h fun u hu => by
    obtain ⟨-, hlock, hwrong, -⟩ := id hu
    exact (hu.setAccess hwrong hlock).finishTask

theorem execReadNotices_within (hs : s.WithinCapacity) (h : execReadNotices s = .next t) : t.WithinCapacity :=
  task_within hs h fun _ hu => (hu.notices (x := []) fun _ => by simp [Table.read]).finishTask

theorem execWithdraw_within {n} (hs : s.WithinCapacity) (h : execWithdraw n s = .next t) : t.WithinCapacity :=
  task_within hs h fun u hu => by
    dsimp only
    split
    · exact hu.refuse
    · next e _ =>
      have left := (hu.endNeed e.slot).frame (State.leaveList_only _ e.slot (List.Subset.refl _) (.refl _ _))
      exact .ite hu.refuse ((left.releaseHeld _).deleteEntry _).checkRun.finishTask

theorem State.WithinCapacity.amendAllowance (h : s.WithinCapacity) (p : Nat) (a : Option Nat) :
    (s.amendAllowance p a).WithinCapacity := by
  unfold State.amendAllowance
  split
  · exact h
  · split
    · exact h
    · exact (h.modEntry _ _).afterRebudget p

theorem State.WithinCapacity.amendRest (h : s.WithinCapacity) (p : Nat) (r : Option Nat) :
    (s.amendRest p r).WithinCapacity := by
  unfold State.amendRest
  split
  · exact h
  · split
    · exact h
    · exact .ite ((h.modEntry _ _).endRest p) (h.modEntry _ _)

theorem execAmend_within {n c a r} (hs : s.WithinCapacity) (h : execAmend n c a r s = .next t) : t.WithinCapacity :=
  task_within hs h fun u hu => by
    dsimp only
    split
    · exact hu.refuse
    · exact .ite hu.refuse (.ite hu.refuse (.ite hu.refuse
        (((hu.modEntry _ _).amendAllowance _ a).amendRest _ r).finishTask))

theorem State.WithinCapacity.flagSeat (h : s.WithinCapacity) (d : Nat) (b : Bool) : (s.flagSeat d b).WithinCapacity := by
  have flagged := h.setSeat d { s.seat d with disabled := b }
  exact .ite (flagged.showSeat ..) flagged

theorem execDisableSeat_within {d} (hs : s.WithinCapacity) (h : execDisableSeat d s = .next t) : t.WithinCapacity :=
  task_within hs h fun _ hu => .ite hu.refuse (.ite hu.refuse (hu.flagSeat d true).finishTask)

theorem execEnableSeat_within {d} (hs : s.WithinCapacity) (h : execEnableSeat d s = .next t) : t.WithinCapacity :=
  task_within hs h fun _ hu =>
    .ite hu.refuse (State.WithinCapacity.ite ((hu.flagSeat d false).retryStranded d) (hu.flagSeat d false)).finishTask

theorem execAllocate_within {k} (hs : s.WithinCapacity) (h : execAllocate k s = .next t) : t.WithinCapacity :=
  task_within hs h fun u hu => .ite hu.refuse (.ite hu.refuse (.ite hu.refuse
    (hu.frame (State.startRun_only u k (List.Subset.refl _) (.refl _ _))).checkRun.finishTask))

theorem execAbortAllocation_within {k} (hs : s.WithinCapacity) (h : execAbortAllocation k s = .next t) :
    t.WithinCapacity :=
  task_within hs h fun u hu => by
    have cancelled : (u.runOffers.foldl State.cancelOffer u).WithinCapacity :=
      hu.foldl _ fun _ o hv => hv.cancelOffer o
    refine .ite hu.refuse (.ite hu.refuse ?_)
    split
    · exact hu.refuse
    · refine State.WithinCapacity.finishTask ?_
      split
      · exact cancelled.closeRun ..
      · exact cancelled

theorem State.WithinCapacity.leaveSeat (h : s.WithinCapacity) (e : Entry) : (s.leaveSeat e).WithinCapacity := by
  have displaced (v : State) (hv : v.WithinCapacity) :
      (if e.presence = .present then v.displace e.slot else v).WithinCapacity := .ite (hv.modEntry _ _) hv
  refine displaced _ ?_
  split
  · exact h.requestRelease _
  · exact h

theorem State.leaveSeat_offers (s : State) (e : Entry) : (s.leaveSeat e).placement.offers = s.placement.offers :=
  (State.leaveSeat_only s e (List.Subset.refl _) (.refl _ _)).rest .offers (by decide)

/-- A MOVE to a seat is carried out where the offer table has a place (R60). -/
theorem State.WithinCapacity.carryMove (h : s.WithinCapacity) (e : Entry) (x : MoveTarget)
    (hx : s.moveRefusal e x = none) : (s.carryMove e x).WithinCapacity := by
  have left := h.leaveSeat e
  unfold State.carryMove
  refine State.WithinCapacity.checkRun ?_
  cases x with
  | seat d =>
    have hroom : (s.leaveSeat e).placement.offers.length < Config.offers := by
      rw [State.leaveSeat_offers]
      unfold State.moveRefusal at hx
      dsimp only at hx
      split_ifs at hx with _ hfull
      exact Nat.lt_of_not_le hfull
    dsimp only
    split
    · exact (left.makeOffer hroom ..).retryStranded _
    · exact left.makeOffer hroom ..
  | anySeat =>
    dsimp only
    split
    · exact (left.appendReseat _).retryStranded _
    · exact left.appendReseat _

theorem execMove_within {n x} (hs : s.WithinCapacity) (h : execMove n x s = .next t) : t.WithinCapacity :=
  task_within hs h fun u hu => .ite hu.refuse (hu.withCandidate fun e => .ite hu.refuse (.ite hu.refuse (by
    split
    · exact hu.refuse
    · next hx => exact (hu.carryMove e x hx).finishTask)))

theorem State.WithinCapacity.failRestart (h : s.WithinCapacity) (d : Nat) : (s.failRestart d).WithinCapacity := by
  unfold State.failRestart
  split
  · exact h.failOffer ..
  · exact h

theorem State.WithinCapacity.clearLine (h : s.WithinCapacity) (z : Nat) : (s.clearLine z).WithinCapacity :=
  (h.giveUp z).setQueue z .nil

theorem State.WithinCapacity.retellPhases (h : s.WithinCapacity) (z : Nat) : (s.retellPhases z).WithinCapacity :=
  h.foldl _ fun _ _ hu => .ite (hu.hand ..) hu

theorem execRestartLine_within {z} (hs : s.WithinCapacity) (h : execRestartLine z s = .next t) : t.WithinCapacity :=
  task_within hs h fun u hu => by
    have told := ((hu.clearLine z).foldl (u.zoneOffers z) fun _ d hv => hv.failRestart d).retellPhases z
    have restarted (v : State) (hv : v.WithinCapacity) : (v.setLine z (restartLine (v.line z))).WithinCapacity :=
      hv.setLine z (hv.queue z)
    exact .ite hu.refuse (restarted _ told).finishTask

theorem State.WithinCapacity.redefine (h : s.WithinCapacity) (k : Nat) (d : Definition) :
    (s.redefine k d).WithinCapacity := h.frame (State.redefine_only s k d (List.Subset.refl _) (.refl _ _))

theorem execDefineSitting_within {k p} (hs : s.WithinCapacity) (h : execDefineSitting k p s = .next t) :
    t.WithinCapacity :=
  task_within hs h fun u hu => by
    dsimp only
    refine .ite hu.refuse ?_
    split
    · exact .ite hu.refuse (hu.changeSitting k _).finishTask
    · refine .ite hu.refuse (.ite hu.refuse ?_)
      split
      · exact hu.finishTask
      · exact (hu.redefine ..).finishTask
    · exact hu.refuse

theorem execOpenNow_within {k} (hs : s.WithinCapacity) (h : execOpenNow k s = .next t) : t.WithinCapacity :=
  task_within hs h fun u hu => by
    dsimp only
    refine .ite hu.refuse ?_
    split
    · exact (hu.enterOpen k).finishTask
    · exact .ite hu.refuse (hu.sittingStart k).finishTask
    · exact hu.refuse

theorem State.WithinCapacity.holdThese (h : s.WithinCapacity) (l : List Nat) : (s.holdThese l).WithinCapacity :=
  (h.foldl l fun _ k hu => hu.changeSitting k _).finishTask

theorem State.WithinCapacity.resumeThese (h : s.WithinCapacity) (l : List Nat) : (s.resumeThese l).WithinCapacity :=
  .ite h.refuse (h.foldl l fun _ k hu => hu.changeSitting k _).finishTask

theorem execHold_within {x} (hs : s.WithinCapacity) (h : execHold x s = .next t) : t.WithinCapacity :=
  task_within hs h fun u hu => by
    cases x with
    | one k => exact .ite hu.refuse (.ite hu.refuse (hu.holdThese _))
    | all => exact hu.holdThese _

theorem execResume_within {x} (hs : s.WithinCapacity) (h : execResume x s = .next t) : t.WithinCapacity :=
  task_within hs h fun u hu => by
    cases x with
    | one k => exact .ite hu.refuse (.ite hu.refuse (hu.resumeThese _))
    | all => exact hu.resumeThese _

theorem execCloseCollection_within {k} (hs : s.WithinCapacity) (h : execCloseCollection k s = .next t) :
    t.WithinCapacity :=
  task_within hs h fun u hu => by
    have missed : ((u.handedIn k).foldl State.declareMissing u).WithinCapacity :=
      hu.foldl _ fun _ p hv => ((hv.modEntry _ _).count _ _).releaseVacated p
    exact .ite hu.refuse (.ite hu.refuse (missed.changeSitting k _).finishTask)

theorem State.WithinCapacity.clearSitting (h : s.WithinCapacity) (k : Nat) : (s.clearSitting k).WithinCapacity := by
  have deleted : ((s.slotsOf k fun _ => true).foldl State.deleteEntry s).WithinCapacity :=
    h.foldl _ fun _ p hu => hu.deleteEntry p
  have emptied := (deleted.frame (State.setKey_only _ k {} (List.Subset.refl _) (.refl _ _))).frame
    (State.dropExtents_only _ k (List.Subset.refl _) (.refl _ _))
  exact emptied.changeSitting k _

theorem State.WithinCapacity.clearPlacement (h : s.WithinCapacity) (k : Nat) : (s.clearPlacement k).WithinCapacity := by
  have cancelled : ((s.sittingOffers k).foldl State.cancelOffer s).WithinCapacity :=
    h.foldl _ fun _ o hu => hu.cancelOffer o
  exact (cancelled.filterReseats _).foldl _ fun _ p hu => hu.releaseHeld p

theorem execRetireSitting_within {k} (hs : s.WithinCapacity) (h : execRetireSitting k s = .next t) : t.WithinCapacity :=
  task_within hs h fun u hu => by
    refine .ite hu.refuse ?_
    split
    · exact .ite hu.refuse (hu.clearSitting k).finishTask
    · exact .ite hu.refuse ((hu.clearPlacement k).clearSitting k).finishTask
    · exact hu.refuse

theorem execSetHallTime_within {v} (hs : s.WithinCapacity) (h : execSetHallTime v s = .next t) : t.WithinCapacity :=
  task_within hs h fun _ hu => .ite hu.refuse (hu.setTime (Nat.le_of_lt_succ v.isLt)).finishTask

theorem execAdjustTime_within {n a} (hs : s.WithinCapacity) (h : execAdjustTime n a s = .next t) : t.WithinCapacity :=
  task_within hs h fun _ hu => hu.withCandidate fun _ =>
    .ite hu.refuse ((hu.modEntry _ _).afterRebudget _).finishTask

theorem State.WithinCapacity.endExpected (h : s.WithinCapacity) (p : Nat) : (s.endExpected p).WithinCapacity :=
  ((((h.modEntry _ _).releaseHeld p).endNeed p).tellEnd p).checkRun

theorem State.WithinCapacity.endCandidate (h : s.WithinCapacity) (e : Entry) : (s.endCandidate e).WithinCapacity := by
  unfold State.endCandidate
  split
  · exact (h.endPresent _).queueClock ..
  · exact h.endDisplaced _
  · exact h.endExpected _

theorem execEndCandidate_within {n} (hs : s.WithinCapacity) (h : execEndCandidate n s = .next t) : t.WithinCapacity :=
  task_within hs h fun _ hu => hu.withCandidate fun e => .ite hu.refuse (hu.endCandidate e).finishTask

theorem execVoidScript_within {n} (hs : s.WithinCapacity) (h : execVoidScript n s = .next t) : t.WithinCapacity :=
  task_within hs h fun _ hu => hu.withCandidate fun e => .ite hu.refuse (hu.voidScript e).finishTask

theorem State.WithinCapacity.emptyTray (h : s.WithinCapacity) (v : Nat) : (s.emptyTray v).WithinCapacity :=
  ((h.setEntries _).setTray v {}).showTray v

theorem execClearTray_within {v} (hs : s.WithinCapacity) (h : execClearTray v s = .next t) : t.WithinCapacity :=
  task_within hs h fun u hu => by
    refine .ite hu.refuse ?_
    split
    · exact hu.refuse
    · exact hu.finishTask
    · split
      · exact hu.finishTask
      · exact (hu.emptyTray v).finishTask

/-- An amendment of a key queues its sitting, one of the sixteen, for a walk (R172, R173). -/
theorem execAmendKey_within {k q x} (hs : s.WithinCapacity) (h : execAmendKey k q x s = .next t) : t.WithinCapacity :=
  task_within hs h fun u hu => by
    cases x with
    | none => exact hu.refuse
    | some x =>
      dsimp only
      split
      · exact hu.refuse
      · next hk =>
        have written := hu.frame (State.setKey_only u k (amended (u.key k) q x) (List.Subset.refl _) (.refl _ _))
        exact .ite hu.refuse (.ite hu.refuse (.ite hu.refuse (.ite hu.refuse (.ite hu.refuse (.ite hu.refuse
          (written.queueWalk (by simpa [badSitting] using hk)).finishTask)))))

theorem execBeginBatch_within {v} (hs : s.WithinCapacity) (h : execBeginBatch v s = .next t) : t.WithinCapacity :=
  task_within hs h fun u hu => by
    have opened : (u.openedBatch v).fits :=
      ⟨Nat.zero_le _, Nat.zero_le _, Nat.zero_le _, fun r hr => by simp [List.eq_of_mem_replicate hr]⟩
    exact .ite hu.refuse (.ite hu.refuse (.ite hu.refuse (.ite hu.refuse
      (((hu.setBatch opened).setTray v _).showTray v).finishTask)))

theorem execEndBatch_within (hs : s.WithinCapacity) (h : execEndBatch s = .next t) : t.WithinCapacity :=
  task_within hs h fun u hu => by
    have closing := hu.setBatch (b := { u.scoring.batch with state := .closing, owed := u.inDecode }) hu.batch
    exact .ite hu.refuse (.ite closing.closeBatch closing)

theorem execResolveDispute_within {n c} (hs : s.WithinCapacity) (h : execResolveDispute n c s = .next t) :
    t.WithinCapacity :=
  task_within hs h fun u hu => .ite hu.refuse (hu.withCandidate fun e => by
    split
    · exact (hu.settle ..).finishTask
    · exact hu.refuse)

theorem execReleaseResults_within {k} (hs : s.WithinCapacity) (h : execReleaseResults k s = .next t) :
    t.WithinCapacity :=
  task_within hs h fun u hu => by
    refine .ite hu.refuse (.ite hu.refuse (.ite hu.refuse ?_))
    split
    · exact hu.finishTask
    · exact ((hu.setEntries _).changeSitting k _).finishTask

/-! ### Events -/

theorem event_within {body : State → State} (hs : s.WithinCapacity)
    (h : (Host.Outcome.next (s.whileOn body) : Result) = .next t) (hbody : (body s).WithinCapacity) :
    t.WithinCapacity := event_keeps (P := fun u => u.WithinCapacity) h hs fun _ => hbody

theorem reach_within {i : HallItem} {b : State → Bool} (hs : s.WithinCapacity)
    (h : (Host.Outcome.next (s.whileOn fun s => s.reach i (b s)) : Result) = .next t) : t.WithinCapacity :=
  event_within hs h (hs.reach i (b s))

theorem execHallSecond_within {l} (hs : s.WithinCapacity) (h : execHallSecond l s = .next t) : t.WithinCapacity := by
  obtain rfl : _ = t := by injection h
  split
  · exact hs
  · exact hs.advanceTime
  · exact hs.advanceTime
  · exact hs.catchUp.advanceTime.takeSecond l

theorem execOpenTime_within {k} (hs : s.WithinCapacity) (h : execOpenTime k s = .next t) : t.WithinCapacity :=
  event_within hs h (.ite (.ite (hs.enterOpen k) ((hs.enterOpen k).settled _)) hs)

theorem execOfferDeadline_within (hs : s.WithinCapacity) (h : execOfferDeadline s = .next t) : t.WithinCapacity := by
  have fails (v : State) (hv : v.WithinCapacity) :
      (match v.overdue with
        | d :: _ => v.failDeadline d
        | [] => s).WithinCapacity := by
    split
    · exact hv.failDeadline _
    · exact hs
  exact event_within hs h (fails _ (.ite ((hs.settled .offers).mapOffers tickOffer) hs))

theorem State.WithinCapacity.setAlarm (h : s.WithinCapacity) (b : Bool) : (s.setAlarm b).WithinCapacity :=
  h.frame (State.setAlarm_only s b (List.Subset.refl _) (.refl _ _))

theorem State.WithinCapacity.findAlarm (h : s.WithinCapacity) : s.findAlarm.WithinCapacity :=
  h.frame (State.findAlarm_only s (List.Subset.refl _) (.refl _ _))

theorem State.WithinCapacity.assertAlarm (h : s.WithinCapacity) : s.assertAlarm.WithinCapacity :=
  (h.foldl _ fun _ k hu => hu.changeSitting k _).raise ..

theorem execAlarmAssert_within (hs : s.WithinCapacity) (h : execAlarmAssert s = .next t) : t.WithinCapacity := by
  obtain rfl : _ = t := by injection h
  refine .ite hs ?_
  split
  · exact (hs.setAlarm true).assertAlarm
  · exact (hs.setAlarm true).findAlarm
  · exact hs.setAlarm true

theorem execFrameSent_within {z} (hs : s.WithinCapacity) (h : execFrameSent z s = .next t) : t.WithinCapacity :=
  event_within hs h (by
    split
    · exact hs.endFrame ..
    · exact hs)

theorem execAnswerWindowClose_within {z} (hs : s.WithinCapacity) (h : execAnswerWindowClose z s = .next t) :
    t.WithinCapacity :=
  event_within hs h (by
    split
    · exact hs.closeWindow ..
    · exact hs)

theorem execLinkLoss_within {z} (hs : s.WithinCapacity) (h : execLinkLoss z s = .next t) : t.WithinCapacity :=
  event_within hs h (by
    split
    · exact .ite (hs.closeWindow ..) hs
    · exact hs)

theorem execQuiet_within {z v} (hs : s.WithinCapacity) (h : execQuiet z v s = .next t) : t.WithinCapacity :=
  event_within hs h (hs.answer z v fun _ hw => hw.countGood z v)

theorem execLinkRegain_within {z v} (hs : s.WithinCapacity) (h : execLinkRegain z v s = .next t) : t.WithinCapacity :=
  event_within hs h (.ite (hs.answer z v fun _ hw => hw.countGood z v) hs)

theorem desk_within {z v : Nat} {n : Bool} {f : Nat → State → State} (hs : s.WithinCapacity)
    (h : (Host.Outcome.next (s.whileOn fun s => s.deskEvent z v n f) : Result) = .next t)
    (hf : ∀ (d : Nat) (w : State), w.WithinCapacity → (f d w).WithinCapacity) : t.WithinCapacity :=
  event_within hs h (hs.deskEvent z v n hf)

theorem execOfferReplyAccept_within {z v n number} (hs : s.WithinCapacity)
    (h : execOfferReplyAccept z v n number s = .next t) : t.WithinCapacity :=
  desk_within hs h fun d w hw => by
    split
    · exact hw.acceptOffer _
    · exact hw.hand ..

theorem execOfferReplyRefuse_within {z v n number caps} (hs : s.WithinCapacity)
    (h : execOfferReplyRefuse z v n number caps s = .next t) : t.WithinCapacity :=
  desk_within hs h fun d w hw => by
    split
    · exact hw.refuseOffer ..
    · exact hw.hand ..

theorem execTagRead_within {z v n tag} (hs : s.WithinCapacity) (h : execTagRead z v n tag s = .next t) :
    t.WithinCapacity := event_within hs h (hs.takeEvent z v n fun _ hw => .ite hw (hw.readTag _ tag))

theorem execSheetBegin_within (hs : s.WithinCapacity) (h : execSheetBegin s = .next t) : t.WithinCapacity :=
  event_within hs h (by
    refine .ite hs ?_
    split
    · exact hs.setSheet hs.replies_le
    · exact (hs.setBuffer ..).setSheet hs.replies_le)

theorem execSheetMessage_within {l} (hs : s.WithinCapacity) (h : execSheetMessage l s = .next t) : t.WithinCapacity :=
  event_within hs h (by
    refine .ite hs ?_
    split
    · exact hs
    · exact hs.refuseSheet ..
    · split
      · exact hs.refuseSheet ..
      · exact hs.keepSheet ..)

theorem execSheetGap_within {l} (hs : s.WithinCapacity) (h : execSheetGap l s = .next t) : t.WithinCapacity :=
  event_within hs h (by
    refine .ite hs ?_
    split
    · exact hs
    · exact hs.refuseSheet ..
    · exact hs.refuseSheet ..)

theorem execSheetHandover_within (hs : s.WithinCapacity) (h : execSheetHandover s = .next t) : t.WithinCapacity :=
  event_within hs h (by
    split
    · exact hs.handOver _
    · exact hs)

theorem execSheetVerdictSend_within (hs : s.WithinCapacity) (h : execSheetVerdictSend s = .next t) :
    t.WithinCapacity :=
  event_within hs h (by
    have hle := hs.replies_le
    split
    · next hreplies =>
      rw [hreplies] at hle
      exact hs.setSheet ((Nat.le_succ _).trans hle)
    · exact hs)

theorem execBatchClose_within (hs : s.WithinCapacity) (h : execBatchClose s = .next t) : t.WithinCapacity :=
  event_within hs h (.ite (.ite hs.closeBatch (.ite hs.decoderEvent hs)) hs)

/-! ### Starts -/

/-- A start leaves every queue empty (R203). -/
theorem warmLines_queue (x : Table Line) (z : Nat) : (Table.read {} (Table.mapRecords {} warmLine x) z).queue = [] := by
  obtain h | ⟨p, hp, h⟩ := Table.read_cases {} (Table.mapRecords {} warmLine x) z
  · rw [h]
  · rw [h]
    obtain ⟨q, -, rfl⟩ := List.mem_map.1 (List.mem_filter.1 hp).1
    rfl

theorem rebuiltReseats_le (l : List Entry) : (rebuiltReseats l).length ≤ Config.reseats := by
  unfold rebuiltReseats
  rw [List.length_map, List.length_take]
  exact Nat.min_le_left _ _

theorem rebuiltWalks_nodup (s : State) : (rebuiltWalks s).Nodup := (rebuiltWalks_ascending s).imp Nat.ne_of_lt

theorem rebuiltWalks_lt (s : State) : ∀ k ∈ rebuiltWalks s, k < Config.sittings := fun _ hk => (mem_rebuiltWalks.1 hk).1

theorem State.WithinCapacity.warmStart (h : s.WithinCapacity) (cause : StartCause) :
    (s.warmStart cause).WithinCapacity := by
  have hrun : OnlyChanges [.run, .sittings] s s.endRunAtStart := by
    unfold State.endRunAtStart
    split
    · exact State.closeRun_only _ _ _ (List.Subset.refl _) (.refl _ _)
    · exact .refl _ _
  obtain ⟨htime, -, -, hnotices, -⟩ :=
    h.frame (State.holdQuietly_only _ (fun x => { x with restart := true }) (by decide) hrun)
  unfold State.warmStart
  dsimp only
  have started (v : State) (hv : v.WithinCapacity) (c : Prop) [Decidable c] :
      (if c then v.findAlarm else v).WithinCapacity := .ite hv.findAlarm hv
  refine started _ ?_ _
  refine ⟨htime, Nat.zero_le _, Nat.zero_le _, hnotices, fun z => ?_, fun z => ?_, Nat.zero_le _,
    rebuiltReseats_le _, Nat.zero_le _, Nat.zero_le _, Nat.zero_le _, Nat.zero_le _, by simp,
    length_le_sittings (rebuiltWalks_nodup _) (rebuiltWalks_lt _), rebuiltWalks_nodup _, rebuiltWalks_lt _, by simp⟩
  · unfold State.line; rw [warmLines_queue]; exact Nat.zero_le _
  · unfold State.line; rw [warmLines_queue]; exact List.nodup_nil

theorem State.coldStart_within (s : State) : s.coldStart.WithinCapacity := by
  have started (v : State) (hv : v.WithinCapacity) (c : Prop) [Decidable c] :
      (if c then v.findAlarm else v).WithinCapacity := .ite hv.findAlarm hv
  refine started _ ⟨?_, ?_, ?_, ?_, ?_, ?_, ?_, ?_, ?_, ?_, ?_, ?_, ?_, ?_⟩ _ <;>
    simp [State.notice, State.line, Table.read, clockUnits, ScoringUnit.walksBounded]

theorem State.WithinCapacity.startNotices (h : s.WithinCapacity) : s.startNotices.WithinCapacity := by
  have alarmed (v : State) (hv : v.WithinCapacity) (c : Prop) [Decidable c] :
      (match s.power.alarmFound with
        | some x => (if c then v.raise .settingsLost .none else v).raise .alarm x
        | none => if c then v.raise .settingsLost .none else v).WithinCapacity := by
    have told := State.WithinCapacity.ite (c := c) (hv.raise .settingsLost .none) hv
    split
    · exact told.raise ..
    · exact told
  refine alarmed _ ?_ _
  split
  · exact h.raise ..
  · exact h.raise ..

theorem State.WithinCapacity.completeStart (h : s.WithinCapacity) : s.completeStart.WithinCapacity := by
  have cleared := h.notices (x := []) fun _ => by simp [Table.read]
  exact cleared.startNotices.startWalk.frame (only_power _ _ (List.Subset.refl _) (.refl _ _))

theorem execReboot_within (hs : s.WithinCapacity) (h : execReboot s = .next t) : t.WithinCapacity :=
  task_within hs h fun _ hu => hu.warmStart _

theorem execColdStart_within (hs : s.WithinCapacity) (h : execColdStart s = .next t) : t.WithinCapacity := by
  obtain rfl : _ = t := by injection h
  split
  · exact State.coldStart_within _
  · exact hs

theorem execResetn_within (hs : s.WithinCapacity) (h : execResetn s = .next t) : t.WithinCapacity := by
  obtain rfl : _ = t := by injection h
  split
  · exact hs.warmStart _
  · exact hs.warmStart _
  · exact hs

theorem execMainSupplyReturn_within (hs : s.WithinCapacity) (h : execMainSupplyReturn s = .next t) :
    t.WithinCapacity := by
  obtain rfl : _ = t := by injection h
  split
  · exact hs.warmStart _
  · exact hs

theorem execStartupComplete_within (hs : s.WithinCapacity) (h : execStartupComplete s = .next t) :
    t.WithinCapacity := by
  obtain rfl : _ = t := by injection h
  split
  · exact hs.completeStart
  · exact hs

/-! ### Every step -/

/-- Every command keeps the capacities: one off the bounded parts by its frame, any other by its own lemma. -/
theorem exec_within (c : Instr) (s t : State) (h : exec c s = .next t) : s.WithinCapacity → t.WithinCapacity := by
  refine exec_lift (Q := fun s t => s.WithinCapacity → t.WithinCapacity) (fun _ _ hm hs => hs.frame hm)
    (fun c s t ht h hs => ?_) c s t h
  by_cases hoff : (∀ z, c ≠ .restartLine z) ∧ ∀ x ∈ mayChange c, offCapacity x
  · exact hs.frame (exec_only ht hoff.1 h) hoff.2
  · cases c with
    | areaWrite area o d => cases area <;> simp_all [mayChange]
    | enterLevel _ _ => exact execEnterLevel_within hs h
    | leaveLevel => exact execLeaveLevel_within hs h
    | readNotices => exact execReadNotices_within hs h
    | reboot => exact execReboot_within hs h
    | withdraw _ => exact execWithdraw_within hs h
    | amend _ _ _ _ => exact execAmend_within hs h
    | disableSeat _ => exact execDisableSeat_within hs h
    | enableSeat _ => exact execEnableSeat_within hs h
    | allocate _ => exact execAllocate_within hs h
    | abortAllocation _ => exact execAbortAllocation_within hs h
    | move _ _ => exact execMove_within hs h
    | restartLine _ => exact execRestartLine_within hs h
    | defineSitting _ _ => exact execDefineSitting_within hs h
    | openNow _ => exact execOpenNow_within hs h
    | hold _ => exact execHold_within hs h
    | resume _ => exact execResume_within hs h
    | closeCollection _ => exact execCloseCollection_within hs h
    | retireSitting _ => exact execRetireSitting_within hs h
    | setHallTime _ => exact execSetHallTime_within hs h
    | adjustTime _ _ => exact execAdjustTime_within hs h
    | endCandidate _ => exact execEndCandidate_within hs h
    | voidScript _ => exact execVoidScript_within hs h
    | clearTray _ => exact execClearTray_within hs h
    | amendKey _ _ _ => exact execAmendKey_within hs h
    | beginBatch _ => exact execBeginBatch_within hs h
    | endBatch => exact execEndBatch_within hs h
    | batchClose => exact execBatchClose_within hs h
    | resolveDispute _ _ => exact execResolveDispute_within hs h
    | releaseResults _ => exact execReleaseResults_within hs h
    | hallSecond _ => exact execHallSecond_within hs h
    | openTime _ => exact execOpenTime_within hs h
    | startTime _ => exact reach_within hs h
    | readingEnd _ => exact reach_within hs h
    | lateLimit _ => exact reach_within hs h
    | writingEnd _ => exact reach_within hs h
    | clockExpiry _ => exact reach_within hs h
    | restExhausted _ => exact reach_within hs h
    | warningFire _ => exact reach_within hs h
    | offerDeadline => exact execOfferDeadline_within hs h
    | lockoutEnd => exact reach_within hs h
    | alarmAssert => exact execAlarmAssert_within hs h
    | placementStep => exact event_within hs h hs.placementStep
    | walkVisit => exact event_within hs h hs.walkStep
    | slotStart z => exact event_within hs h (hs.startSlot z)
    | frameSent _ => exact execFrameSent_within hs h
    | answerWindowClose _ => exact execAnswerWindowClose_within hs h
    | quiet _ _ => exact execQuiet_within hs h
    | join z v k c => exact event_within hs h (hs.takeJoin z v k c)
    | checkin _ _ _ number tag => exact desk_within hs h fun d _ hw => hw.checkin d number tag
    | handin _ _ _ number => exact desk_within hs h fun d _ hw => hw.handin d number
    | restBegin _ _ _ number => exact desk_within hs h fun d _ hw => hw.restBegin d number
    | restEnd _ _ _ number => exact desk_within hs h fun d _ hw => hw.restEnd d number
    | help _ _ _ => exact desk_within hs h fun _ _ hw => hw.raise ..
    | offerReplyAccept _ _ _ _ => exact execOfferReplyAccept_within hs h
    | offerReplyRefuse _ _ _ _ _ => exact execOfferReplyRefuse_within hs h
    | tagRead _ _ _ _ => exact execTagRead_within hs h
    | linkLoss _ => exact execLinkLoss_within hs h
    | linkRegain _ _ => exact execLinkRegain_within hs h
    | sheetBegin => exact execSheetBegin_within hs h
    | sheetMessage _ => exact execSheetMessage_within hs h
    | sheetGap _ => exact execSheetGap_within hs h
    | decoderTake => exact event_within hs h hs.decoderStep
    | sheetHandover => exact execSheetHandover_within hs h
    | sheetVerdictSend => exact execSheetVerdictSend_within hs h
    | sheetInputGapSeen => exact event_within hs h (hs.setSheet hs.replies_le)
    | coldStart => exact execColdStart_within hs h
    | resetn => exact execResetn_within hs h
    | mainSupplyReturn => exact execMainSupplyReturn_within hs h
    | startupComplete => exact execStartupComplete_within hs h
    | _ => exact absurd (by simp [mayChange, offCapacity]) hoff

theorem step_within (hs : s.WithinCapacity) (h : step s = .next t) : t.WithinCapacity := by
  unfold step at h
  split at h
  · obtain rfl : s = t := by injection h
    exact hs
  · exact exec_within _ _ t h hs

end Sys2Proof.Machine

namespace Sys2Proof.Machine

variable {s t : State} {z v : Nat} {b : Bool} {m : Msg}

/-! ### What handing a message does, case by case (R136–R138) -/

/-- A message handed to a line changes its queue, drops a message with a notice, does both, or does nothing. -/
theorem State.hand_cases (s : State) (z v : Nat) (b : Bool) (m : Msg) :
    (∃ q, s.hand z v b m = s.setQueue z q) ∨ (∃ q x, s.hand z v b m = (s.setQueue z q).raise .queueDrop x)
      ∨ (∃ x, s.hand z v b m = s.raise .queueDrop x) ∨ s.hand z v b m = s := by
  unfold State.hand
  dsimp only
  split
  · exact .inl ⟨_, rfl⟩
  · split
    · exact .inl ⟨_, rfl⟩
    · split
      · split
        · exact .inr (.inl ⟨_, _, rfl⟩)
        · exact .inr (.inr (.inl ⟨_, rfl⟩))
      · split
        · exact .inr (.inr (.inr rfl))
        · exact .inr (.inr (.inl ⟨_, rfl⟩))

theorem State.line_setQueue (s : State) (z : Nat) (q : List QEntry) (y : Nat) :
    (s.setQueue z q).line y = if y = z then { s.line z with queue := q } else s.line y := State.line_setLine ..

@[simp] theorem State.queue_setQueue (s : State) (z : Nat) (q : List QEntry) : ((s.setQueue z q).line z).queue = q := by
  simp [State.line_setQueue]

@[simp] theorem State.line_raise (s : State) (k : NoticeKind) (x : Subject) (y : Nat) :
    (s.raise k x).line y = s.line y := rfl

theorem State.notice_raise_other (s : State) {j k : NoticeKind} (hjk : j ≠ k) (x : Subject) :
    (s.raise k x).notice j = s.notice j := by
  unfold State.raise State.notice
  exact Table.read_write_other _ _ fun hc => hjk (by revert hc; cases j <;> cases k <;> simp [noticeCode])

/-- The line's queue alone changes on it, and no other line does. -/
theorem State.line_hand (s : State) (z v : Nat) (b : Bool) (m : Msg) :
    (s.hand z v b m).line z = { s.line z with queue := ((s.hand z v b m).line z).queue }
      ∧ ∀ y, y ≠ z → (s.hand z v b m).line y = s.line y := by
  obtain ⟨q, h⟩ | ⟨q, x, h⟩ | ⟨x, h⟩ | h := s.hand_cases z v b m <;> rw [h]
  · exact ⟨by simp [State.line_setQueue], fun y hy => by simp [State.line_setQueue, hy]⟩
  · exact ⟨by simp [State.line_setQueue], fun y hy => by simp [State.line_setQueue, hy]⟩
  · exact ⟨rfl, fun _ _ => rfl⟩
  · exact ⟨rfl, fun _ _ => rfl⟩

/-- No notice but QUEUE_DROP is raised. -/
theorem State.notice_hand (s : State) (z v : Nat) (b : Bool) (m : Msg) {k : NoticeKind} (hk : k ≠ .queueDrop) :
    (s.hand z v b m).notice k = s.notice k := by
  obtain ⟨q, h⟩ | ⟨q, x, h⟩ | ⟨x, h⟩ | h := s.hand_cases z v b m <;> rw [h]
  · rfl
  · exact State.notice_raise_other _ hk x
  · exact State.notice_raise_other _ hk x

/-- The queue holds a CLOCK for the message's desk, and the message is one. -/
def replacesClock (q : List QEntry) (v : Nat) (m : Msg) : Prop := isClock m = true ∧ v ∈ clockUnits q

theorem replacesClock_iff (q : List QEntry) (v : Nat) (m : Msg) :
    (isClock m && q.any (clockTo v)) = true ↔ replacesClock q v m := by
  rw [Bool.and_eq_true, any_clockTo]; rfl

theorem State.hand_replace (h : replacesClock (s.line z).queue v m) :
    s.hand z v b m = s.setQueue z (replaceClock { unit := v, urgent := b, msg := m } (s.line z).queue) := by
  unfold State.hand
  exact if_pos ((replacesClock_iff ..).2 h)

theorem State.hand_free (h : ¬ replacesClock (s.line z).queue v m) (hroom : (s.line z).queue.length < 32) :
    s.hand z v b m = s.setQueue z (insertByClass { unit := v, urgent := b, msg := m } (s.line z).queue) := by
  unfold State.hand
  dsimp only
  rw [if_neg fun hc => h ((replacesClock_iff ..).1 hc), if_pos hroom]

/-- The first entry that may be evicted gives its place to an URGENT message (R138). -/
theorem State.hand_evict {l r : List QEntry} {y : QEntry} (h : ¬ replacesClock (s.line z).queue v m)
    (hfull : 32 ≤ (s.line z).queue.length) (hq : (s.line z).queue = l ++ y :: r)
    (hl : ∀ w ∈ l, evictable (s.line z) w = false) (hy : evictable (s.line z) y = true) :
    s.hand z v true m = (s.setQueue z (insertByClass { unit := v, urgent := true, msg := m } (l ++ r))).raise .queueDrop
      (dropped z y) := by
  obtain ⟨herase, hfind⟩ := eraseFirst_append hl hy
  unfold State.hand
  dsimp only
  rw [if_neg fun hc => h ((replacesClock_iff ..).1 hc), if_neg (Nat.not_lt.2 hfull), if_pos rfl, hq, hfind, herase,
    ← dropSubject_eq]

theorem State.hand_drop (h : ¬ replacesClock (s.line z).queue v m) (hfull : 32 ≤ (s.line z).queue.length)
    (hdrop : (b = true ∧ ∀ y ∈ (s.line z).queue, evictable (s.line z) y = false) ∨ (b = false ∧ isOffer m = false)) :
    s.hand z v b m = s.raise .queueDrop (dropped z { unit := v, urgent := b, msg := m }) := by
  unfold State.hand
  dsimp only
  rw [if_neg fun hc => h ((replacesClock_iff ..).1 hc), if_neg (Nat.not_lt.2 hfull), ← dropSubject_eq]
  obtain ⟨rfl, hkept⟩ | ⟨rfl, hoffer⟩ := hdrop
  · rw [if_pos rfl, List.find?_eq_none.2 fun y hy => by simp [hkept y hy]]
  · simp [hoffer]

theorem State.hand_waits (h : ¬ replacesClock (s.line z).queue v m) (hfull : 32 ≤ (s.line z).queue.length)
    (hoffer : isOffer m = true) : s.hand z v false m = s := by
  unfold State.hand
  dsimp only
  rw [if_neg fun hc => h ((replacesClock_iff ..).1 hc), if_neg (Nat.not_lt.2 hfull), if_neg (by simp), if_pos hoffer]

/-- Settles O11: each command composes operations that keep the capacities, and handing a message is the one operation
that fills a line's queue. -/
theorem stepKeepsCapacities : Obligations.StepKeepsCapacities := by
  unfold Obligations.StepKeepsCapacities
  refine ⟨fun s t hs h => step_within hs h, fun s z v urgent m => ?_⟩
  dsimp only
  have written (q : List QEntry) : OnlyChanges [.lines] s (s.setQueue z q) :=
    State.setQueue_only s z q (List.Subset.refl _) (.refl _ _)
  refine ⟨fun hm l y r hq hu hc hone => ?_, fun hr hlen => ?_, fun hr hfull hu l y r hq hy hl => ?_,
    fun hr hfull hdrop => ?_, fun hr hfull hord hoffer => ?_, (s.line_hand z v urgent m).1, (s.line_hand z v urgent m).2,
    fun k hk => s.notice_hand z v urgent m hk, State.hand_only s z v urgent m (List.Subset.refl _) (.refl _ _)⟩
  · have hmem : v ∈ clockUnits (s.line z).queue :=
      (any_clockTo ..).1 (List.any_eq_true.2 ⟨y, by simp [hq], by simp [clockTo, hu, hc]⟩)
    rw [State.hand_replace ⟨hm, hmem⟩, State.queue_setQueue, hq]
    exact ⟨replaceClock_append hu hc hone, written _⟩
  · rw [State.hand_free hr hlen, State.queue_setQueue]
    exact ⟨insertByClass_inserted _ _, written _⟩
  · subst hu
    rw [State.hand_evict hr hfull hq (fun w hw => Bool.eq_false_iff.2 fun he => (evictable_iff ..).1 he (hl w hw))
      ((evictable_iff ..).2 hy), State.line_raise, State.queue_setQueue]
    exact ⟨insertByClass_inserted _ _, State.raise_raised ..⟩
  · rw [State.hand_drop hr hfull (hdrop.imp_left fun ⟨hu, hkept⟩ =>
      ⟨hu, fun y hy => Bool.eq_false_iff.2 fun he => (evictable_iff ..).1 he (hkept y hy)⟩)]
    exact ⟨State.raise_raised .., State.raise_only _ _ _ (List.Subset.refl _) (.refl _ _)⟩
  · rw [hord]; exact State.hand_waits hr hfull hoffer

end Sys2Proof.Machine

namespace Sys2Proof.Machine

variable {s t u : State} {bs : List Part} {d p q : Nat} {e : Entry}

/-! ### What a frame leaves of the roster and of the placement unit -/

theorem OnlyChanges.entry? (h : OnlyChanges bs s t) (hb : Part.entries ∉ bs) (p : Nat) : t.entry? p = s.entry? p := by
  have hentries : t.roster.entries = s.roster.entries := h.rest .entries hb
  unfold State.entry?; rw [hentries]

theorem OnlyChanges.offers (h : OnlyChanges bs s t) (hb : Part.offers ∉ bs) : t.placement.offers = s.placement.offers :=
  h.rest .offers hb

theorem OnlyChanges.reseats (h : OnlyChanges bs s t) (hb : Part.reseats ∉ bs) :
    t.placement.reseats = s.placement.reseats := h.rest .reseats hb

theorem OnlyChanges.run (h : OnlyChanges bs s t) (hb : Part.run ∉ bs) : t.placement.run = s.placement.run := h.rest .run hb

/-! ### The tenure requests that meet their state (R24–R26) -/

theorem State.seat_rewired (x : Tenure) (f : Entry → Entry) (j : Nat) :
    (s.rewired d x p f).seat j = if j = d then { s.seat d with tenure := x } else s.seat j := by
  unfold State.rewired
  rw [State.seat_modEntry, State.seat_setSeat]

theorem State.requestOffer_eq (h : (s.seat d).tenure = .empty) (p : Nat) :
    s.requestOffer d p = s.rewired d (.offered p) p fun e => { e with offer := some d } := by
  unfold State.requestOffer; rw [h]; rfl

theorem State.requestCancel_eq (h : (s.seat d).tenure = .offered p) :
    s.requestCancel d = s.rewired d .empty p fun e => { e with offer := none } := by
  unfold State.requestCancel; rw [h]; rfl

theorem State.requestPlace_eq (h : (s.seat d).tenure = .offered p) : s.requestPlace d
    = (s.rewired d (.held p) p fun e => { e with offer := none, seat := some d }).count p addPlaced := by
  unfold State.requestPlace; rw [h]; rfl

/-- The entry in a slot is the one changed there. -/
theorem State.entry?_rewired_same {x : Tenure} {f : Entry → Entry} (hf : ∀ e, (f e).slot = e.slot)
    (he : s.entry? p = some e) : (s.rewired d x p f).entry? p = some (f e) := by
  rw [State.entry?_rewired hf, if_pos rfl, he]; rfl

theorem State.entry?_count (p : Nat) (f : Sitting → Sitting) (q : Nat) : (s.count p f).entry? q = s.entry? q := by
  unfold State.entry?; rw [State.count_roster]

/-! ### The end of a run (R47) -/

theorem State.checkRun_over {r : Run} (hr : s.placement.run = some r) (h : s.runOver r = true) :
    s.checkRun = (s.closeRun r (if r.unplaced = 0 then .done else .partialRun)).raise .allocDone (.sitting r.sitting) := by
  unfold State.checkRun
  rw [hr]
  exact if_pos h

theorem State.checkRun_going (h : ∀ r, s.placement.run = some r → s.runOver r = false) : s.checkRun = s := by
  unfold State.checkRun
  split
  · next r hr => rw [h r hr]; rfl
  · rfl

/-- A check of the run leaves all as it is, or the run is over and ends. -/
theorem State.checkRun_cases (s : State) : s.checkRun = s ∨ ∃ r, s.placement.run = some r ∧ s.runOver r = true
    ∧ s.checkRun = (s.closeRun r (if r.unplaced = 0 then .done else .partialRun)).raise .allocDone (.sitting r.sitting) := by
  by_cases h : ∃ r, s.placement.run = some r ∧ s.runOver r = true
  · obtain ⟨r, hr, hover⟩ := h
    exact .inr ⟨r, hr, hover, State.checkRun_over hr hover⟩
  · exact .inl (State.checkRun_going fun r hr => Bool.eq_false_iff.2 fun hover => h ⟨r, hr, hover⟩)

theorem State.sitting_closeRun (r : Run) (a : AllocState) (k : Nat) : (s.closeRun r a).sitting k
    = if k = r.sitting then { s.sitting r.sitting with
        alloc := a, runPlaced := r.placed, runUnplaced := r.unplaced, runPassed := r.passed } else s.sitting k :=
  State.sitting_setSitting ..

/-- The end of a run writes no count of the roster. -/
theorem State.checkRun_placed (s : State) (k : Nat) : (s.checkRun.sitting k).placed = (s.sitting k).placed := by
  obtain h | ⟨r, -, -, h⟩ := s.checkRun_cases
  · rw [h]
  · rw [h]
    change ((s.closeRun r _).sitting k).placed = _
    rw [State.sitting_closeRun]
    split
    · next hk => rw [hk]
    · rfl

end Sys2Proof.Machine

namespace Sys2Proof.Machine

variable {s t u : State} {o : Offer} {d p z v : Nat} {n : Bool}

/-! ### An offer that a reply decides (R51–R53) -/

theorem State.offerOn?_seat (h : s.offerOn? d = some o) : o.seat = d := by simpa using List.find?_some h

theorem State.matching_seat {number : Nat} (h : s.matching d number = some o) : o.seat = d := by
  unfold State.matching at h
  split at h
  · next o' ho =>
    split at h
    · cases h; exact State.offerOn?_seat ho
    · cases h
  · cases h

/-- A reply is matched by the offer table and the roster alone. -/
theorem OnlyChanges.matching {bs : List Part} (h : OnlyChanges bs s t) (hoffers : Part.offers ∉ bs) (hentries : Part.entries ∉ bs)
    (d number : Nat) : t.matching d number = s.matching d number := by
  unfold State.matching State.offerOn? State.numberOf
  rw [h.offers hoffers]
  simp only [h.entry? hentries]

theorem State.offerOn?_dropOffer (s : State) (d : Nat) : (s.dropOffer d).offerOn? d = none := by
  unfold State.offerOn? State.dropOffer
  simp

theorem OnlyChanges.offerOn? {bs : List Part} (h : OnlyChanges bs s t) (hb : Part.offers ∉ bs) (d : Nat) :
    t.offerOn? d = s.offerOn? d := by
  unfold State.offerOn?; rw [h.offers hb]

/-- A slot that ends at once has ended, and no link record changes. -/
theorem State.giveUp_heard (h : s.Heard z v n) (y : Nat) : (s.giveUp y).Heard z v n := by
  obtain ⟨hidle, hrecord⟩ := h
  have hlink : (s.giveUp y).linkRecord z v = s.linkRecord z v := by
    unfold State.linkRecord State.giveUp
    rw [State.line_setLine]
    split
    · next hy => rw [hy]; rfl
    · rfl
  refine ⟨?_, hlink ▸ hrecord⟩
  unfold State.giveUp
  rw [State.line_setLine]
  split
  · rfl
  · exact hidle

theorem State.removeOffer_heard (h : s.Heard z v n) (d : Nat) : (s.removeOffer d).Heard z v n := by
  have heard (w : State) (hw : w.Heard z v n) : (w.removeQueued (zoneOf d) (offerTo (deskOf d))).Heard z v n :=
    (State.leaveQueue_sameLinks _ _ _).heard hw
  refine heard _ ?_
  split
  · exact State.giveUp_heard h _
  · exact h

theorem OnlyChanges.heard {bs : List Part} (h : OnlyChanges bs s t) (hb : Part.lines ∉ bs) (hs : s.Heard z v n) :
    t.Heard z v n := (SameLinks.of_lines (h.rest .lines hb)).heard hs

theorem State.showCandidate_sameLinks (s : State) (d p : Nat) (x : Nat → Nat → Shown) :
    SameLinks s (s.showCandidate d p x) := by
  unfold State.showCandidate
  split
  · exact (State.hand_sameLinks _ _ _ _ _).trans (State.hand_sameLinks _ _ _ _ _)
  · exact .refl s

/-- An accepted offer: PLACE, and what the desk and the run are told of it (R52). -/
theorem State.acceptOffer_only_placed (s : State) (o : Offer) :
    OnlyChanges [.lines, .notices, .run, .sittings] ((s.dropOffer o.seat).requestPlace o.seat) (s.acceptOffer o) :=
  State.checkRun_only _ (by decide) (State.countPlaced_only _ o (by decide) (State.showCandidate_only _ _ _ _ (by decide)
    (State.removeOffer_only _ o.seat (by decide) (.refl _ _))))

theorem State.acceptOffer_heard (h : s.Heard z v n) (o : Offer) : (s.acceptOffer o).Heard z v n := by
  have hplaced : ((s.dropOffer o.seat).requestPlace o.seat).Heard z v n :=
    (State.requestPlace_only _ o.seat (bs := [.seats, .entries, .sittings, .offers]) (by decide)
      (State.dropOffer_only s o.seat (by decide) (.refl _ _))).heard (by decide) h
  have hshown := (State.showCandidate_sameLinks _ o.seat o.slot .held).heard (State.removeOffer_heard hplaced o.seat)
  exact (State.checkRun_only _ (bs := [.run, .sittings, .notices]) (by decide)
    (State.countPlaced_only _ o (by decide) (.refl _ _))).heard (by decide) hshown

/-- Nothing behind PLACE counts a candidate placed again. -/
theorem State.acceptOffer_placed (s : State) (o : Offer) (k : Nat) :
    ((s.acceptOffer o).sitting k).placed = (((s.dropOffer o.seat).requestPlace o.seat).sitting k).placed := by
  have htold : OnlyChanges [.lines, .notices, .run] ((s.dropOffer o.seat).requestPlace o.seat)
      (((((s.dropOffer o.seat).requestPlace o.seat).removeOffer o.seat).showCandidate o.seat o.slot .held).countPlaced o) :=
    State.countPlaced_only _ o (by decide) (State.showCandidate_only _ _ _ _ (by decide)
      (State.removeOffer_only _ o.seat (by decide) (.refl _ _)))
  exact (State.checkRun_placed _ k).trans (congrArg Sitting.placed (htold.sitting (by decide) k))

/-- The seat, the entry and the table of an offer accepted (R25, R52). -/
theorem State.acceptOffer_seats (ho : o.seat = d) (h : (s.seat d).tenure = .offered p) :
    ((s.acceptOffer o).seat d).tenure = .held p ∧ (s.acceptOffer o).offerOn? d = none
      ∧ (∀ j, j ≠ d → (s.acceptOffer o).seat j = s.seat j)
      ∧ ∀ e, s.entry? p = some e →
        (s.acceptOffer o).entry? p = some { e with offer := none, seat := some d }
          ∧ ((s.acceptOffer o).sitting e.sitting).placed = (s.sitting e.sitting).placed + 1 := by
  have hrest := s.acceptOffer_only_placed o
  have hplaced := s.acceptOffer_placed o
  rw [ho, State.requestPlace_eq (s := s.dropOffer d) h] at hrest hplaced
  have hseat (j : Nat) : (s.acceptOffer o).seat j = if j = d then { s.seat d with tenure := .held p } else s.seat j := by
    rw [hrest.seat (by decide), State.seat_count, State.seat_rewired]; rfl
  refine ⟨by rw [hseat, if_pos rfl], ?_, fun j hj => by rw [hseat, if_neg hj], fun e he => ?_⟩
  · rw [hrest.offerOn? (by decide)]
    have hcount : OnlyChanges [.seats, .entries, .sittings] (s.dropOffer d) (((s.dropOffer d).rewired d (.held p) p
        fun e => { e with offer := none, seat := some d }).count p addPlaced) := by
      rw [← State.requestPlace_eq (s := s.dropOffer d) h]
      exact State.requestPlace_only _ _ (List.Subset.refl _) (.refl _ _)
    exact (hcount.offerOn? (by decide) d).trans (s.offerOn?_dropOffer d)
  · have hentry := State.entry?_rewired_same (s := s.dropOffer d) (d := d) (x := .held p)
      (f := fun e => { e with offer := none, seat := some d }) (fun _ => rfl) he
    refine ⟨by rw [hrest.entry? (by decide), State.entry?_count, hentry], ?_⟩
    rw [hplaced]
    exact congrArg Sitting.placed (State.sitting_count hentry addPlaced)

/-- A failed offer: CANCEL, and what follows it (R53). -/
theorem State.failOffer_only_cancelled (s : State) (o : Offer) :
    OnlyChanges [.lines, .notices, .run, .reseats] ((s.dropOffer o.seat).requestCancel o.seat) (s.failOffer o false) :=
  State.retryStranded_only _ _ (by decide) (State.returnCandidate_only _ o (by decide)
    (State.removeOffer_only _ o.seat (by decide) (.refl _ _)))

theorem State.refuseOffer_heard (h : s.Heard z v n) (o : Offer) (c : CapSet) : (s.refuseOffer o c).Heard z v n := by
  have hcancelled : (((s.setSeat o.seat { s.seat o.seat with caps := c }).dropOffer o.seat).requestCancel o.seat).Heard
      z v n :=
    (State.requestCancel_only _ o.seat (bs := [.seats, .entries, .offers]) (by decide)
      (State.dropOffer_only _ o.seat (by decide) (State.setSeat_only s o.seat { s.seat o.seat with caps := c } rfl (by decide)
        (.refl _ _)))).heard
      (by decide) h
  exact (State.retryStranded_only _ _ (bs := [.reseats, .run, .notices]) (by decide)
    (State.returnCandidate_only _ o (by decide) (.refl _ _))).heard (by decide)
    (State.removeOffer_heard hcancelled o.seat)

/-- The seat, the entry and the table of an offer refused (R24, R53). -/
theorem State.refuseOffer_seats (ho : o.seat = d) (h : (s.seat d).tenure = .offered p) (c : CapSet) :
    (s.refuseOffer o c).seat d = { s.seat d with tenure := .empty, caps := c } ∧ (s.refuseOffer o c).offerOn? d = none
      ∧ (∀ j, j ≠ d → (s.refuseOffer o c).seat j = s.seat j)
      ∧ ∀ e, s.entry? p = some e → (s.refuseOffer o c).entry? p = some { e with offer := none } := by
  have hrest := (s.setSeat o.seat { s.seat o.seat with caps := c }).failOffer_only_cancelled o
  have hten : (((s.setSeat d { s.seat d with caps := c }).dropOffer d).seat d).tenure = .offered p := by
    change ((s.setSeat d { s.seat d with caps := c }).seat d).tenure = _
    rw [State.seat_setSeat, if_pos rfl]; exact h
  rw [ho, State.requestCancel_eq hten] at hrest
  have hseat (j : Nat) : (s.refuseOffer o c).seat j
      = if j = d then { s.seat d with tenure := .empty, caps := c } else s.seat j := by
    unfold State.refuseOffer
    rw [ho, hrest.seat (by decide), State.seat_rewired]
    change (if j = d then { (s.setSeat d { s.seat d with caps := c }).seat d with tenure := .empty }
      else (s.setSeat d { s.seat d with caps := c }).seat j) = _
    rw [State.seat_setSeat, State.seat_setSeat, if_pos rfl]
    split <;> rfl
  refine ⟨by rw [hseat, if_pos rfl], ?_, fun j hj => by rw [hseat, if_neg hj], fun e he => ?_⟩
  · unfold State.refuseOffer
    rw [ho, hrest.offerOn? (by decide)]
    exact State.offerOn?_dropOffer (s.setSeat d { s.seat d with caps := c }) d
  · unfold State.refuseOffer
    rw [ho, hrest.entry? (by decide)]
    exact State.entry?_rewired_same (s := (s.setSeat d { s.seat d with caps := c }).dropOffer d) (fun _ => rfl) he

/-- Settles O32: a reply runs on the part that has heard it, which differs in lines and notices alone; there it is
matched, and PLACE or CANCEL rewires the seat and its offeree. -/
theorem offerRepliesDecideOffer : Obligations.OfferRepliesDecideOffer := by
  unfold Obligations.OfferRepliesDecideOffer
  intro s z v n number hv hears
  have htaken := State.taken_only s z v n
  have hheard := State.taken_heard (n := n) hears.2.2.1
  have haccept : exec (.offerReplyAccept z v n number) s = .next _ := State.deskEvent_taken hv hears _
  have hrefuse (caps : CapSet) : exec (.offerReplyRefuse z v n number caps) s = .next _ :=
    State.deskEvent_taken hv hears _
  rw [htaken.matching (by decide) (by decide)] at haccept
  simp only [htaken.matching (by decide) (by decide)] at hrefuse
  refine ⟨fun o p hm hten => ?_, fun hm => ?_⟩
  · have hd := State.matching_seat hm
    rw [hm] at haccept
    simp only [hm] at hrefuse
    have hten' : ((s.taken z v n).seat (seatOf z v)).tenure = .offered p := by rw [htaken.seat (by decide)]; exact hten
    refine ⟨?_, fun caps => ?_⟩
    · obtain ⟨hheld, hnone, hothers, hentry⟩ := State.acceptOffer_seats hd hten'
      refine ⟨_, haccept, State.acceptOffer_heard hheard o, hheld, hnone, fun e he => ?_, fun j hj => ?_,
        execOfferReplyAccept_only haccept⟩
      · obtain ⟨hx, hcount⟩ := hentry e ((htaken.entry? (by decide) p).trans he)
        exact ⟨_, hx, rfl, rfl, by rw [hcount, htaken.sitting (by decide)]⟩
      · rw [hothers j hj, htaken.seat (by decide)]
    · obtain ⟨hseat, hnone, hothers, hentry⟩ := State.refuseOffer_seats hd hten' caps
      refine ⟨_, hrefuse caps, State.refuseOffer_heard hheard o caps, by rw [hseat], by rw [hseat], hnone, fun e he => ?_,
        fun j hj => ?_, execOfferReplyRefuse_only (hrefuse caps)⟩
      · exact ⟨_, hentry e ((htaken.entry? (by decide) p).trans he), rfl, rfl⟩
      · rw [hothers j hj, htaken.seat (by decide)]
  · rw [hm] at haccept
    simp only [hm] at hrefuse
    have hheard' := (State.hand_sameLinks (s.taken z v n) (zoneOf (seatOf z v)) (deskOf (seatOf z v)) true
      (.withdraw number)).heard hheard
    have hframe := State.withdrawOffer_only (s.taken z v n) (seatOf z v) number (List.Subset.refl _) htaken
    exact ⟨⟨_, haccept, hheard', hframe⟩, fun caps => ⟨_, hrefuse caps, hheard', hframe⟩⟩

end Sys2Proof.Machine

namespace Sys2Proof.Machine

variable {s t : State} {e : Entry} {d g : Nat} {p : Nat → Bool}

/-! ### What a search finds (R41–R43) -/

theorem State.Suits.group_mem (h : s.Suits e g d) : g = 1 ∨ g = 2 ∨ g = 3 := by
  obtain ⟨-, ⟨-, ⟨rfl, -⟩ | ⟨rfl, -⟩ | ⟨rfl, -⟩⟩, -⟩ := h <;> simp

/-- The seats that a pass over one group may take. -/
theorem State.suits_iff (s : State) (e : Entry) (p : Nat → Bool) (g d : Nat) :
    (d < Config.seats ∧ (s.fits e d && s.group e.sitting e.needs d == some g && p d) = true)
      ↔ s.Suits e g d ∧ p d = true := by
  unfold State.Suits
  rw [Bool.and_eq_true, Bool.and_eq_true, beq_iff_eq, State.fits_iff, State.group_eq_some]
  tauto

theorem State.firstIn_none (h : s.firstIn e p g = none) (hd : s.Suits e g d) : p d ≠ true := fun hp => by
  obtain ⟨hlt, hmeets⟩ := (s.suits_iff e p g d).2 ⟨hd, hp⟩
  have := List.find?_range_eq_none.1 h d hlt
  simp [hmeets] at this

theorem State.firstIn_some (h : s.firstIn e p g = some d) :
    s.Suits e g d ∧ p d = true ∧ ∀ j, s.Suits e g j → p j = true → d ≤ j := by
  obtain ⟨hmeets, hlt, hfirst⟩ := List.find?_range_eq_some.1 h
  obtain ⟨hd, hp⟩ := (s.suits_iff e p g d).1 ⟨List.mem_range.1 hlt, hmeets⟩
  refine ⟨hd, hp, fun j hj hpj => Nat.le_of_not_lt fun hjd => ?_⟩
  have := hfirst j hjd
  simp [((s.suits_iff e p g j).2 ⟨hj, hpj⟩).2] at this

/-- The first seat of a group is the one passed to where no group before it has any. -/
theorem State.passed_firstIn (h : s.firstIn e p g = some d)
    (hbefore : ∀ i j, i < g → s.Suits e i j → p j ≠ true) : s.Passed e (fun d => p d = true) (some d) := by
  obtain ⟨hd, hp, hfirst⟩ := State.firstIn_some h
  refine ⟨by simp, ?_⟩
  rintro d' ⟨rfl⟩
  refine ⟨hp, g, hd, fun i j hj hpj => ?_⟩
  rcases Nat.lt_trichotomy i g with hlt | rfl | hgt
  · exact absurd hpj (hbefore i j hlt hj)
  · exact .inr ⟨rfl, hfirst j hj hpj⟩
  · exact .inl hgt

/-- One pass over the three groups in their order (R41). -/
theorem State.pass_passed (s : State) (e : Entry) (p : Nat → Bool) :
    s.Passed e (fun d => p d = true) (s.pass e p) := by
  unfold State.pass
  split
  · next d h1 =>
    refine State.passed_firstIn h1 fun i j hi hj => ?_
    rcases hj.group_mem with rfl | rfl | rfl <;> omega
  · next h1 =>
    split
    · next d h2 =>
      refine State.passed_firstIn h2 fun i j hi hj => ?_
      rcases hj.group_mem with rfl | rfl | rfl
      · exact State.firstIn_none h1 hj
      · omega
      · omega
    · next h2 =>
      have before (i j : Nat) (hi : i < 3) (hj : s.Suits e i j) : p j ≠ true := by
        rcases hj.group_mem with rfl | rfl | rfl
        · exact State.firstIn_none h1 hj
        · exact State.firstIn_none h2 hj
        · omega
      cases h3 : s.firstIn e p 3 with
      | some d => exact State.passed_firstIn h3 before
      | none =>
        refine ⟨fun _ i j hj => ?_, by simp⟩
        rcases hj.group_mem with rfl | rfl | rfl
        · exact before 1 j (by decide) hj
        · exact before 2 j (by decide) hj
        · exact State.firstIn_none h3 hj

theorem State.passed_congr {ok ok' : Nat → Prop} (h : ∀ d, ok d ↔ ok' d) {found : Option Nat}
    (hp : s.Passed e ok found) : s.Passed e ok' found := by
  rwa [show ok' = ok from funext fun d => propext (h d).symm]

/-- One pass for a candidate with needs; for one without, a pass that leaves out the STEP_FREE seats goes first (R43). -/
theorem State.search_searched (s : State) (e : Entry) (p : Nat → Bool) :
    s.Searched e (fun d => p d = true) (s.search e p) := by
  unfold State.search
  by_cases hn : e.needs = {}
  · rw [if_neg (by simp [hasNeeds, hn])]
    refine ⟨fun hc => absurd hn hc, fun _ => ⟨s.pass e fun d => p d && !(s.seat d).caps.stepFree, ?_, ?_, ?_⟩⟩
    · exact State.passed_congr (fun d => by simp) (s.pass_passed e _)
    · intro hfirst
      obtain ⟨d, hd⟩ := Option.ne_none_iff_exists'.1 hfirst
      rw [hd]
    · intro hfirst
      rw [hfirst]; exact s.pass_passed e p
  · rw [if_pos (by simp [hasNeeds, hn])]
    exact ⟨fun _ => s.pass_passed e p, fun hc => absurd hc hn⟩

theorem hasZone_beyond {m : ZoneSet} {z : Nat} (h : 4 ≤ z) : hasZone m z = false := by
  obtain ⟨n, rfl⟩ := Nat.exists_eq_add_of_le' h
  rfl

/-- A seat that suits lies in the hall: a mask names zones of the hall alone (R20). -/
theorem State.suits_eq_true (s : State) (e : Entry) (d : Nat) : s.suits e d = true ↔ ∃ g, s.Suits e g d := by
  unfold State.suits State.Suits
  rw [Bool.and_eq_true, Option.isSome_iff_exists, State.fits_iff]
  simp only [State.group_eq_some]
  constructor
  · rintro ⟨⟨g, hg⟩, hf⟩
    refine ⟨g, Nat.lt_of_not_le fun hd => ?_, hg, hf⟩
    have hzone : 4 ≤ zoneOf d := (Nat.le_div_iff_mul_le (by decide)).2 hd
    rw [State.InGroup, hasZone_beyond hzone] at hg
    exact Bool.false_ne_true hg.1
  · rintro ⟨g, -, hg, hf⟩
    exact ⟨⟨g, hg⟩, hf⟩

/-- The former seat of a reseat candidate, where the search may give it (R43). -/
def State.MayReturn (s : State) (e : Entry) (r : Reseat) (f : Nat) : Prop :=
  r.former = some f ∧ r.excluded ≠ some f ∧ ∃ g, s.Suits e g f

theorem State.searchReseat_former {r : Reseat} {f : Nat} (h : s.MayReturn e r f) : s.searchReseat e r = some f := by
  obtain ⟨hf, hx, hsuits⟩ := h
  unfold State.searchReseat
  rw [hf]
  exact if_pos (by simp [(s.suits_eq_true e f).2 hsuits, hx])

theorem State.searchReseat_searched {r : Reseat} (h : ∀ f, ¬ s.MayReturn e r f) :
    s.Searched e (fun d => r.excluded ≠ some d) (s.searchReseat e r) := by
  have hrest : s.Searched e (fun d => r.excluded ≠ some d) (s.search e fun d => r.excluded != some d) := by
    simpa using s.search_searched e fun d => r.excluded != some d
  unfold State.searchReseat
  dsimp only
  split
  · next f hf =>
    have hno : ¬ (s.suits e f && r.excluded != some f) = true := fun hc => by
      obtain ⟨hs, hx⟩ := Bool.and_eq_true_iff.1 hc
      exact h f ⟨hf, by simpa using hx, (s.suits_eq_true e f).1 hs⟩
    rw [if_neg hno]; exact hrest
  · exact hrest

/-- The rows that each extent code covers from the front and from the back (R33). -/
theorem extentSpan_eq {code : Nat} (h1 : 1 ≤ code) (h5 : code ≤ 5) :
    extentSpan .front code = (0, 2 ^ (code - 1) - 1) ∧ extentSpan .back code = (16 - 2 ^ (code - 1), 15) := by
  interval_cases code <;> decide

end Sys2Proof.Machine

namespace Sys2Proof.Machine

variable {s t : State} {e : Entry} {d c : Nat}

/-! ### An offer is made (R49) -/

/-- An offer made on an EMPTY seat: the seat is OFFERED, the table holds the offer, and all else of the hall but the
candidate's entry stays. -/
theorem State.makeOffer_only_offered (h : (s.seat d).tenure = .empty) (p : Nat) (x : Purpose) (o : Option Nat) :
    OnlyChanges tellingParts ((s.setOffers (s.placement.offers ++ [⟨d, p, x, o, .waiting⟩])).rewired d (.offered p) p
      fun e => { e with offer := some d }) (s.makeOffer p d x o) := by
  have heq := State.requestOffer_eq (s := s.setOffers (s.placement.offers ++ [⟨d, p, x, o, .waiting⟩])) (d := d) h p
  unfold State.makeOffer
  dsimp only
  rw [heq]
  exact State.handOffer_only _ _ (List.Subset.refl _) (.refl _ _)

theorem State.makeOffer_seat (h : (s.seat d).tenure = .empty) (p : Nat) (x : Purpose) (o : Option Nat) (j : Nat) :
    (s.makeOffer p d x o).seat j = if j = d then { s.seat d with tenure := .offered p } else s.seat j := by
  rw [(State.makeOffer_only_offered h p x o).seat (by decide), State.seat_rewired]; rfl

theorem State.makeOffer_offers (h : (s.seat d).tenure = .empty) (p : Nat) (x : Purpose) (o : Option Nat) :
    (s.makeOffer p d x o).placement.offers = s.placement.offers ++ [⟨d, p, x, o, .waiting⟩] :=
  (State.makeOffer_only_offered h p x o).offers (by decide)

theorem State.makeOffer_reseats (h : (s.seat d).tenure = .empty) (p : Nat) (x : Purpose) (o : Option Nat) :
    (s.makeOffer p d x o).placement.reseats = s.placement.reseats :=
  (State.makeOffer_only_offered h p x o).reseats (by decide)

/-! ### One step of the unit (R45, R46, R57) -/

theorem exec_placementStep (hon : s.power.power = .on) : exec .placementStep s = .next s.placementStep := by
  change (Host.Outcome.next (s.whileOn State.placementStep) : Result) = _
  unfold State.whileOn
  rw [hon]

theorem State.placementStep_full (h : Config.offers ≤ s.placement.offers.length) : s.placementStep = s :=
  if_neg (Nat.not_lt.2 h)

theorem State.placementStep_reseat {r : Reseat} {rest : List Reseat} (hroom : s.placement.offers.length < Config.offers)
    (h : s.placement.reseats = r :: rest) : s.placementStep = ((s.setReseats rest).serveReseat r).checkRun := by
  unfold State.placementStep
  rw [if_pos hroom, h]

/-- A run candidate is served from the retry list, or else from the list; the record is advanced past it. -/
theorem State.placementStep_run {r : Run} (hroom : s.placement.offers.length < Config.offers)
    (h : s.placement.reseats = []) (hr : s.placement.run = some r)
    (hc : (∃ l, r.retry = c :: l) ∨ (r.retry = [] ∧ r.list[r.position]? = some c)) :
    ∃ x : Run, x.sitting = r.sitting ∧ x.skip = r.skip ∧ x.unplaced = r.unplaced
      ∧ s.placementStep = (s.serveRun x c).checkRun := by
  unfold State.placementStep
  rw [if_pos hroom, h, hr]
  obtain ⟨l, hl⟩ | ⟨hnil, hlist⟩ := hc
  · exact ⟨{ r with retry := l }, rfl, rfl, rfl, by simp only [hl]⟩
  · exact ⟨{ r with position := r.position + 1 }, rfl, rfl, rfl, by simp only [hnil, hlist]⟩

theorem raised_count_pos (old : Notice) (x : Subject) : 0 < (raised old x).count := by
  unfold raised
  split
  · exact Nat.one_pos
  · exact Nat.lt_min.2 ⟨by decide, Nat.succ_pos _⟩

theorem State.notice_raise_pos (s : State) (k : NoticeKind) (x : Subject) : 0 < ((s.raise k x).notice k).count := by
  unfold State.raise State.notice
  rw [Table.read_write_same]
  exact raised_count_pos ..

theorem State.checkRun_notice (s : State) {k : NoticeKind} (hk : k ≠ .allocDone) : s.checkRun.notice k = s.notice k := by
  obtain h | ⟨r, -, -, h⟩ := s.checkRun_cases
  · rw [h]
  · rw [h, State.notice_raise_other _ hk]; rfl

theorem State.suits_setReseats (s : State) (l : List Reseat) : (s.setReseats l).suits = s.suits := rfl

theorem State.firstIn_setReseats (s : State) (l : List Reseat) : (s.setReseats l).firstIn = s.firstIn := rfl

theorem State.seat_setReseats (s : State) (l : List Reseat) (j : Nat) : (s.setReseats l).seat j = s.seat j := rfl

/-- A search does not read the reseat queue. -/
theorem State.search_setReseats (s : State) (l : List Reseat) : (s.setReseats l).search = s.search := by
  funext e p
  unfold State.search State.pass
  simp only [State.firstIn_setReseats, State.seat_setReseats]

theorem State.searchReseat_setReseats (s : State) (l : List Reseat) (e : Entry) (r : Reseat) :
    (s.setReseats l).searchReseat e r = s.searchReseat e r := by
  unfold State.searchReseat
  rw [State.suits_setReseats, State.search_setReseats]

theorem State.entry?_setReseats (s : State) (l : List Reseat) (p : Nat) : (s.setReseats l).entry? p = s.entry? p := rfl

theorem State.seat_setRun (s : State) (r : Option Run) (j : Nat) : (s.setRun r).seat j = s.seat j := rfl

/-- The head of the reseat queue is offered the seat its search finds (R57). -/
theorem State.serveReseat_offers {r : Reseat} (he : s.entry? r.slot = some e) (hwait : awaitsReseat e = true)
    (hd : s.searchReseat e r = some d) : s.serveReseat r = s.makeOffer r.slot d .reseat r.former := by
  unfold State.serveReseat
  simp only [he, hwait, hd, if_true]

theorem State.serveReseat_fails {r : Reseat} (he : s.entry? r.slot = some e) (hwait : awaitsReseat e = true)
    (hd : s.searchReseat e r = none) : s.serveReseat r = s.raise .reseatFailed (.candidate e.number) := by
  unfold State.serveReseat
  simp only [he, hwait, hd, if_true]

theorem State.serveRun_offers {r : Run} (he : s.entry? c = some e) (hwait : awaitsPlacement r.sitting e = true)
    (hd : (s.search e fun j => !r.skip.contains j) = some d) :
    s.serveRun r c = (s.setRun (some r)).makeOffer c d .run none := by
  unfold State.serveRun
  simp only [he, hwait, hd, if_true]

theorem State.serveRun_fails {r : Run} (he : s.entry? c = some e) (hwait : awaitsPlacement r.sitting e = true)
    (hd : (s.search e fun j => !r.skip.contains j) = none) :
    s.serveRun r c = s.setRun (some { r with unplaced := r.unplaced + 1 }) := by
  unfold State.serveRun
  simp only [he, hwait, hd, if_true]

/-- What the check of the run leaves of an offer made. -/
theorem State.checkRun_makeOffer (h : (s.seat d).tenure = .empty) (p : Nat) (x : Purpose) (o : Option Nat) :
    ((s.makeOffer p d x o).checkRun.seat d).tenure = .offered p
      ∧ (s.makeOffer p d x o).checkRun.placement.offers = s.placement.offers ++ [⟨d, p, x, o, .waiting⟩]
      ∧ (s.makeOffer p d x o).checkRun.placement.reseats = s.placement.reseats
      ∧ ∀ j, j ≠ d → (s.makeOffer p d x o).checkRun.seat j = s.seat j := by
  have hrun := State.checkRun_only (s.makeOffer p d x o) (List.Subset.refl _) (.refl _ _)
  refine ⟨?_, (hrun.offers (by decide)).trans (State.makeOffer_offers h ..),
    (hrun.reseats (by decide)).trans (State.makeOffer_reseats h ..), fun j hj => ?_⟩
  · rw [hrun.seat (by decide), State.makeOffer_seat h, if_pos rfl]
  · rw [hrun.seat (by decide), State.makeOffer_seat h, if_neg hj]

/-- A run candidate without a seat is counted, in the record or, where the run ends, with its sitting (R46, R47). -/
theorem State.checkRun_unplaced {x : Run} (hx : s.placement.run = some x) :
    (∀ y, s.checkRun.placement.run = some y → y.unplaced = x.unplaced)
      ∧ (s.checkRun.placement.run = none → (s.checkRun.sitting x.sitting).runUnplaced = x.unplaced) := by
  obtain h | ⟨r, hr, -, h⟩ := s.checkRun_cases
  · rw [h, hx]
    exact ⟨fun y hy => by rw [Option.some.inj hy], fun hnone => by cases hnone⟩
  · obtain rfl : x = r := Option.some.inj (hx.symm.trans hr)
    rw [h]
    refine ⟨fun y hy => (by cases hy), fun _ => ?_⟩
    change ((s.closeRun x _).sitting x.sitting).runUnplaced = _
    rw [State.sitting_closeRun, if_pos rfl]

/-- Settles O31: a step serves one candidate by the search, and the search is the first seat by group and number over
the passes of R43. -/
theorem placementStepOffersSeat : Obligations.PlacementStepOffersSeat := by
  unfold Obligations.PlacementStepOffersSeat
  intro s hon
  have hexec := exec_placementStep hon
  have hframe := execPlacementStep_only hexec
  refine ⟨fun hfull => by rw [hexec, State.placementStep_full hfull], fun r rest e hroom hr he hwait => ?_,
    fun r c e hroom hnil hr hc he hwait => ?_, fun e p => s.search_searched e p,
    fun e r => ⟨fun f hf => State.searchReseat_former hf, fun hf => State.searchReseat_searched hf⟩,
    fun code h1 h5 => extentSpan_eq h1 h5⟩
  · have hstep := State.placementStep_reseat hroom hr
    refine ⟨fun d hd => ?_, fun hd => ?_⟩
    · have hfree : ((s.setReseats rest).seat d).tenure = .empty := by
        rw [State.seat_setReseats]; exact State.fits_tenure (State.searchReseat_fits hd)
      obtain ⟨hten, hoffers, hreseats, hothers⟩ := State.checkRun_makeOffer hfree r.slot .reseat r.former
      rw [State.serveReseat_offers ((State.entry?_setReseats s rest _).trans he) hwait
        ((State.searchReseat_setReseats s rest e r).trans hd)] at hstep
      refine ⟨_, hexec, ?_, ?_, ?_, fun j hj => ?_, hframe⟩ <;> rw [hstep]
      · exact hten
      · exact hoffers
      · exact hreseats
      · exact hothers j hj
    · rw [State.serveReseat_fails ((State.entry?_setReseats s rest _).trans he) hwait
        ((State.searchReseat_setReseats s rest e r).trans hd)] at hstep
      have hfails : OnlyChanges [.reseats, .run, .sittings, .notices] s s.placementStep := by
        rw [hstep]
        exact State.checkRun_only _ (by decide) (State.raise_only _ _ _ (by decide)
          (State.setReseats_only _ _ (by decide) (.refl _ _)))
      refine ⟨_, hexec, hfails.offers (by decide), ?_, ?_, hfails⟩ <;> rw [hstep]
      · exact (State.checkRun_only _ (List.Subset.refl _) (.refl _ _)).reseats (by decide)
      · rw [State.checkRun_notice _ (by decide)]
        exact State.notice_raise_pos ..
  · obtain ⟨x, hsitting, hskip, hunplaced, hstep⟩ := State.placementStep_run hroom hnil hr hc
    rw [← hsitting] at hwait ⊢
    rw [← hskip, ← hunplaced]
    refine ⟨fun d hd => ?_, fun hd => ?_⟩
    · have hfree : ((s.setRun (some x)).seat d).tenure = .empty := by
        rw [State.seat_setRun]; exact State.fits_tenure (State.search_fits hd)
      obtain ⟨hten, hoffers, -, hothers⟩ := State.checkRun_makeOffer hfree c .run none
      rw [State.serveRun_offers he hwait hd] at hstep
      refine ⟨_, hexec, ?_, ?_, fun j hj => ?_, hframe⟩ <;> rw [hstep]
      · exact hten
      · exact hoffers
      · exact hothers j hj
    · rw [State.serveRun_fails he hwait hd] at hstep
      obtain ⟨hrun, hended⟩ := State.checkRun_unplaced
        (s := s.setRun (some { x with unplaced := x.unplaced + 1 })) (x := { x with unplaced := x.unplaced + 1 }) rfl
      refine ⟨_, hexec, ?_, ?_, ?_⟩ <;> rw [hstep]
      · exact hrun
      · exact hended
      · exact State.checkRun_only _ (by decide) (State.setRun_only _ _ (by decide) (.refl _ _))

end Sys2Proof.Machine

namespace Sys2Proof.Machine

variable {s t u : State} {bs : List Part} {d k n p : Nat} {e : Entry}

/-! ### The answer of a task that ran (R195, R196) -/

/-- A task that leaves the mailbox alone until it finishes is answered with its result block. -/
theorem State.finishTask_answered (h : OnlyChanges bs (s.startTask n) u) (hb : Part.mailbox ∉ bs) (code : ResultCode)
    (clamped : Bool) (report : Report) : (u.finishTask code clamped report).Answered code clamped report := by
  obtain ⟨-, -, -, hignored⟩ := h.rest .mailbox hb
  exact ⟨rfl, rfl, hignored⟩

/-! ### ALLOCATE (R44, R47) -/

theorem execAllocate_starts (hk : k < Config.sittings) (h : s.Ready .allocate) (hrun : s.placement.run = none)
    (hphase : admitsEnrolment (s.sitting k).phase = true) : exec (.allocate k) s
      = .next ((((s.startTask (taskCode .allocate)).startRun k).checkRun).finishTask .started false
          (.runStarted k (s.freshRun k).list.length)) := by
  have hphase' : admitsEnrolment ((s.startTask (taskCode .allocate)).sitting k).phase = true := hphase
  have hrun' : (s.startTask (taskCode .allocate)).placement.run = none := hrun
  refine (task_next h).trans ?_
  simp only [not_badSitting hk, hphase', hrun', Bool.not_true, Bool.false_eq_true, if_false, Option.isSome_none]
  rfl

theorem State.startRun_run (s : State) (k : Nat) : (s.startRun k).placement.run = some (s.freshRun k) := rfl

theorem State.sitting_startRun (s : State) (k j : Nat) : (s.startRun k).sitting j
    = if j = k then { s.sitting k with alloc := .running, runPlaced := 0, runUnplaced := 0, runPassed := 0 }
      else s.sitting j := State.sitting_setSitting ..

/-- A run with candidates to serve is not over. -/
theorem State.startRun_going (h : s.slotsOf k (awaitsPlacement k) ≠ []) : (s.startRun k).checkRun = s.startRun k := by
  refine State.checkRun_going fun r hr => ?_
  obtain rfl : s.freshRun k = r := Option.some.inj hr
  have hlist : ¬ (s.freshRun k).list.length ≤ (s.freshRun k).position :=
    Nat.not_le.2 (List.length_pos_of_ne_nil h)
  unfold State.runOver
  rw [decide_eq_false hlist]; rfl

/-- A run of no candidates, with no RUN offer outstanding, ends at once. -/
theorem State.startRun_over (h : s.slotsOf k (awaitsPlacement k) = [])
    (hoffers : ∀ o ∈ s.placement.offers, o.purpose ≠ .run) :
    (s.startRun k).checkRun = ((s.startRun k).closeRun (s.freshRun k) .done).raise .allocDone (.sitting k) := by
  refine State.checkRun_over (State.startRun_run s k) ?_
  have hlist : (s.freshRun k).list = [] := h
  have hnone : ((s.startRun k).placement.offers.any fun o => decide (o.purpose = .run)) = false :=
    List.any_eq_false.2 fun o ho => by simpa using hoffers o ho
  unfold State.runOver
  rw [hnone, hlist]
  rfl

/-- The start of a run, and its end where it ends at once, leave every other sitting. -/
theorem State.startRun_others (s : State) {j : Nat} (hj : j ≠ k) : (s.startRun k).checkRun.sitting j = s.sitting j := by
  have hstart : (s.startRun k).sitting j = s.sitting j := by rw [State.sitting_startRun, if_neg hj]
  obtain h | ⟨r, hr, -, h⟩ := (s.startRun k).checkRun_cases
  · rw [h, hstart]
  · obtain rfl : s.freshRun k = r := Option.some.inj hr
    rw [h]
    change (((s.startRun k).closeRun (s.freshRun k) _).sitting j) = _
    rw [State.sitting_closeRun, if_neg (show j ≠ (s.freshRun k).sitting from hj), hstart]

/-- ALLOCATE starts the run, or starts and ends it. -/
theorem allocate_runs (hk : k < Config.sittings) (h : s.Ready .allocate) (hrun : s.placement.run = none)
    (hphase : (s.sitting k).phase = .defined ∨ (s.sitting k).phase = .opened ∨ (s.sitting k).phase = .reading) :
    ∃ t, exec (.allocate k) s = .next t
      ∧ t.Answered .started false (.runStarted k (s.slotsOf k (awaitsPlacement k)).length)
      ∧ (s.slotsOf k (awaitsPlacement k) ≠ [] →
        t.placement.run = some (s.freshRun k) ∧ (t.sitting k).alloc = .running)
      ∧ (s.slotsOf k (awaitsPlacement k) = [] → (∀ o ∈ s.placement.offers, o.purpose ≠ .run) →
        t.placement.run = none ∧ (t.sitting k).alloc = .done ∧ 0 < (t.notice .allocDone).count)
      ∧ (∀ j, j ≠ k → t.sitting j = s.sitting j) ∧ OnlyChanges (mayChange (.allocate k)) s t := by
  have hadmits : admitsEnrolment (s.sitting k).phase = true := by
    obtain hp | hp | hp := hphase <;> rw [hp] <;> rfl
  have hexec := execAllocate_starts hk h hrun hadmits
  have hframe := State.checkRun_only _ (bs := [.run, .sittings, .notices]) (by decide)
    (State.startRun_only (s.startTask (taskCode .allocate)) k (by decide) (.refl _ _))
  refine ⟨_, hexec, State.finishTask_answered hframe (by decide) .., fun hsome => ?_, fun hnone hoffers => ?_,
    fun j hj => State.startRun_others (s.startTask (taskCode .allocate)) hj, execAllocate_only hexec⟩
  · rw [State.startRun_going (s := s.startTask (taskCode .allocate)) hsome]
    refine ⟨rfl, ?_⟩
    change (((s.startTask (taskCode .allocate)).startRun k).sitting k).alloc = _
    rw [State.sitting_startRun, if_pos rfl]
  · rw [State.startRun_over (s := s.startTask (taskCode .allocate)) hnone hoffers]
    refine ⟨rfl, ?_, State.notice_raise_pos ..⟩
    change ((((s.startTask (taskCode .allocate)).startRun k).closeRun (s.freshRun k) .done).sitting k).alloc = _
    rw [State.sitting_closeRun, if_pos (show k = (s.freshRun k).sitting from rfl)]

end Sys2Proof.Machine

namespace Sys2Proof.Machine

variable {s t u : State} {r : Run} {o : Offer} {l : List Offer} {k : Nat}

/-! ### ABORT_ALLOCATION (R48) -/

theorem State.passOver_run (h : s.placement.run = some r) :
    s.passOver.placement.run = some { r with passed := r.passed + 1 } := by
  unfold State.passOver; rw [h]; rfl

/-- The cancel of an offer leaves the run of its sitting; it may count a candidate passed over (R55). -/
theorem State.cancelOffer_run (h : s.placement.run = some r) (o : Offer) :
    ∃ x, (s.cancelOffer o).placement.run = some x ∧ x.sitting = r.sitting := by
  have hremoved : OnlyChanges [.offers, .seats, .entries, .lines, .notices] s
      (((s.dropOffer o.seat).requestCancel o.seat).removeOffer o.seat) :=
    State.removeOffer_only _ _ (by decide) (State.requestCancel_only _ _ (by decide)
      (State.dropOffer_only _ _ (by decide) (.refl _ _)))
  have retried (v : State) : (v.retryStranded o.seat).placement.run = v.placement.run :=
    (State.retryStranded_only v o.seat (List.Subset.refl _) (.refl _ _)).run (by decide)
  have passed (v : State) (hv : OnlyChanges [.offers, .seats, .entries, .lines, .notices] s v) :
      ∃ x, ((if o.purpose = .run then v.passOver else v).retryStranded o.seat).placement.run = some x
        ∧ x.sitting = r.sitting := by
    have hrun := (hv.run (by decide)).trans h
    rw [retried]
    split
    · exact ⟨_, State.passOver_run hrun, rfl⟩
    · exact ⟨r, hrun, rfl⟩
  unfold State.cancelOffer
  refine passed _ ?_
  split
  · split
    · exact State.withdrawOffer_only _ _ _ (by decide) hremoved
    · exact hremoved
  · exact hremoved

theorem State.cancelOffers_run (h : s.placement.run = some r) (l : List Offer) :
    ∃ x, (l.foldl State.cancelOffer s).placement.run = some x ∧ x.sitting = r.sitting := by
  induction l generalizing s r with
  | nil => exact ⟨r, h, rfl⟩
  | cons o l ih =>
    obtain ⟨y, hy, hsitting⟩ := State.cancelOffer_run h o
    obtain ⟨x, hx, hsame⟩ := ih hy
    exact ⟨x, hx, hsame.trans hsitting⟩

/-- The offers cancelled are gone from the table, and no offer is new there. -/
theorem State.mem_cancelOffers (h : o ∈ (l.foldl State.cancelOffer s).placement.offers) :
    o ∈ s.placement.offers ∧ o ∉ l := by
  induction l generalizing s with
  | nil => exact ⟨h, List.not_mem_nil⟩
  | cons y l ih =>
    obtain ⟨hmem, hl⟩ := ih h
    rw [State.cancelOffer_offers] at hmem
    obtain ⟨hs, hseat⟩ := List.mem_filter.1 hmem
    exact ⟨hs, List.not_mem_cons_of_ne_of_not_mem (fun hy => by simp [hy] at hseat) hl⟩

theorem State.runOffers_cancelled (h : o ∈ (s.runOffers.foldl State.cancelOffer s).placement.offers) :
    o.purpose ≠ .run := fun hrun => by
  obtain ⟨hmem, hl⟩ := State.mem_cancelOffers h
  exact hl (List.mem_filter.2 ⟨hmem, by simpa using hrun⟩)

/-- An abort cancels the offers of the run and closes it as ABORTED. -/
theorem execAbortAllocation_ends (hk : k < Config.sittings) (h : s.Ready .abortAllocation) (hr : s.placement.run = some r)
    (halloc : (s.sitting k).alloc = .running) (hu : u = s.startTask (taskCode .abortAllocation)) {x : Run}
    (hx : (u.runOffers.foldl State.cancelOffer u).placement.run = some x) : exec (.abortAllocation k) s
      = .next (((u.runOffers.foldl State.cancelOffer u).closeRun x .aborted).finishTask .ok false
          (.runAborted k r.placed r.unplaced (unserved r) s.runOffers.length)) := by
  subst hu
  have halloc' : ((s.startTask (taskCode .abortAllocation)).sitting k).alloc = .running := halloc
  have hr' : (s.startTask (taskCode .abortAllocation)).placement.run = some r := hr
  refine (task_next h).trans ?_
  simp only [not_badSitting hk, halloc', hr', hx, Bool.false_eq_true, if_false, ne_eq, not_true_eq_false]
  rfl

theorem abortAllocation_ends (hk : k < Config.sittings) (h : s.Ready .abortAllocation) (hr : s.placement.run = some r)
    (hsitting : r.sitting = k) (halloc : (s.sitting k).alloc = .running) :
    ∃ t, exec (.abortAllocation k) s = .next t
      ∧ t.Answered .ok false (.runAborted k r.placed r.unplaced ((r.list.length - r.position) + r.retry.length)
          (s.placement.offers.filter fun o => o.purpose = .run).length)
      ∧ t.placement.run = none ∧ (t.sitting k).alloc = .aborted ∧ (∀ o ∈ t.placement.offers, o.purpose ≠ .run)
      ∧ OnlyChanges (mayChange (.abortAllocation k)) s t := by
  obtain ⟨u, hu⟩ : ∃ u, u = s.startTask (taskCode .abortAllocation) := ⟨_, rfl⟩
  have hrun : u.placement.run = some r := by rw [hu]; exact hr
  obtain ⟨x, hx, hsame⟩ := State.cancelOffers_run hrun u.runOffers
  have hexec := execAbortAllocation_ends hk h hr halloc hu hx
  have hframe : OnlyChanges placementParts (s.startTask (taskCode .abortAllocation))
      ((u.runOffers.foldl State.cancelOffer u).closeRun x .aborted) := by
    rw [← hu]
    exact State.closeRun_only _ _ _ (by decide)
      (.foldl (.refl _ _) fun v o => State.cancelOffer_only v o (by decide) (.refl _ _))
  refine ⟨_, hexec, State.finishTask_answered hframe (by decide) .., rfl, ?_,
    fun o ho => State.runOffers_cancelled (s := u) ho, execAbortAllocation_only hexec⟩
  change (((u.runOffers.foldl State.cancelOffer u).closeRun x .aborted).sitting k).alloc = _
  rw [State.sitting_closeRun, if_pos (hsame.trans hsitting).symm]

end Sys2Proof.Machine

namespace Sys2Proof.Machine

variable {s t u : State} {bs : List Part} {e : Entry} {d d0 n p : Nat}

/-! ### MOVE (R59, R60) -/

theorem OnlyChanges.byNumber? (h : OnlyChanges bs s t) (hb : Part.entries ∉ bs) (n : Nat) :
    t.byNumber? n = s.byNumber? n := State.byNumber?_congr (h.rest .entries hb) n

/-- A seat with an occupant that is released: EMPTY, with its candidate's entry and count, and the desk may be shown. -/
theorem State.requestRelease_only_released (h : occupant (s.seat d).tenure = some p) :
    OnlyChanges tellingParts ((s.rewired d .empty p fun e => { e with seat := none }).count p dropPlaced)
      (s.requestRelease d) := by
  unfold State.requestRelease
  rw [h]
  dsimp only
  split
  · exact State.showSeat_only _ _ _ (List.Subset.refl _) (.refl _ _)
  · exact .refl _ _

theorem State.byNumber?_rewired {x : Tenure} {f : Entry → Entry} (hf : ∀ e, (f e).number = e.number)
    (he : s.byNumber? n = some e) : (s.rewired d x e.slot f).byNumber? n = some (f e) := by
  unfold State.rewired
  rw [State.byNumber?_modEntry _ _ _ hf, show (s.setSeat d { s.seat d with tenure := x }).byNumber? n = some e from he]
  simp

/-- The seat of a MOVE is left: it is EMPTY, all others stay, and the candidate is away from it. -/
theorem State.leaveSeat_left (he : s.byNumber? n = some e) (hd : e.seat = some d0)
    (h : occupant (s.seat d0).tenure = some e.slot) :
    (∀ j, (s.leaveSeat e).seat j = if j = d0 then { s.seat d0 with tenure := .empty } else s.seat j)
      ∧ (s.leaveSeat e).byNumber? n = some (awayEntry e) := by
  have hreleased := State.requestRelease_only_released h
  have hseat (j : Nat) : (s.requestRelease d0).seat j = if j = d0 then { s.seat d0 with tenure := .empty } else s.seat j := by
    rw [hreleased.seat (by decide), State.seat_count, State.seat_rewired]
  have hentry : (s.requestRelease d0).byNumber? n = some { e with seat := none } := by
    rw [hreleased.byNumber? (by decide), (State.count_only _ _ _ (List.Subset.refl _) (.refl _ _)).byNumber? (by decide)]
    exact State.byNumber?_rewired (fun _ => rfl) he
  unfold State.leaveSeat awayEntry
  rw [hd]
  dsimp only
  split
  · refine ⟨fun j => ?_, ?_⟩
    · unfold State.displace
      rw [State.seat_modEntry, hseat]
    · unfold State.displace
      rw [State.byNumber?_modEntry, hentry]
      · simp
      · exact fun _ => rfl
  · exact ⟨hseat, hentry⟩

theorem awayEntry_slot (e : Entry) : (awayEntry e).slot = e.slot := by unfold awayEntry; split <;> rfl

theorem awayEntry_seat (e : Entry) : (awayEntry e).seat = none := by unfold awayEntry; split <;> rfl

theorem awayEntry_offer (e : Entry) : (awayEntry e).offer = e.offer := by unfold awayEntry; split <;> rfl

theorem awayEntry_expected (h : e.presence = .expected) : (awayEntry e).presence = .expected := by
  unfold awayEntry
  rw [if_neg (by rw [h]; decide)]
  exact h

theorem awayEntry_present (h : e.presence = .present) : (awayEntry e).presence = .displaced
    ∧ (awayEntry e).displacedCause = true ∧ (awayEntry e).resting = false := by
  unfold awayEntry
  rw [if_pos h]
  exact ⟨rfl, rfl, rfl⟩

/-- What follows the offer or the reseat of a MOVE changes the reseat queue, the run and its sitting alone. -/
theorem State.carryMove_tail (u : State) (d0 : Nat) :
    OnlyChanges [.reseats, .run, .sittings, .notices] u (u.retryStranded d0).checkRun :=
  State.checkRun_only _ (by decide) (State.retryStranded_only _ _ (by decide) (.refl _ _))

theorem State.carryMove_to_seat (hd : e.seat = some d0) (d : Nat) : s.carryMove e (.seat d)
    = (((s.leaveSeat e).makeOffer e.slot d .move (some d0)).retryStranded d0).checkRun := by
  unfold State.carryMove; rw [hd]

theorem State.carryMove_to_any (hd : e.seat = some d0) : s.carryMove e .anySeat
    = (((s.leaveSeat e).appendReseat { slot := e.slot, former := none, excluded := some d0 }).retryStranded d0).checkRun := by
  unfold State.carryMove; rw [hd]

theorem State.makeOffer_byNumber? (h : (s.seat d).tenure = .empty) (he : s.byNumber? n = some e) (x : Purpose)
    (o : Option Nat) : (s.makeOffer e.slot d x o).byNumber? n = some { e with offer := some d } := by
  rw [(State.makeOffer_only_offered h e.slot x o).byNumber? (by decide)]
  exact State.byNumber?_rewired (fun _ => rfl) he

/-- The stranded candidates that a seat brings back join behind those that wait (R58). -/
theorem State.retryStranded_appends (u : State) (d : Nat) : u.placement.reseats <+: (u.retryStranded d).placement.reseats := by
  unfold State.retryStranded
  split
  · exact List.prefix_append _ _
  · exact List.prefix_refl _

/-- A MOVE to a seat that suits: the old seat is left and the new one offered. -/
theorem State.carryMove_offers (he : s.byNumber? n = some e) (hd0 : e.seat = some d0)
    (hocc : occupant (s.seat d0).tenure = some e.slot) (hd : s.suits e d = true) :
    ((s.carryMove e (.seat d)).seat d0).tenure = .empty ∧ ((s.carryMove e (.seat d)).seat d).tenure = .offered e.slot
      ∧ (s.carryMove e (.seat d)).placement.offers = s.placement.offers
          ++ [{ seat := d, slot := e.slot, purpose := .move, origin := some d0, stage := .waiting }]
      ∧ (s.carryMove e (.seat d)).byNumber? n = some { awayEntry e with offer := some d } := by
  have hten : (s.seat d).tenure = .empty := State.fits_tenure (Bool.and_eq_true_iff.1 hd).2
  have hne : d ≠ d0 := fun heq => by rw [← heq, hten] at hocc; cases hocc
  obtain ⟨hseat, hentry⟩ := State.leaveSeat_left he hd0 hocc
  have hfree : ((s.leaveSeat e).seat d).tenure = .empty := by rw [hseat, if_neg hne]; exact hten
  have htail := ((s.leaveSeat e).makeOffer e.slot d .move (some d0)).carryMove_tail d0
  rw [← State.carryMove_to_seat hd0] at htail
  refine ⟨?_, ?_, ?_, ?_⟩
  · rw [htail.seat (by decide), State.makeOffer_seat hfree, if_neg (Ne.symm hne), hseat, if_pos rfl]
  · rw [htail.seat (by decide), State.makeOffer_seat hfree, if_pos rfl]
  · rw [htail.offers (by decide), State.makeOffer_offers hfree, State.leaveSeat_offers]
  · rw [htail.byNumber? (by decide), ← awayEntry_slot e]
    exact State.makeOffer_byNumber? hfree hentry ..

/-- A MOVE to any seat: the old seat is left and the candidate joins the reseat queue. -/
theorem State.carryMove_queues (he : s.byNumber? n = some e) (hd0 : e.seat = some d0)
    (hocc : occupant (s.seat d0).tenure = some e.slot) (hroom : s.placement.reseats.length < Config.reseats) :
    ((s.carryMove e .anySeat).seat d0).tenure = .empty
      ∧ s.placement.reseats ++ [{ slot := e.slot, former := none, excluded := some d0 }]
          <+: (s.carryMove e .anySeat).placement.reseats
      ∧ (s.carryMove e .anySeat).byNumber? n = some (awayEntry e) := by
  obtain ⟨hseat, hentry⟩ := State.leaveSeat_left he hd0 hocc
  have hreseats : (s.leaveSeat e).placement.reseats = s.placement.reseats :=
    (State.leaveSeat_only s e (List.Subset.refl _) (.refl _ _)).reseats (by decide)
  have happend : (s.leaveSeat e).appendReseat { slot := e.slot, former := none, excluded := some d0 }
      = (s.leaveSeat e).setReseats (s.placement.reseats ++ [{ slot := e.slot, former := none, excluded := some d0 }]) := by
    unfold State.appendReseat
    rw [hreseats, if_pos hroom]
  have hcarry := State.carryMove_to_any (s := s) hd0
  rw [happend] at hcarry
  have htail := ((s.leaveSeat e).setReseats
    (s.placement.reseats ++ [{ slot := e.slot, former := none, excluded := some d0 }])).carryMove_tail d0
  rw [← hcarry] at htail
  refine ⟨?_, ?_, ?_⟩
  · rw [htail.seat (by decide), State.seat_setReseats, hseat, if_pos rfl]
  · rw [hcarry, (State.checkRun_only _ (List.Subset.refl _) (.refl _ _)).reseats (by decide)]
    exact State.retryStranded_appends ((s.leaveSeat e).setReseats _) d0
  · rw [htail.byNumber? (by decide)]
    exact hentry

/-- A MOVE that passes its tests is carried out. -/
theorem execMove_carries {x : MoveTarget} (h : s.Ready .move) (hx : badTarget x = false) (hn : badNumber n = false)
    (he : s.byNumber? n = some e) (hp : e.presence = .expected ∨ e.presence = .present)
    (hbusy : s.placementBusy e = false) (hm : s.moveRefusal e x = none) : exec (.move n x) s
      = .next (((s.startTask (taskCode .move)).carryMove e x).finishTask .started false (.moved n x e.seat)) := by
  have hpresence : ¬ (e.presence ≠ .expected ∧ e.presence ≠ .present) := by tauto
  have hbusy' : (s.startTask (taskCode .move)).placementBusy e = false := hbusy
  have hm' : (s.startTask (taskCode .move)).moveRefusal e x = none := by
    cases x with
    | seat d => exact hm
    | anySeat => exact hm
  refine (task_next h).trans ?_
  simp only [hx, State.withCandidate_found (s := s.startTask (taskCode .move)) hn he, if_neg hpresence, hbusy', hm',
    Bool.false_eq_true, if_false]

end Sys2Proof.Machine

namespace Sys2Proof.Machine

/-- Settles O30: the run is read off its start or its end; an abort takes the RUN offers one by one; a MOVE leaves the
seat and makes its offer or its reseat before the seat left brings anyone back. -/
theorem runsAndMoves : Obligations.RunsAndMoves := by
  unfold Obligations.RunsAndMoves
  refine ⟨fun s k hk => ⟨allocate_runs hk, fun h r hr => abortAllocation_ends hk h hr⟩,
    fun s n e d0 h _ hn he hp hbusy hd0 hocc => ⟨fun d hd hsuits hroom => ?_, fun hroom => ?_⟩⟩
  · have hm : s.moveRefusal e (.seat d) = none := by
      unfold State.moveRefusal
      simp [hsuits, Nat.not_le.2 hroom]
    have hexec := execMove_carries (x := .seat d) h (decide_eq_false (Nat.not_le.2 hd)) hn he hp hbusy hm
    rw [hd0] at hexec
    obtain ⟨hleft, hoffered, hoffers, hentry⟩ := State.carryMove_offers (s := s.startTask (taskCode .move)) he hd0 hocc hsuits
    have hframe := State.carryMove_only (s.startTask (taskCode .move)) e (.seat d) (bs := placementParts)
      (by decide) (.refl _ _)
    exact ⟨_, _, hexec, State.finishTask_answered hframe (by decide) .., hleft, hoffered, hoffers, hentry,
      awayEntry_seat e, rfl, awayEntry_expected, awayEntry_present, execMove_only hexec⟩
  · have hm : s.moveRefusal e .anySeat = none := if_neg (Nat.not_le.2 hroom)
    have hexec := execMove_carries (x := .anySeat) h rfl hn he hp hbusy hm
    rw [hd0] at hexec
    have hoffer : e.offer = none := by
      unfold State.placementBusy at hbusy
      simp only [Bool.or_eq_false_iff, Option.isSome_eq_false_iff, Option.isNone_iff_eq_none] at hbusy
      exact hbusy.1.1
    obtain ⟨hleft, hqueued, hentry⟩ := State.carryMove_queues (s := s.startTask (taskCode .move)) he hd0 hocc hroom
    have hframe := State.carryMove_only (s.startTask (taskCode .move)) e .anySeat (bs := placementParts)
      (by decide) (.refl _ _)
    exact ⟨_, _, hexec, State.finishTask_answered hframe (by decide) .., hleft, hqueued, hentry, awayEntry_seat e,
      (awayEntry_offer e).trans hoffer, awayEntry_expected, awayEntry_present, execMove_only hexec⟩

end Sys2Proof.Machine

namespace Sys2Proof.Machine

variable {s t u : State} {w : Settings} {x : SettingsStore}

/-! ### What is written to the settings stays in range -/

/-- The five channels of a calibration set are in range (R151). -/
def CalSet.inRange (c : CalSet) : Prop :=
  c.a.inRange ∧ c.b.inRange ∧ c.c.inRange ∧ c.d.inRange ∧ c.e.inRange

/-- No output is assigned a condition of a sitting index above 15 (R80). -/
def Signals.inRange (g : Signals) : Prop := ∀ o, badCond (signalOf g o) = false

theorem Settings.inRange_iff : w.inRange ↔ w.calibration.inRange ∧ w.thresholds.inRange
    ∧ (2 ≤ w.lossLimit ∧ w.lossLimit ≤ 15) ∧ (1 ≤ w.regainLimit ∧ w.regainLimit ≤ 31) ∧ w.signals.inRange := by
  unfold Settings.inRange CalSet.inRange Signals.inRange
  tauto

/-- A gain is an operand of 16 bits; shift and offset are clamped (R152). -/
theorem newChannel_inRange (gain : BitVec 16) (shift : Nat) (offset : Int) :
    (newChannel gain.toNat shift offset).inRange := by
  obtain ⟨-, hshift⟩ := clampNat_bounds (lo := 0) (hi := 7) (by decide) shift
  obtain ⟨hlow, hhigh⟩ := clampInt_bounds (lo := -512) (hi := 511) (by decide) offset
  exact ⟨Nat.le_of_lt_succ gain.isLt, hshift, hlow, hhigh⟩

theorem CalSet.inRange.withChannel {c : CalSet} {y : Channel} (hc : c.inRange) (hy : y.inRange) (selector : Nat) :
    (withChannel c y selector).inRange := by
  obtain ⟨ha, hb, hc, hd, he⟩ := hc
  unfold Machine.withChannel
  split
  · exact ⟨hy, hb, hc, hd, he⟩
  · exact ⟨ha, hy, hc, hd, he⟩
  · exact ⟨ha, hb, hy, hd, he⟩
  · exact ⟨ha, hb, hc, hy, he⟩
  · exact ⟨ha, hb, hc, hd, hy⟩
  · exact ⟨hy, hy, hy, hy, hy⟩

/-- LOW is clamped below the HIGH written with it (R153, R154). -/
theorem newThresholds_inRange (high low margin : Nat) : (newThresholds high low margin).inRange := by
  obtain ⟨hpos, hhigh⟩ := clampNat_bounds (lo := 1) (hi := 1023) (by decide) high
  obtain ⟨-, hlow⟩ := clampNat_bounds (Nat.zero_le (clampNat 1 1023 high - 1)) low
  obtain ⟨hmargin, hmargin'⟩ := clampNat_bounds (lo := 1) (hi := 1023) (by decide) margin
  exact ⟨hpos, hhigh, Nat.lt_of_le_of_lt hlow (Nat.sub_lt hpos (by decide)), hmargin, hmargin'⟩

theorem Signals.inRange.withSignal {g : Signals} {c : SignalCond} (hg : g.inRange) (hc : badCond c = false)
    (output : Nat) : (withSignal g c output).inRange := by
  have h0 : badCond g.out0 = false := hg 0
  have h1 : badCond g.out1 = false := hg 1
  have h2 : badCond g.out2 = false := hg 2
  have h3 : badCond g.out3 = false := hg 3
  intro o
  unfold Machine.withSignal signalOf
  split <;> split <;> assumption

/-- A start takes the image, or the factory settings where its check fails (R202). -/
theorem loaded_inRange (h : x.image.inRange) : (loaded x).working.inRange ∧ (loaded x).image.inRange := by
  unfold loaded
  dsimp only
  split
  · exact ⟨h, h⟩
  · exact ⟨factory_inRange, h⟩

/-! ### Every command keeps the settings in range -/

/-- The settings in range are a fact about the settings store alone. -/
theorem State.SettingsInRange.of_eq (h : t.settings = s.settings) (hs : s.SettingsInRange) : t.SettingsInRange := by
  unfold State.SettingsInRange
  rw [h]; exact hs

theorem OnlyChanges.settingsInRange {bs : List Part} (h : OnlyChanges bs s t) (hb : Part.settings ∉ bs)
    (hs : s.SettingsInRange) : t.SettingsInRange := hs.of_eq (h.rest .settings hb)

/-- New working settings in range leave the store in range. -/
theorem State.SettingsInRange.setSettings (hs : s.SettingsInRange) (hw : w.inRange) :
    (s.setSettings w).SettingsInRange := ⟨hw, hs.2⟩

theorem State.SettingsInRange.loaded (hs : s.SettingsInRange) (h : t.settings = Machine.loaded s.settings) :
    t.SettingsInRange := by
  obtain ⟨-, himage, -⟩ := hs
  obtain ⟨hworking, himage'⟩ := loaded_inRange himage
  unfold State.SettingsInRange
  rw [h]
  exact ⟨hworking, himage', fun w hw => by cases hw⟩

theorem task_settings {k : Task} {body : State → State} (hs : s.SettingsInRange)
    (h : (Host.Outcome.next (s.atPort k body) : Result) = .next t)
    (hbody : ∀ u, u.SettingsInRange → (body u).SettingsInRange) : t.SettingsInRange :=
  task_keeps h (fun _ _ hm => hm.settingsInRange (by decide)) hs hbody

theorem execSetPasscode_settings {l v} (hs : s.SettingsInRange) (h : execSetPasscode l v s = .next t) :
    t.SettingsInRange :=
  task_settings hs h fun u hu => by
    cases l with
    | none => exact hu.of_eq rfl
    | some l => cases l <;> exact hu.setSettings hu.1

theorem execSetGrants_settings {g} (hs : s.SettingsInRange) (h : execSetGrants g s = .next t) : t.SettingsInRange :=
  task_settings hs h fun u hu => by
    dsimp only
    split
    · exact hu.of_eq rfl
    · exact hu.setSettings hu.1

/-- The copy that SAVE_SETTINGS writes is that of the working settings (R202). -/
theorem execSaveSettings_settings (hs : s.SettingsInRange) (h : execSaveSettings s = .next t) : t.SettingsInRange :=
  task_settings hs h fun _ ⟨hworking, himage, _⟩ => ⟨hworking, himage, fun w hw => by cases hw; exact hworking⟩

theorem execSettingsWriteEnd_settings {c} (hs : s.SettingsInRange) (h : execSettingsWriteEnd c s = .next t) :
    t.SettingsInRange :=
  event_keeps h hs fun ⟨hworking, himage, hwriting⟩ => by
    split
    · exact hs
    · next w hw =>
      split
      · exact ⟨hworking, hwriting w hw, fun _ hn => by cases hn⟩
      · exact ⟨hworking, himage, fun _ hn => by cases hn⟩

theorem execSetLineLimits_settings {l r} (hs : s.SettingsInRange) (h : execSetLineLimits l r s = .next t) :
    t.SettingsInRange :=
  task_settings hs h fun u hu => by
    obtain ⟨hcal, hthr, -, -, hsig⟩ := Settings.inRange_iff.1 hu.1
    exact hu.setSettings (Settings.inRange_iff.2
      ⟨hcal, hthr, clampNat_bounds (by decide) l, clampNat_bounds (by decide) r, hsig⟩)

theorem execSetSignal_settings {o c} (hs : s.SettingsInRange) (h : execSetSignal o c s = .next t) :
    t.SettingsInRange :=
  task_settings hs h fun u hu => by
    cases c with
    | none => exact hu.of_eq rfl
    | some c =>
      dsimp only
      split
      · exact hu.of_eq rfl
      · next hgood =>
        have hcond : badCond c = false := by simp_all
        obtain ⟨hcal, hthr, hloss, hregain, hsig⟩ := Settings.inRange_iff.1 hu.1
        exact hu.setSettings (Settings.inRange_iff.2 ⟨hcal, hthr, hloss, hregain, hsig.withSignal hcond o⟩)

theorem execSetCalibration_settings {c g y o} (hs : s.SettingsInRange) (h : execSetCalibration c g y o s = .next t) :
    t.SettingsInRange :=
  task_settings hs h fun u hu => by
    dsimp only
    split
    · exact hu.of_eq rfl
    · split
      · exact hu.of_eq rfl
      · obtain ⟨hcal, hrest⟩ := Settings.inRange_iff.1 hu.1
        exact hu.setSettings (Settings.inRange_iff.2 ⟨hcal.withChannel (newChannel_inRange g y o) c, hrest⟩)

theorem execSetThresholds_settings {a b m} (hs : s.SettingsInRange) (h : execSetThresholds a b m s = .next t) :
    t.SettingsInRange :=
  task_settings hs h fun u hu => by
    obtain ⟨hcal, -, hrest⟩ := Settings.inRange_iff.1 hu.1
    exact hu.setSettings (Settings.inRange_iff.2 ⟨hcal, newThresholds_inRange a b m, hrest⟩)

/-- A loss of the main supply cuts a write to the store short, and the image's contents stay (R202). -/
theorem execMainSupplyLoss_settings (hs : s.SettingsInRange) (h : execMainSupplyLoss s = .next t) :
    t.SettingsInRange := by
  obtain ⟨hworking, himage, -⟩ := id hs
  obtain rfl : _ = t := by injection h
  split
  · exact ⟨hworking, himage, fun _ hn => by cases hn⟩
  · exact ⟨hworking, himage, fun _ hn => by cases hn⟩
  · exact hs

theorem State.warmStart_settings (s : State) (cause : StartCause) :
    (s.warmStart cause).settings = loaded s.settings := by
  unfold State.warmStart State.endRunAtStart
  dsimp only
  split <;> split <;> rfl

theorem State.coldStart_settings (s : State) : s.coldStart.settings = loaded s.settings := by
  unfold State.coldStart
  dsimp only
  split <;> rfl

theorem start_settings {cause : StartCause} (hs : s.SettingsInRange) : (s.warmStart cause).SettingsInRange :=
  hs.loaded (s.warmStart_settings cause)

/-- Every command keeps the settings in range: one off the settings by its frame, any other by its own lemma. -/
theorem exec_settings (c : Instr) (s t : State) (h : exec c s = .next t) :
    s.SettingsInRange → t.SettingsInRange := by
  refine exec_lift (Q := fun s t => s.SettingsInRange → t.SettingsInRange)
    (fun _ _ hm hs => hm.settingsInRange (by decide) hs) (fun c s t ht h hs => ?_) c s t h
  by_cases hz : ∃ z, c = .restartLine z
  · obtain ⟨z, rfl⟩ := hz
    exact (execRestartLine_only h).settingsInRange (by decide) hs
  · by_cases hoff : Part.settings ∉ mayChange c
    · exact (exec_only ht (fun z hc => hz ⟨z, hc⟩) h).settingsInRange hoff hs
    · cases c with
      | areaWrite area o d => cases area <;> simp_all [mayChange]
      | setPasscode _ _ => exact execSetPasscode_settings hs h
      | setGrants _ => exact execSetGrants_settings hs h
      | saveSettings => exact execSaveSettings_settings hs h
      | settingsWriteEnd _ => exact execSettingsWriteEnd_settings hs h
      | setLineLimits _ _ => exact execSetLineLimits_settings hs h
      | setSignal _ _ => exact execSetSignal_settings hs h
      | setCalibration _ _ _ _ => exact execSetCalibration_settings hs h
      | setThresholds _ _ _ => exact execSetThresholds_settings hs h
      | mainSupplyLoss => exact execMainSupplyLoss_settings hs h
      | reboot => exact task_settings hs h fun _ hu => start_settings hu
      | resetn =>
        obtain rfl : _ = t := by injection h
        split
        · exact start_settings hs
        · exact start_settings hs
        · exact hs
      | mainSupplyReturn =>
        obtain rfl : _ = t := by injection h
        split
        · exact start_settings hs
        · exact hs
      | coldStart =>
        obtain rfl : _ = t := by injection h
        split
        · exact hs.loaded (State.coldStart_settings _)
        · exact hs
      | _ => exact absurd (by simp [mayChange, clockParts, placementParts, batchParts, sheetParts, answerParts]) hoff

/-- Settles O5: each task that writes a setting clamps or refuses what it is given, a write to the store copies
settings in range, and a start takes the image or the factory settings. -/
theorem stepKeepsSettingsInRange : Obligations.StepKeepsSettingsInRange := by
  unfold Obligations.StepKeepsSettingsInRange
  intro s t hs h
  unfold step at h
  split at h
  · obtain rfl : s = t := by injection h
    exact hs
  · exact exec_settings _ _ t h (hs.of_eq (s := s) rfl)

end Sys2Proof.Machine

namespace Sys2Proof.Machine

variable {s t u : State} {p k : Nat} {e e' x : Entry}

/-! ### The six counts of a sitting, and what an entry adds to each (R81) -/

/-- The six counts of R81. -/
inductive Tally where
  | enrolled | placed | present | awaiting | collected | final

/-- The count as the sitting's record holds it. -/
def Tally.of (r : Sitting) : Tally → Nat
  | .enrolled => r.enrolled
  | .placed => r.placed
  | .present => r.present
  | .awaiting => r.awaiting
  | .collected => r.collected
  | .final => r.final

/-- Whether the count counts an entry. -/
def Tally.meets (e : Entry) : Tally → Bool
  | .enrolled => true
  | .placed => e.seat.isSome
  | .present => decide (e.presence = .present ∨ e.presence = .displaced)
  | .awaiting => decide (e.custody = .handedIn)
  | .collected => isCollected e.custody
  | .final => isFinal e.custody

/-- What an entry adds to a count of sitting `k`. -/
def Tally.weight (c : Tally) (k : Nat) (e : Entry) : Nat := if e.sitting = k ∧ c.meets e = true then 1 else 0

/-- What the roster adds to a count of sitting `k`. -/
def State.total (s : State) (c : Tally) (k : Nat) : Nat := (s.roster.entries.map (c.weight k)).sum

theorem State.total_eq_tally (s : State) (c : Tally) (k : Nat) : s.total c k = s.tally k fun e => c.meets e := by
  unfold State.total State.tally State.entriesOf
  induction s.roster.entries with
  | nil => rfl
  | cons e l ih =>
    rw [List.map_cons, List.sum_cons, ih, List.filter_cons]
    by_cases hk : e.sitting = k
    · by_cases hm : c.meets e = true
      · simp [Tally.weight, hk, hm, Nat.add_comm]
      · simp [Tally.weight, hk, hm]
    · simp [Tally.weight, hk]

theorem State.countsAgree_iff : s.CountsAgree ↔ ∀ c k, Tally.of (s.sitting k) c = s.total c k := by
  simp only [State.total_eq_tally]
  constructor
  · intro h c k
    obtain ⟨henrolled, hplaced, hpresent, hawaiting, hcollected, hfinal⟩ := h k
    cases c <;> assumption
  · exact fun h k => ⟨h .enrolled k, h .placed k, h .present k, h .awaiting k, h .collected k, h .final k⟩

/-- Two entries that every count counts alike. -/
def Entry.countsAs (e e' : Entry) : Prop := e.sitting = e'.sitting ∧ ∀ c, Tally.meets e c = Tally.meets e' c

theorem Entry.countsAs.of (hk : e.sitting = e'.sitting) (hseat : e.seat = e'.seat)
    (hpresence : e.presence = e'.presence) (hcustody : e.custody = e'.custody) : e.countsAs e' :=
  ⟨hk, fun c => by cases c <;> simp [Tally.meets, hseat, hpresence, hcustody]⟩

theorem Entry.countsAs.weight (h : e.countsAs e') (c : Tally) (k : Nat) : c.weight k e = c.weight k e' := by
  unfold Tally.weight; rw [h.1, h.2]

/-- The sum over a roster in which each slot stands once, with one entry changed. -/
theorem sum_map_slot {l : List Entry} (hl : (l.map Entry.slot).Nodup) (he : e ∈ l) (f : Entry → Entry)
    (w : Entry → Nat) :
    ((l.map fun x => if x.slot = e.slot then f x else x).map w).sum + w e = (l.map w).sum + w (f e) := by
  induction l with
  | nil => cases he
  | cons y l ih =>
    obtain ⟨hy, hl⟩ := List.nodup_cons.1 hl
    simp only [List.map_cons, List.sum_cons]
    rcases List.mem_cons.1 he with rfl | he
    · have hsame : (l.map fun x => if x.slot = e.slot then f x else x) = l :=
        (List.map_congr_left fun x hx => if_neg fun hs : x.slot = e.slot => hy (hs ▸ List.mem_map_of_mem hx)).trans
          (List.map_id l)
      rw [hsame, if_pos rfl]; omega
    · have hne : y.slot ≠ e.slot := fun hs => hy (hs ▸ List.mem_map_of_mem he)
      have := ih hl he
      rw [if_neg hne]; omega

theorem State.total_modEntry (hr : s.RosterOrdered) (he : s.entry? p = some e) (f : Entry → Entry) (c : Tally)
    (k : Nat) : (s.modEntry p f).total c k + c.weight k e = s.total c k + c.weight k (f e) := by
  obtain ⟨-, hslots, -⟩ := hr
  obtain rfl := State.slot_of_entry? he
  exact sum_map_slot hslots (State.mem_of_entry? he) f (c.weight k)

theorem State.weight_le_total (he : s.entry? p = some e) (c : Tally) (k : Nat) : c.weight k e ≤ s.total c k :=
  List.single_le_sum (by simp) _ (List.mem_map_of_mem (State.mem_of_entry? he))

/-! ### Operations that no count sees -/

/-- No count of any sitting, and no number of entries that a count counts, differs. -/
structure SameCounts (s t : State) : Prop where
  total : ∀ c k, t.total c k = s.total c k
  count : ∀ c k, Tally.of (t.sitting k) c = Tally.of (s.sitting k) c

theorem SameCounts.refl (s : State) : SameCounts s s := ⟨fun _ _ => rfl, fun _ _ => rfl⟩

theorem SameCounts.trans (h : SameCounts s t) (g : SameCounts t u) : SameCounts s u :=
  ⟨fun c k => (g.total c k).trans (h.total c k), fun c k => (g.count c k).trans (h.count c k)⟩

theorem SameCounts.ite {c : Prop} [Decidable c] (h : SameCounts s t) (g : SameCounts s u) :
    SameCounts s (if c then t else u) := by split <;> assumption

theorem SameCounts.foldl {β : Type} {f : State → β → State} (l : List β) (hf : ∀ u x, SameCounts u (f u x))
    (s : State) : SameCounts s (l.foldl f s) := by
  induction l generalizing s with
  | nil => exact .refl s
  | cons x l ih => exact (hf s x).trans (ih _)

theorem SameCounts.agree (h : SameCounts s t) (hs : s.CountsAgree) : t.CountsAgree := by
  rw [State.countsAgree_iff] at hs ⊢
  intro c k
  rw [h.count, h.total, hs]

/-- What a frame of other parts leaves of the counts. -/
theorem OnlyChanges.sameCounts {bs : List Part} (h : OnlyChanges bs s t)
    (hb : Part.entries ∉ bs ∧ Part.sittings ∉ bs) : SameCounts s t := by
  have hentries : t.roster.entries = s.roster.entries := h.rest .entries hb.1
  have hsittings : t.control.sittings = s.control.sittings := h.rest .sittings hb.2
  refine ⟨fun c k => ?_, fun c k => ?_⟩
  · unfold State.total; rw [hentries]
  · unfold State.sitting; rw [hsittings]

/-- A change of a sitting's record that keeps the six counts. -/
def keepsCounts (f : Sitting → Sitting) : Prop := ∀ r c, Tally.of (f r) c = Tally.of r c

theorem State.modSitting_sameCounts (s : State) (k : Nat) {f : Sitting → Sitting} (hf : keepsCounts f) :
    SameCounts s (s.modSitting k f) :=
  ⟨fun _ _ => rfl, fun c j => by
    unfold State.modSitting
    rw [State.sitting_setSitting]
    split
    · next h => rw [hf, h]
    · rfl⟩

/-- Every entry changed, and none in what a count reads of it. -/
theorem State.mapEntries_sameCounts (s : State) {f : Entry → Entry} (hf : ∀ e, (f e).countsAs e) :
    SameCounts s (s.setEntries (s.roster.entries.map f)) :=
  ⟨fun c k => by
    unfold State.total
    rw [State.setEntries_roster, List.map_map]
    exact congrArg List.sum (List.map_congr_left fun e _ => (hf e).weight c k), fun _ _ => rfl⟩

theorem State.modEntry_sameCounts (s : State) (p : Nat) {f : Entry → Entry} (hf : ∀ e, (f e).countsAs e) :
    SameCounts s (s.modEntry p f) :=
  State.mapEntries_sameCounts s fun e => by
    split
    · exact hf e
    · exact ⟨rfl, fun _ => rfl⟩

/-- The entry of one slot changed, and not in what a count reads of it. -/
theorem State.modEntry_sameCounts_at (hr : s.RosterOrdered) (he : s.entry? p = some e) {f : Entry → Entry}
    (hf : (f e).countsAs e) : SameCounts s (s.modEntry p f) :=
  ⟨fun c k => by
    have := State.total_modEntry hr he f c k
    rw [hf.weight] at this
    omega, fun _ _ => rfl⟩

/-! ### A count follows the entry it counts -/

/-- The counts agree once the entry `x` of the roster is counted as `e`. -/
def State.CountedAs (s : State) (e x : Entry) : Prop :=
  ∀ c k, Tally.of (s.sitting k) c + c.weight k x = s.total c k + c.weight k e

/-- Turns the counts of a sitting that counts an entry as `e` into those of one that counts it as `e'`. -/
structure Recounts (g : Sitting → Sitting) (e e' : Entry) : Prop where
  sitting : e'.sitting = e.sitting
  counts : ∀ r, (∀ c, (Tally.meets e c).toNat ≤ Tally.of r c) →
    ∀ c, Tally.of (g r) c + (Tally.meets e c).toNat = Tally.of r c + (Tally.meets e' c).toNat

theorem State.countedAs_self (h : s.CountsAgree) (e : Entry) : s.CountedAs e e := fun c k => by
  rw [State.countsAgree_iff.1 h c k]

theorem State.CountedAs.agree (h : s.CountedAs e x) (hx : x.countsAs e) : s.CountsAgree :=
  State.countsAgree_iff.2 fun c k => by
    have := h c k
    rw [hx.weight] at this
    omega

theorem State.CountedAs.same (h : s.CountedAs e x) (g : SameCounts s t) : t.CountedAs e x := fun c k => by
  rw [g.count, g.total]; exact h c k

theorem State.CountedAs.modEntry (h : s.CountedAs e x) (hr : s.RosterOrdered) (hx : s.entry? p = some x)
    (f : Entry → Entry) : (s.modEntry p f).CountedAs e (f x) := fun c k => by
  have hcount : Tally.of (s.sitting k) c + c.weight k x = s.total c k + c.weight k e := h c k
  have htotal := State.total_modEntry hr hx f c k
  change Tally.of (s.sitting k) c + _ = _
  omega

theorem Tally.weight_self (c : Tally) (e : Entry) : c.weight e.sitting e = (c.meets e).toNat := by
  unfold Tally.weight
  cases Tally.meets e c <;> simp

theorem Tally.weight_other {c : Tally} (h : e.sitting ≠ k) : c.weight k e = 0 := if_neg fun hc => h hc.1

theorem State.CountedAs.modSitting (h : s.CountedAs e x) (hx : s.entry? p = some x) {g : Sitting → Sitting}
    (hg : Recounts g e e') : (s.modSitting e.sitting g).CountedAs e' x := fun c k => by
  have hcount := h c k
  change Tally.of ((s.setSitting e.sitting (g (s.sitting e.sitting))).sitting k) c + _ = s.total c k + _
  rw [State.sitting_setSitting]
  split
  · next hk =>
    subst hk
    have hfloor (c : Tally) : (Tally.meets e c).toNat ≤ Tally.of (s.sitting e.sitting) c := by
      have := h c e.sitting
      have := State.weight_le_total hx c e.sitting
      rw [← Tally.weight_self]; omega
    have hmove := hg.counts _ hfloor c
    rw [← Tally.weight_self, ← Tally.weight_self, hg.sitting] at hmove
    omega
  · next hk =>
    rw [Tally.weight_other (c := c) (fun h => hk h.symm)] at hcount
    rw [Tally.weight_other (e := e') fun h => hk (h.symm.trans hg.sitting)]
    exact hcount

theorem State.CountedAs.count (h : s.CountedAs e x) (hx : s.entry? p = some x) (hk : x.sitting = e.sitting)
    {g : Sitting → Sitting} (hg : Recounts g e e') : (s.count p g).CountedAs e' x := by
  unfold State.count
  rw [hx]
  dsimp only
  rw [hk]
  exact h.modSitting hx hg

/-- An entry changed, and the counts of its sitting with it. -/
theorem State.CountsAgree.recount (h : s.CountsAgree) (hr : s.RosterOrdered) (he : s.entry? p = some e)
    {f : Entry → Entry} (hf : ∀ e, (f e).slot = e.slot) {g : Sitting → Sitting} (hg : Recounts g e (f e)) :
    ((s.modEntry p f).count p g).CountsAgree := by
  have hcounted := (State.countedAs_self h e).modEntry hr he f
  have hentry : (s.modEntry p f).entry? p = some (f e) := by
    rw [State.entry?_modEntry f hf, if_pos rfl, he]; rfl
  exact (hcounted.count hentry hg.sitting hg).agree ⟨rfl, fun _ => rfl⟩

end Sys2Proof.Machine

namespace Sys2Proof.Machine

variable {s t u : State} {p d k : Nat} {e e' x : Entry}

/-! ### The changes of the six counts, each with the change of an entry it follows (R81) -/

@[simp] theorem isCollected_marked : isCollected .marked = true := rfl
@[simp] theorem isFinal_marked : isFinal .marked = true := rfl
@[simp] theorem isCollected_void : isCollected .void = false := rfl
@[simp] theorem isFinal_void : isFinal .void = false := rfl

theorem recounts_addPlaced (h : e.seat = none) (d : Nat) (o : Option Nat) :
    Recounts addPlaced e { e with offer := o, seat := some d } :=
  ⟨rfl, fun r _ c => by
    cases c with
    | placed => simp [Tally.of, Tally.meets, addPlaced, h]
    | _ => rfl⟩

theorem recounts_dropPlaced (h : e.seat = some d) : Recounts dropPlaced e { e with seat := none } :=
  ⟨rfl, fun r hr c => by
    have hplaced : 1 ≤ r.placed := by simpa [Tally.of, Tally.meets, h] using hr .placed
    cases c with
    | placed => simp [Tally.of, Tally.meets, dropPlaced, h, Nat.sub_add_cancel hplaced]
    | _ => rfl⟩

theorem recounts_addPresent (hp : e.presence = .expected) : Recounts addPresent e { e with presence := .present } :=
  ⟨rfl, fun r _ c => by
    cases c with
    | present => simp [Tally.of, Tally.meets, addPresent, hp]
    | _ => rfl⟩

theorem recounts_dropPresent (hp : e.presence = .present ∨ e.presence = .displaced) :
    Recounts dropPresent e { endClock e with presence := .finished } :=
  ⟨rfl, fun r hr c => by
    have hpresent : 1 ≤ r.present := by simpa [Tally.of, Tally.meets, hp] using hr .present
    cases c with
    | present => simp [Tally.of, Tally.meets, dropPresent, hp, Nat.sub_add_cancel hpresent]
    | _ => rfl⟩

theorem recounts_addAwaiting (hc : e.custody = .issued) : Recounts addAwaiting e { e with custody := .handedIn } :=
  ⟨rfl, fun r _ c => by cases c <;> simp [Tally.of, Tally.meets, addAwaiting, hc, isCollected, isFinal]⟩

/-- A script that leaves the hall uncollected is awaited no longer (R113, R116). -/
theorem recounts_dropAwaiting (hc : e.custody = .handedIn) {c : Custody} (hcustody : c = .missing ∨ c = .void) :
    Recounts dropAwaiting e { e with custody := c } :=
  ⟨rfl, fun r hr c => by
    have hawaiting : 1 ≤ r.awaiting := by simpa [Tally.of, Tally.meets, hc] using hr .awaiting
    rcases hcustody with rfl | rfl <;> cases c <;>
      simp [Tally.of, Tally.meets, dropAwaiting, hc, isCollected, isFinal, Nat.sub_add_cancel hawaiting]⟩

/-- A script is collected from its desk, or found late (R110, R111). -/
theorem recounts_collected (hc : e.custody = .handedIn ∨ e.custody = .missing) (v : Option Nat) :
    Recounts (fun r => if e.custody = .handedIn then addCollected (dropAwaiting r) else addCollected r) e
      { e with custody := .collected, tray := v } :=
  ⟨rfl, fun r hr c => by
    rcases hc with hc | hc
    · have hawaiting : 1 ≤ r.awaiting := by simpa [Tally.of, Tally.meets, hc] using hr .awaiting
      cases c <;> simp [Tally.of, Tally.meets, addCollected, dropAwaiting, hc, isCollected, isFinal,
        Nat.sub_add_cancel hawaiting]
    · cases c <;> simp [Tally.of, Tally.meets, addCollected, hc, isCollected, isFinal]⟩

theorem not_awaiting_of_collected (hc : isCollected e.custody = true) : e.custody ≠ .handedIn := fun h => by
  rw [h] at hc; cases hc

/-- A collected script becomes final (R81). -/
theorem recounts_addFinal (hc : isCollected e.custody = true) (hf : isFinal e.custody = false)
    (m : Option MarkRecord) : Recounts addFinal e { e with custody := .marked, mark := m } :=
  ⟨rfl, fun r _ c => by
    cases c <;> simp [Tally.of, Tally.meets, addFinal, hc, hf, not_awaiting_of_collected hc]⟩

/-- A collected script is void: it leaves the collected count, and the final count where it was MARKED (R116). -/
theorem recounts_voided (hc : isCollected e.custody = true) (hr : e.custody ≠ .released) :
    Recounts (fun r => if e.custody = .marked then dropFinal (dropCollected r) else dropCollected r) e
      { e with custody := .void, tray := none, mark := none } :=
  ⟨rfl, fun r hle c => by
    have hcollected : 1 ≤ r.collected := by simpa [Tally.of, Tally.meets, hc] using hle .collected
    by_cases hm : e.custody = .marked
    · have hfinal : 1 ≤ r.final := by simpa [Tally.of, Tally.meets, hm] using hle .final
      cases c <;> simp [Tally.of, Tally.meets, dropFinal, dropCollected, hm, Nat.sub_add_cancel hcollected,
        Nat.sub_add_cancel hfinal]
    · have hfinal : isFinal e.custody = false := by
        revert hm hr; cases e.custody <;> simp [isFinal]
      cases c <;> simp [Tally.of, Tally.meets, dropCollected, hm, hc, hfinal, not_awaiting_of_collected hc,
        Nat.sub_add_cancel hcollected]⟩

/-! ### Operations of the seat map and the placement unit that no count sees -/

theorem State.queueClock_sameCounts (s : State) (p : Nat) (b : Bool) : SameCounts s (s.queueClock p b) :=
  (State.queueClock_only s p b (List.Subset.refl _) (.refl _ _)).sameCounts (by decide)

theorem State.finishTask_sameCounts (s : State) (c : ResultCode) (b : Bool) (r : Report) :
    SameCounts s (s.finishTask c b r) :=
  (State.finishTask_only s c b r (List.Subset.refl _) (.refl _ _)).sameCounts (by decide)

theorem State.raise_sameCounts (s : State) (k : NoticeKind) (x : Subject) : SameCounts s (s.raise k x) :=
  (State.raise_only s k x (List.Subset.refl _) (.refl _ _)).sameCounts (by decide)

theorem State.setRun_sameCounts (s : State) (r : Option Run) : SameCounts s (s.setRun r) :=
  (State.setRun_only s r (List.Subset.refl _) (.refl _ _)).sameCounts (by decide)

theorem State.setReseats_sameCounts (s : State) (l : List Reseat) : SameCounts s (s.setReseats l) :=
  (State.setReseats_only s l (List.Subset.refl _) (.refl _ _)).sameCounts (by decide)

theorem State.setSeat_sameCounts (s : State) (d : Nat) (v : Seat) : SameCounts s (s.setSeat d v) :=
  ⟨fun _ _ => rfl, fun _ _ => rfl⟩

theorem State.retryStranded_sameCounts (s : State) (d : Nat) : SameCounts s (s.retryStranded d) :=
  (State.retryStranded_only s d (List.Subset.refl _) (.refl _ _)).sameCounts (by decide)

theorem State.requestOffer_sameCounts (s : State) (d p : Nat) : SameCounts s (s.requestOffer d p) := by
  unfold State.requestOffer
  split
  · exact (State.setSeat_sameCounts _ _ _).trans (State.modEntry_sameCounts _ _ fun _ => .of rfl rfl rfl rfl)
  · exact .refl s

theorem State.requestCancel_sameCounts (s : State) (d : Nat) : SameCounts s (s.requestCancel d) := by
  unfold State.requestCancel
  split
  · exact (State.setSeat_sameCounts _ _ _).trans (State.modEntry_sameCounts _ _ fun _ => .of rfl rfl rfl rfl)
  · exact .refl s

/-- The end of an offer changes its offeree's entry by CANCEL alone (R24, R53, R55). -/
theorem State.dropOffer_cancel_sameCounts (s : State) (d : Nat) :
    SameCounts s (((s.dropOffer d).requestCancel d).removeOffer d) :=
  (((State.dropOffer_only s d (List.Subset.refl _) (.refl _ _)).sameCounts (by decide)).trans
    (State.requestCancel_sameCounts _ d)).trans
      ((State.removeOffer_only _ d (List.Subset.refl _) (.refl _ _)).sameCounts (by decide))

theorem State.withdrawOffer_sameCounts (s : State) (d n : Nat) : SameCounts s (s.withdrawOffer d n) :=
  (State.withdrawOffer_only s d n (List.Subset.refl _) (.refl _ _)).sameCounts (by decide)

theorem State.failOffer_sameCounts (s : State) (o : Offer) (tell : Bool) : SameCounts s (s.failOffer o tell) := by
  unfold State.failOffer
  dsimp only
  refine .trans (.trans (State.dropOffer_cancel_sameCounts s o.seat) (.ite ?_ (.refl _)))
    (.trans ((State.returnCandidate_only _ o (List.Subset.refl _) (.refl _ _)).sameCounts (by decide))
      (State.retryStranded_sameCounts _ _))
  split
  · exact State.withdrawOffer_sameCounts _ _ _
  · exact .refl _

theorem State.cancelOffer_sameCounts (s : State) (o : Offer) : SameCounts s (s.cancelOffer o) := by
  unfold State.cancelOffer
  dsimp only
  refine .trans (.trans (State.dropOffer_cancel_sameCounts s o.seat) (.ite ?_ (.refl _)))
    (.trans (.ite ((State.passOver_only _ (List.Subset.refl _) (.refl _ _)).sameCounts (by decide)) (.refl _))
      (State.retryStranded_sameCounts _ _))
  split
  · exact State.withdrawOffer_sameCounts _ _ _
  · exact .refl _

theorem State.endNeed_sameCounts (s : State) (p : Nat) : SameCounts s (s.endNeed p) := by
  unfold State.endNeed
  dsimp only
  refine .trans ?_ (((State.leaveReseat_only _ p (List.Subset.refl _) (.refl _ _)).sameCounts (by decide)).trans
    ((State.leaveRetry_only _ p (List.Subset.refl _) (.refl _ _)).sameCounts (by decide)))
  split
  · exact State.cancelOffer_sameCounts _ _
  · exact .refl s

theorem State.makeOffer_sameCounts (s : State) (p d : Nat) (x : Purpose) (o : Option Nat) :
    SameCounts s (s.makeOffer p d x o) :=
  (((State.setOffers_only s _ (List.Subset.refl _) (.refl _ _)).sameCounts (by decide)).trans
    (State.requestOffer_sameCounts _ d p)).trans
      ((State.handOffer_only _ _ (List.Subset.refl _) (.refl _ _)).sameCounts (by decide))

theorem State.closeRun_sameCounts (s : State) (r : Run) (a : AllocState) : SameCounts s (s.closeRun r a) := by
  refine (State.modSitting_sameCounts s r.sitting ?_).trans (State.setRun_sameCounts _ none)
  exact fun _ c => by cases c <;> rfl

theorem State.checkRun_sameCounts (s : State) : SameCounts s s.checkRun := by
  unfold State.checkRun
  split
  · exact .ite ((State.closeRun_sameCounts _ _ _).trans (State.raise_sameCounts _ _ _)) (.refl s)
  · exact .refl s

theorem State.serveRun_sameCounts (s : State) (r : Run) (p : Nat) : SameCounts s (s.serveRun r p) := by
  unfold State.serveRun
  split
  · refine .ite ?_ (State.setRun_sameCounts s _)
    split
    · exact (State.setRun_sameCounts s _).trans (State.makeOffer_sameCounts _ _ _ _ _)
    · exact State.setRun_sameCounts s _
  · exact State.setRun_sameCounts s _

theorem State.serveReseat_sameCounts (s : State) (r : Reseat) : SameCounts s (s.serveReseat r) := by
  unfold State.serveReseat
  split
  · refine .ite ?_ (.refl s)
    split
    · exact State.makeOffer_sameCounts _ _ _ _ _
    · exact State.raise_sameCounts _ _ _
  · exact .refl s

theorem State.placementStep_sameCounts (s : State) : SameCounts s s.placementStep := by
  unfold State.placementStep
  refine .ite ?_ (.refl s)
  split
  · exact ((State.setReseats_sameCounts s _).trans (State.serveReseat_sameCounts _ _)).trans (State.checkRun_sameCounts _)
  · split
    · split
      · exact (State.serveRun_sameCounts s _ _).trans (State.checkRun_sameCounts _)
      · split
        · exact (State.serveRun_sameCounts s _ _).trans (State.checkRun_sameCounts _)
        · exact .refl s
    · exact .refl s

/-! ### The hall is told, and clocks warn: no count sees it -/

/-- Beyond the sitting's record, a change of it is told and nothing else (R79, R80, R98). -/
theorem State.changeSitting_tells (s : State) (k : Nat) (f : Sitting → Sitting) :
    OnlyChanges [.bells, .lines, .notices] (s.setSitting k (f (s.sitting k))) (s.changeSitting k f) := by
  unfold State.changeSitting
  dsimp only
  generalize s.setSitting k (f (s.sitting k)) = v
  have told {w : State} (h : OnlyChanges [.bells, .lines, .notices] v w) (z : ZoneSet) :
      OnlyChanges [.bells, .lines, .notices] v (w.broadcast k z) := State.broadcast_only w k z (by decide) h
  have raised {w : State} (h : OnlyChanges [.bells, .lines, .notices] v w) (n : NoticeKind) :
      OnlyChanges [.bells, .lines, .notices] v (w.raise n (.sitting k)) := State.raise_only w n _ (by decide) h
  have rung {w : State} (h : OnlyChanges [.bells, .lines, .notices] v w) :
      OnlyChanges [.bells, .lines, .notices] v (w.ringBells k) := State.ringBells_only w k (by decide) h
  have clocks {w : State} (h : OnlyChanges [.bells, .lines, .notices] v w) :
      OnlyChanges [.bells, .lines, .notices] v (w.clockHoldUpdate k) := State.clockHoldUpdate_only w k (by decide) h
  have h2 := OnlyChanges.ite (c := decide ((s.sitting k).phase ≠ (f (s.sitting k)).phase) ||
    decide ((s.sitting k).holds ≠ (f (s.sitting k)).holds)) (told (.refl _ v)
      (if (f (s.sitting k)).phase = .empty then (s.sitting k).defn.zones else (f (s.sitting k)).defn.zones)) (.refl _ v)
  have h3 := OnlyChanges.ite (c := decide ((s.sitting k).phase ≠ (f (s.sitting k)).phase)) (rung (raised h2 .phase)) h2
  have h4 := OnlyChanges.ite (c := decide ((s.sitting k).holds ≠ (f (s.sitting k)).holds)) (raised h3 .hold) h3
  exact OnlyChanges.ite (clocks h4) h4

theorem State.changeSitting_sameCounts (s : State) (k : Nat) {f : Sitting → Sitting} (hf : keepsCounts f) :
    SameCounts s (s.changeSitting k f) :=
  (State.modSitting_sameCounts s k hf).trans ((State.changeSitting_tells s k f).sameCounts (by decide))

theorem State.tellEnd_sameCounts (s : State) (p : Nat) : SameCounts s (s.tellEnd p) := by
  unfold State.tellEnd
  split
  · exact .ite (State.changeSitting_sameCounts _ _ fun _ c => by cases c <;> rfl) (.refl s)
  · exact .refl s

theorem State.queueWarn_sameCounts (s : State) (e : Entry) (m : Nat) : SameCounts s (s.queueWarn e m) :=
  (State.queueWarn_only s e m (List.Subset.refl _) (.refl _ _)).sameCounts (by decide)

theorem State.fireWarnings_sameCounts (s : State) (p : Nat) : SameCounts s (s.fireWarnings p) := by
  have flag1 (v : State) : SameCounts v ((v.modEntry p fun e => { e with warned1 := true })) :=
    State.modEntry_sameCounts v p fun _ => .of rfl rfl rfl rfl
  have flag2 (v : State) : SameCounts v ((v.modEntry p fun e => { e with warned2 := true })) :=
    State.modEntry_sameCounts v p fun _ => .of rfl rfl rfl rfl
  unfold State.fireWarnings
  split
  · refine .ite ?_ (.refl s)
    dsimp only
    refine .trans (.ite ((flag1 s).trans (State.queueWarn_sameCounts _ _ _)) (.refl s)) (.ite ?_ (.refl _))
    exact (flag2 _).trans (State.queueWarn_sameCounts _ _ _)
  · exact .refl s

theorem State.endRest_sameCounts (s : State) (p : Nat) : SameCounts s (s.endRest p) :=
  (State.modEntry_sameCounts s p (f := fun e => { e with resting := false }) fun _ => .of rfl rfl rfl rfl).trans
    (State.queueClock_sameCounts _ _ _)

end Sys2Proof.Machine

namespace Sys2Proof.Machine

variable {s t u : State} {p d k : Nat} {e x : Entry} {late : Option Nat}

/-! ### A seat is released, and a clock ends: the counts follow (R26, R92, R93) -/

/-- The hall agrees and the counts agree: what every command keeps. -/
structure State.Tallied (late : Option Nat) (s : State) : Prop extends State.Agreed False late s where
  counts : s.CountsAgree

theorem SameHall.tallied (h : SameHall s t) (hs : s.Tallied late) (hc : SameCounts s t) : t.Tallied late :=
  ⟨h.agreed hs.toAgreed, hc.agree hs.counts⟩

theorem foldl_tallied {β : Type} {f : State → β → State} (hf : ∀ u x, u.Tallied late → (f u x).Tallied late)
    (l : List β) (h : s.Tallied late) : (l.foldl f s).Tallied late := by
  induction l generalizing s with
  | nil => exact h
  | cons x l ih => exact ih (hf s x h)

/-- A script is ISSUED while its candidate is PRESENT or DISPLACED (R105). -/
def Entry.holdsScript (e : Entry) : Prop := e.presence = .present ∨ e.presence = .displaced → e.custody = .issued

theorem State.Agreed.holdsScript {C : Prop} (h : s.Agreed C late) (he : s.entry? p = some e) : e.holdsScript :=
  (h.sound p e he).issued_iff.2

theorem State.requestRelease_counts (hs : s.Linked) (h : s.CountsAgree) (d : Nat) :
    (s.requestRelease d).CountsAgree := by
  unfold State.requestRelease
  split
  · exact h
  · next p hocc =>
    obtain ⟨e, he, hd⟩ := (hs.seated d p).1 hocc
    have hreleased : (((s.setSeat d { s.seat d with tenure := .empty }).modEntry p
        fun e => { e with seat := none }).count p dropPlaced).CountsAgree :=
      ((State.setSeat_sameCounts s d _).agree h).recount (f := fun e => { e with seat := none }) hs.roster he
        (fun _ => rfl) (recounts_dropPlaced hd)
    dsimp only
    split
    · exact ((State.showSeat_only _ d _ (List.Subset.refl _) (.refl _ _)).sameCounts (by decide)).agree hreleased
    · exact hreleased

theorem State.releaseSeat_counts (hs : s.Linked) (h : s.CountsAgree) (d : Nat) : (s.releaseSeat d).CountsAgree :=
  (State.retryStranded_sameCounts _ d).agree (State.requestRelease_counts hs h d)

theorem State.releaseHeld_counts (hs : s.Linked) (h : s.CountsAgree) (p : Nat) : (s.releaseHeld p).CountsAgree := by
  unfold State.releaseHeld
  split
  · split
    · exact State.releaseSeat_counts hs h _
    · exact h
  · exact h

theorem State.releaseVacated_counts (hs : s.Linked) (h : s.CountsAgree) (p : Nat) :
    (s.releaseVacated p).CountsAgree := by
  unfold State.releaseVacated
  split
  · split
    · exact State.releaseSeat_counts hs h _
    · exact h
  · exact h

theorem State.finishPresent_counts (hs : s.Linked) (he : s.entry? p = some e)
    (hp : e.presence = .present ∨ e.presence = .displaced) (h : s.CountsAgree) : (s.finishPresent p).CountsAgree :=
  h.recount (f := fun e => { endClock e with presence := .finished }) hs.roster he (fun _ => rfl)
    (recounts_dropPresent hp)

theorem State.finish_handIn_counts (hs : s.Linked) (he : s.entry? p = some e) (hi : e.custody = .issued)
    (hp : e.presence = .present ∨ e.presence = .displaced) (h : s.CountsAgree) :
    ((s.finishPresent p).handIn p).CountsAgree :=
  have hb := State.finishPresent_brings hs he
  (State.finishPresent_counts hs he hp h).recount (f := fun e => { e with custody := .handedIn }) hb.links.roster
    hb.entry (fun _ => rfl) (recounts_addAwaiting hi)

theorem State.requestVacate_sameCounts (s : State) (d : Nat) : SameCounts s (s.requestVacate d) :=
  (State.requestVacate_only s d (List.Subset.refl _) (.refl _ _)).sameCounts (by decide)

theorem State.endPresent_counts (hs : s.Linked) (he : s.entry? p = some e) (hi : e.custody = .issued)
    (hp : e.presence = .present) (h : s.CountsAgree) : (s.endPresent p).CountsAgree := by
  have hin := State.finish_handIn_counts hs he hi (.inl hp) h
  unfold State.endPresent
  dsimp only
  refine (State.tellEnd_sameCounts _ p).agree ?_
  split
  · exact (State.requestVacate_sameCounts _ _).agree hin
  · exact hin

theorem State.endDisplaced_counts (hs : s.Linked) (he : s.entry? p = some e) (hi : e.custody = .issued)
    (hp : e.presence = .displaced) (h : s.CountsAgree) : (s.endDisplaced p).CountsAgree := by
  have hb := State.finish_handIn_brings hs he
  have hn := State.endNeed_brings hb.links hb.entry
  have hneed := (State.endNeed_sameCounts _ p).agree (State.finish_handIn_counts hs he hi (.inr hp) h)
  exact ((State.tellEnd_sameCounts _ p).trans (State.checkRun_sameCounts _)).agree
    (State.releaseHeld_counts hn.links hneed p)

/-- The expiry of a clock, by presence (R93). -/
theorem State.expire_counts (hs : s.Linked) (he : s.entry? p = some e) (hi : e.holdsScript) (h : s.CountsAgree) :
    (s.expire p).CountsAgree := by
  have closed : SameCounts s ((s.modEntry p endClock).tellEnd p) :=
    (State.modEntry_sameCounts s p (f := endClock) fun _ => .of rfl rfl rfl rfl).trans (State.tellEnd_sameCounts _ p)
  unfold State.expire
  rw [he]
  dsimp only
  cases hp : e.presence with
  | present =>
    exact (State.queueClock_sameCounts _ p true).agree (State.endPresent_counts hs he (hi (.inl hp)) hp h)
  | displaced => exact State.endDisplaced_counts hs he (hi (.inr hp)) hp h
  | expected | finished | absent => exact closed.agree h

/-! ### Clocks start, candidates stay away, a sitting goes through its phases (R67, R87, R90) -/

/-- A WAITING clock becomes RUNNING (R87). -/
theorem State.startClock_counts (hs : s.Linked) (he : s.entry? p = some e) (hi : e.holdsScript) (h : s.CountsAgree) :
    (s.startClock p).CountsAgree := by
  have hb := State.modEntry_brings hs he (f := fun e => { e with clock := .running }) fun _ => ⟨rfl, rfl, rfl⟩
  have hrun : (s.modEntry p fun e => { e with clock := .running }).CountsAgree :=
    (State.modEntry_sameCounts s p (f := fun e => { e with clock := .running }) fun _ => .of rfl rfl rfl rfl).agree h
  unfold State.startClock
  dsimp only
  rw [hb.entry]
  dsimp only
  split
  · exact State.expire_counts hb.links hb.entry hi hrun
  · exact ((State.fireWarnings_sameCounts _ p).trans (.ite (State.queueClock_sameCounts _ _ _) (.refl _))).agree hrun

theorem State.startClocks_tallied (h : s.Tallied late) (hphase : (s.sitting k).phase = .writing) :
    (s.startClocks k).Tallied late := by
  have hfold := foldl_onlyAt (f := State.startClock)
    (I := fun u => u.Tallied late ∧ (u.sitting k).phase = .writing)
    (pre := fun e => e.sitting = k ∧ e.clock = .waiting) (post := fun e => e.clock ≠ .waiting)
    (fun u p e ⟨hu, hw⟩ he ⟨hk, hc⟩ => by
      obtain ⟨hagreed, hat, hpost⟩ := State.startClock_agreed hu.toAgreed he hc (by rw [hk]; exact hw)
      have hcounts := State.startClock_counts hu.links he (hu.holdsScript he) hu.counts
      exact ⟨⟨⟨hagreed, hcounts⟩, (congrArg Prod.fst (hat.timing k)).trans hw⟩, hat, hpost⟩)
    (State.slotsOf_nodup (k := k) h.links.roster fun e => decide (e.clock = .waiting)) ⟨h, hphase⟩ fun p hp => by
      obtain ⟨e, he, hk, hc⟩ := (State.mem_slotsOf h.links.roster).1 hp
      exact ⟨e, he, hk, by simpa using hc⟩
  exact hfold.1.1

/-- An EXPECTED candidate becomes ABSENT (R90). -/
theorem State.makeAbsent_counts (hs : s.Linked) (he : s.entry? p = some e) (hp : e.presence = .expected)
    (h : s.CountsAgree) : (s.makeAbsent p).CountsAgree := by
  have hb := State.modEntry_brings hs he (f := fun e => { endClock e with presence := .absent }) fun _ => ⟨rfl, rfl, rfl⟩
  have hsame : SameCounts s (s.modEntry p fun e => { endClock e with presence := .absent }) :=
    State.modEntry_sameCounts_at hs.roster he ⟨rfl, fun c => by cases c <;> simp [Tally.meets, endClock, hp]⟩
  exact (State.endNeed_sameCounts _ p).agree (State.releaseHeld_counts hb.links (hsame.agree h) p)

theorem State.absences_counts (h : s.Tallied late) (k : Nat) : (s.absences k).CountsAgree := by
  have hfold := foldl_onlyAt (f := State.makeAbsent) (I := fun u => u.Tallied late)
    (pre := fun e => e.presence = .expected) (post := fun e => e.presence ≠ .expected)
    (fun u p e hu he hp => ⟨⟨State.makeAbsent_agreed hu.toAgreed he hp, State.makeAbsent_counts hu.links he hp hu.counts⟩,
      (State.makeAbsent_brings hu.links he (hu.sound p e he) hp).toOnlyAt,
      _, (State.makeAbsent_brings hu.links he (hu.sound p e he) hp).entry, by simp [goneEntry]⟩)
    (State.slotsOf_nodup (k := k) h.links.roster fun e => decide (e.presence = .expected)) h fun p hp => by
      obtain ⟨e, he, -, hexp⟩ := (State.mem_slotsOf h.links.roster).1 hp
      exact ⟨e, he, by simpa using hexp⟩
  exact (State.checkRun_sameCounts _).agree hfold.1.counts

theorem State.enterWriting_tallied (h : s.Tallied none) (k : Nat) : (s.enterWriting k).Tallied none := by
  have hwriting : (s.changeSitting k writingEntered).Agreed False (some k) :=
    State.changeSitting_agreed h.toAgreed (h.links.limits k) (by simp)
      fun _ _ _ _ => ⟨.inr ⟨rfl, rfl⟩, fun _ _ => .inl rfl⟩
  have hcounts : SameCounts s (s.changeSitting k writingEntered) :=
    State.changeSitting_sameCounts s k fun _ c => by cases c <;> rfl
  have hphase : ((s.changeSitting k writingEntered).sitting k).phase = .writing := by
    rw [(State.changeSitting_tells s k writingEntered).sitting (by decide), State.sitting_setSitting, if_pos rfl]; rfl
  have hclocks := State.startClocks_tallied ⟨hwriting, hcounts.agree h.counts⟩ hphase
  refine ⟨State.enterWriting_agreed h.toAgreed k, ?_⟩
  unfold State.enterWriting
  dsimp only
  split
  · exact State.absences_counts hclocks k
  · exact hclocks.counts

theorem State.sittingStart_tallied (h : s.Tallied none) (hold : (s.sitting k).phase = .opened) :
    (s.sittingStart k).Tallied none := by
  refine ⟨State.sittingStart_agreed h.toAgreed hold, ?_⟩
  unfold State.sittingStart
  split
  · exact (State.changeSitting_sameCounts s k fun _ c => by cases c <;> rfl).agree h.counts
  · exact (State.enterWriting_tallied h k).counts

theorem State.enterOpen_tallied (h : s.Tallied none) (hold : (s.sitting k).phase = .defined) :
    (s.enterOpen k).Tallied none :=
  ⟨State.enterOpen_agreed h.toAgreed hold,
    (State.changeSitting_sameCounts s k fun _ c => by cases c <;> rfl).agree h.counts⟩

theorem State.countReading_tallied (h : s.Tallied none) (k : Nat) : (s.countReading k).Tallied none := by
  have hcount : (s.modSitting k fun r => { r with readingLeft := r.readingLeft - 1 }).Tallied none :=
    (State.modSitting_sameHall s k (f := fun r => { r with readingLeft := r.readingLeft - 1 }) fun _ => rfl).tallied h
      (State.modSitting_sameCounts s k fun _ c => by cases c <;> rfl)
  unfold State.countReading
  dsimp only
  split
  · exact State.enterWriting_tallied hcount k
  · exact hcount

/-! ### The hall second: the counts (R69, R86) -/

/-- Writing elapsed written, the late limit's absences still to come (R69, R90). -/
theorem State.modElapsed_tallied (h : s.Tallied none)
    (hphase : (s.sitting k).phase = .writing ∨ (s.sitting k).phase = .overtime) (n : Nat) :
    (s.modSitting k fun r => { r with elapsed := n }).Tallied (some k) := by
  refine ⟨State.setSitting_agreed h.toAgreed (h.links.limits k) (by simp) fun p e he hek => ⟨?_, fun _ _ => hphase⟩,
    (State.modSitting_sameCounts s k fun _ c => by cases c <;> rfl).agree h.counts⟩
  have hadm := (h.sound p e he).admitted.resolve_right (by simp)
  rw [hek] at hadm
  rcases hphase with hp | hp
  · exact .inr ⟨rfl, hp⟩
  · exact .inl (by simpa [Sitting.admits, hp] using hadm)

theorem State.countWriting_tallied (h : s.Tallied none)
    (hphase : (s.sitting k).phase = .writing ∨ (s.sitting k).phase = .overtime) :
    (s.countWriting k).Tallied none := by
  refine ⟨State.countWriting_agreed h.toAgreed hphase, ?_⟩
  unfold State.countWriting
  dsimp only
  generalize min Config.lastSecond ((s.sitting k).elapsed + 1) = n
  have helapsed := State.modElapsed_tallied h hphase n
  generalize hv : (if (s.sitting k).elapsed < n && decide (n = (s.sitting k).defn.lateLimit) then
      (s.modSitting k fun r => { r with elapsed := n }).absences k else s.modSitting k fun r => { r with elapsed := n }) = v
  have hcounts : v.CountsAgree := by
    subst hv
    split
    · exact State.absences_counts helapsed k
    · exact helapsed.counts
  refine SameCounts.agree (.ite (.ite ?_ ?_) (.refl v)) hcounts
  · exact State.changeSitting_sameCounts v k fun _ c => by cases c <;> rfl
  · exact State.changeSitting_sameCounts v k fun _ c => by cases c <;> rfl

theorem State.takeSitting_tallied (h : s.Tallied none) (k : Nat) : (s.takeSitting k).Tallied none := by
  unfold State.takeSitting
  split
  · next hp =>
    have hopen := State.enterOpen_tallied h hp
    split
    · dsimp only
      split
      · next hstart =>
        have hopened : ((s.enterOpen k).sitting k).phase = .opened := by
          unfold State.startsNow at hstart
          simp only [Bool.and_eq_true, decide_eq_true_eq] at hstart
          exact hstart.1.1
        exact State.sittingStart_tallied hopen hopened
      · exact hopen
    · exact h
  · next hp =>
    split
    · exact State.sittingStart_tallied h hp
    · exact h
  · split
    · exact h
    · exact State.countReading_tallied h k
  · next hp =>
    split
    · exact h
    · exact State.countWriting_tallied h (.inl hp)
  · next hp =>
    split
    · exact h
    · exact State.countWriting_tallied h (.inr hp)
  · exact h

theorem State.takeClock_tallied (h : s.Tallied late) (n : Nat) : (s.takeClock n).Tallied late := by
  refine ⟨State.takeClock_agreed h.toAgreed n, ?_⟩
  unfold State.takeClock
  cases hn : s.byNumber? n with
  | none => exact h.counts
  | some e =>
    have he := State.entry?_of_byNumber? h.links.roster hn
    dsimp only
    cases s.countOf e with
    | nothing => exact h.counts
    | rest =>
      exact ((State.modEntry_sameCounts s e.slot (f := fun e => { e with restUsed := e.restUsed + 1 })
        fun _ => .of rfl rfl rfl rfl).trans (.ite (State.endRest_sameCounts _ _) (.refl _))).agree h.counts
    | used =>
      have hb := State.modEntry_brings h.links he (f := fun e => { e with used := e.used + 1 }) fun _ => ⟨rfl, rfl, rfl⟩
      have hused : (s.modEntry e.slot fun e => { e with used := e.used + 1 }).CountsAgree :=
        (State.modEntry_sameCounts s e.slot (f := fun e => { e with used := e.used + 1 })
          fun _ => .of rfl rfl rfl rfl).agree h.counts
      have hi : e.holdsScript := h.holdsScript he
      dsimp only
      split
      · exact State.expire_counts hb.links hb.entry hi hused
      · exact SameCounts.agree (.ite (State.fireWarnings_sameCounts _ _)
          (.ite (State.queueClock_sameCounts _ _ _) (.refl _))) hused

theorem State.failOffer_tallied (h : s.Tallied late) {o : Offer} (ho : o ∈ s.placement.offers) (tell : Bool) :
    (s.failOffer o tell).Tallied late :=
  ⟨State.failOffer_agreed h.toAgreed ho tell, (State.failOffer_sameCounts s o tell).agree h.counts⟩

theorem State.failDeadline_tallied (h : s.Tallied late) (d : Nat) : (s.failDeadline d).Tallied late := by
  unfold State.failDeadline
  cases ho : s.offerOn? d with
  | none => exact h
  | some o => exact State.failOffer_tallied h (State.offerOn?_mem ho) true

/-- A frame off the roster, the seat map, the offer table and the sittings keeps hall and counts. -/
theorem OnlyChanges.tallied {bs : List Part} (h : OnlyChanges bs s t)
    (hb : ∀ x ∈ bs, x ≠ .entries ∧ x ≠ .seats ∧ x ≠ .offers ∧ x ≠ .sittings) (hs : s.Tallied late) : t.Tallied late :=
  (h.sameHall hb).tallied hs (h.sameCounts ⟨fun hm => (hb _ hm).1 rfl, fun hm => (hb _ hm).2.2.2 rfl⟩)

theorem State.takeOffers_tallied (h : s.Tallied late) : s.takeOffers.Tallied late :=
  foldl_tallied (fun _ d hu => State.failDeadline_tallied hu d) _
    ((State.setOffers_map_sameHall s tickOffer_pair).tallied h
      ((State.setOffers_only s _ (List.Subset.refl _) (.refl _ _)).sameCounts (by decide)))

theorem State.take_tallied (h : s.Tallied none) (i : HallItem) : (s.take i).Tallied none := by
  cases i with
  | lockout => exact (State.takeLockout_only s (List.Subset.refl _) (.refl _ _)).tallied (by decide) h
  | offers => exact State.takeOffers_tallied h
  | clock n => exact State.takeClock_tallied h n
  | bell o => exact (State.takeBell_only s o (List.Subset.refl _) (.refl _ _)).tallied (by decide) h
  | sitting k => exact State.takeSitting_tallied h k

theorem State.setOwed_tallied (h : s.Tallied late) (l : List HallItem) : (s.setOwed l).Tallied late :=
  (State.setOwed_only s l (List.Subset.refl _) (.refl _ _)).tallied (by decide) h

theorem State.catchUp_tallied (h : s.Tallied none) : s.catchUp.Tallied none :=
  foldl_tallied (fun _ i hu => State.take_tallied hu i) _
    (foldl_tallied (fun _ d hu => State.failDeadline_tallied hu d) _ (State.setOwed_tallied h _))

theorem State.takeSecond_tallied (h : s.Tallied none) (l : List HallItem) : (s.takeSecond l).Tallied none :=
  foldl_tallied (fun _ i hu => State.take_tallied hu i) _ (State.setOwed_tallied h _)

theorem State.reach_tallied (h : s.Tallied none) (i : HallItem) (b : Bool) : (s.reach i b).Tallied none := by
  unfold State.reach
  split
  · exact State.take_tallied (State.setOwed_tallied h _) i
  · exact h

/-! ### A recomputed budget, and the end of a clock at the host's request (R94, R99, R100) -/

theorem State.afterRebudget_counts (hs : s.Linked) (he : s.entry? p = some e) (hi : e.holdsScript)
    (h : s.CountsAgree) : (s.afterRebudget p).CountsAgree := by
  unfold State.afterRebudget
  rw [he]
  dsimp only
  split
  · split
    · exact State.expire_counts hs he hi h
    · exact ((State.fireWarnings_sameCounts _ p).trans (.ite (State.queueClock_sameCounts _ _ _) (.refl _))).agree h
  · exact h

/-- An allowance or an adjustment is written, the budget recomputed, and what it reaches done (R14, R99, R100). -/
theorem State.rebudget_counts (h : s.Tallied late) (he : s.entry? p = some e) {f : Entry → Entry}
    (hf : ∀ e, ∃ a sum, f e = { e with allowance := a, adjustSum := sum }) (w : Nat) :
    ((s.modEntry p fun e => rebudget w (f e)).afterRebudget p).CountsAgree := by
  have hplace : keepsPlace fun e => rebudget w (f e) := fun e => by
    obtain ⟨a, sum, hx⟩ := hf e; dsimp only; rw [hx]; exact ⟨rfl, rfl, rfl⟩
  have hb := State.modEntry_brings h.links he hplace
  have hsame : SameCounts s (s.modEntry p fun e => rebudget w (f e)) := State.modEntry_sameCounts s p fun e => by
    obtain ⟨a, sum, hx⟩ := hf e; rw [hx]; exact .of rfl rfl rfl rfl
  have hi : (rebudget w (f e)).holdsScript := by
    have hheld : e.holdsScript := h.holdsScript he
    obtain ⟨a, sum, hx⟩ := hf e; rw [hx]; exact hheld
  exact State.afterRebudget_counts hb.links hb.entry hi (hsame.agree h.counts)

theorem State.amendAllowance_tallied (h : s.Tallied late) (p : Nat) (a : Option Nat) :
    (s.amendAllowance p a).Tallied late := by
  refine ⟨State.amendAllowance_agreed h.toAgreed p a, ?_⟩
  unfold State.amendAllowance
  split
  · exact h.counts
  · split
    · exact h.counts
    · next he => exact State.rebudget_counts h he (fun e => ⟨_, e.adjustSum, rfl⟩) _

theorem State.adjust_tallied (h : s.Tallied late) (he : s.entry? e.slot = some e) (n : Int) :
    (s.adjust e n).Tallied late :=
  ⟨State.adjust_agreed h.toAgreed he n, State.rebudget_counts h he (fun e => ⟨e.allowance, _, rfl⟩) _⟩

theorem State.amendRest_tallied (h : s.Tallied late) (p : Nat) (a : Option Nat) : (s.amendRest p a).Tallied late := by
  refine ⟨State.amendRest_agreed h.toAgreed p a, SameCounts.agree ?_ h.counts⟩
  unfold State.amendRest
  split
  · exact .refl s
  · next r =>
    split
    · exact .refl s
    · exact (State.modEntry_sameCounts s p (f := fun e => { e with restAllowance := restWritten e.restUsed r })
        fun _ => .of rfl rfl rfl rfl).trans (.ite (State.endRest_sameCounts _ _) (.refl _))

theorem State.endExpected_counts (hs : s.Linked) (he : s.entry? p = some e) (hp : e.presence = .expected)
    (h : s.CountsAgree) : (s.endExpected p).CountsAgree := by
  have hb := State.modEntry_brings hs he (f := fun e => { endClock e with presence := .finished }) fun _ => ⟨rfl, rfl, rfl⟩
  have hsame : SameCounts s (s.modEntry p fun e => { endClock e with presence := .finished }) :=
    State.modEntry_sameCounts_at hs.roster he ⟨rfl, fun c => by cases c <;> simp [Tally.meets, endClock, hp]⟩
  exact (((State.endNeed_sameCounts _ p).trans (State.tellEnd_sameCounts _ p)).trans (State.checkRun_sameCounts _)).agree
    (State.releaseHeld_counts hb.links (hsame.agree h) p)

theorem State.endCandidate_tallied (h : s.Tallied late) (he : s.entry? e.slot = some e) (hopen : e.clock ≠ .ended) :
    (s.endCandidate e).Tallied late := by
  refine ⟨State.endCandidate_agreed h.toAgreed he hopen, ?_⟩
  have hi := h.holdsScript he
  have hlaw := (h.sound _ e he).lawful
  unfold State.endCandidate
  cases hp : e.presence with
  | present =>
    exact (State.queueClock_sameCounts _ _ _).agree (State.endPresent_counts h.links he (hi (.inl hp)) hp h.counts)
  | displaced => exact State.endDisplaced_counts h.links he (hi (.inr hp)) hp h.counts
  | expected => exact State.endExpected_counts h.links he hp h.counts
  | finished | absent =>
    simp only [Entry.lawful, hp] at hlaw
    exact absurd hlaw.1 hopen

end Sys2Proof.Machine

namespace Sys2Proof.Machine

variable {s t u : State} {p d k : Nat} {e x : Entry} {late : Option Nat}

/-! ### An offer accepted, a seat lost: the counts follow (R28, R54) -/

/-- The PLACE of an offered seat: its candidate is placed (R25, R53). -/
theorem State.requestPlace_counts (hr : s.RosterOrdered) (he : s.entry? p = some e) (hseat : e.seat = none)
    (hten : (s.seat d).tenure = .offered p) (h : s.CountsAgree) : (s.requestPlace d).CountsAgree := by
  unfold State.requestPlace
  rw [hten]
  exact ((State.setSeat_sameCounts s d { s.seat d with tenure := .held p }).agree h).recount
    (f := fun e => { e with offer := none, seat := some d }) hr he (fun _ => rfl) (recounts_addPlaced hseat d none)

theorem State.countPlaced_sameCounts (s : State) (o : Offer) : SameCounts s (s.countPlaced o) :=
  (State.countPlaced_only s o (List.Subset.refl _) (.refl _ _)).sameCounts (by decide)

theorem State.showCandidate_sameCounts (s : State) (d p : Nat) (f : Nat → Nat → Shown) :
    SameCounts s (s.showCandidate d p f) :=
  (State.showCandidate_only s d p f (List.Subset.refl _) (.refl _ _)).sameCounts (by decide)

theorem State.showSeat_sameCounts (s : State) (d : Nat) (v : Shown) : SameCounts s (s.showSeat d v) :=
  (State.showSeat_only s d v (List.Subset.refl _) (.refl _ _)).sameCounts (by decide)

theorem State.acceptOffer_tallied (h : s.Tallied late) {o : Offer} (ho : o ∈ s.placement.offers) :
    (s.acceptOffer o).Tallied late := by
  obtain ⟨e, he, hoffer, -⟩ := h.links.offered_entry (h.links.tenure_of_offer ho)
  have hseat : e.seat = none := h.links.apart _ e he (by simp [hoffer])
  have hdrop : SameCounts s (s.dropOffer o.seat) :=
    (State.dropOffer_only s o.seat (List.Subset.refl _) (.refl _ _)).sameCounts (by decide)
  have hplace : ((s.dropOffer o.seat).requestPlace o.seat).CountsAgree :=
    State.requestPlace_counts h.links.roster he hseat (h.links.tenure_of_offer ho) (hdrop.agree h.counts)
  refine ⟨State.acceptOffer_agreed h.toAgreed ho, SameCounts.agree ?_ hplace⟩
  exact ((((State.removeOffer_only _ _ (List.Subset.refl _) (.refl _ _)).sameCounts (by decide)).trans
    (State.showCandidate_sameCounts _ _ _ _)).trans (State.countPlaced_sameCounts _ o)).trans (State.checkRun_sameCounts _)

/-- A candidate PRESENT that is DISPLACED stays in the hall's count (R28, R81). -/
theorem State.displace_sameCounts (hr : s.RosterOrdered) (he : s.entry? p = some e) (hp : e.presence = .present) :
    SameCounts s (s.displace p) :=
  State.modEntry_sameCounts_at hr he ⟨rfl, fun c => by cases c <;> simp [Tally.meets, hp]⟩

theorem State.appendReseat_sameCounts (s : State) (r : Reseat) : SameCounts s (s.appendReseat r) :=
  (State.appendReseat_only s r (List.Subset.refl _) (.refl _ _)).sameCounts (by decide)

theorem State.loseCandidate_tallied (h : s.Tallied late) {sat : Bool}
    (hd : (s.seat d).tenure = if sat then .occupied p else .held p) : (s.loseCandidate d p sat).Tallied late := by
  refine ⟨State.loseCandidate_agreed h.toAgreed hd, ?_⟩
  have hocc : occupant (s.seat d).tenure = some p := by rw [hd]; cases sat <;> rfl
  obtain ⟨e, he, hseat⟩ := (h.links.seated d p).1 hocc
  have hr := (State.requestRelease_brings h.links he hseat).sameHall
    (State.appendReseat_sameHall _ { slot := p, former := some d, excluded := none })
  have hcounts := (State.appendReseat_sameCounts _ { slot := p, former := some d, excluded := none }).agree
    (State.requestRelease_counts h.links h.counts d)
  unfold State.loseCandidate
  refine (State.raise_sameCounts _ _ _).agree ?_
  cases sat with
  | true =>
    have hseated := (h.sound p e he).seat d hseat
    have hp : e.presence = .present := by rw [hd] at hseated; exact hseated.2
    exact (State.displace_sameCounts hr.links.roster hr.entry hp).agree hcounts
  | false => exact hcounts

theorem State.loseSeat_tallied (h : s.Tallied late) (d : Nat) : (s.loseSeat d).Tallied late := by
  have hdown : SameHall s (s.setSeat d { s.seat d with link := .down }) := State.setSeat_sameHall s rfl
  have h1 := hdown.tallied h (State.setSeat_sameCounts s d _)
  have hten := hdown.tenure d
  unfold State.loseSeat
  cases ht : (s.seat d).tenure with
  | empty | vacated => exact h1
  | offered q =>
    dsimp only
    cases ho : s.offerOn? d with
    | none => exact h1
    | some o => exact State.failOffer_tallied h1 (State.offerOn?_mem ho) false
  | held q => exact State.loseCandidate_tallied h1 (sat := false) (hten.trans ht)
  | occupied q => exact State.loseCandidate_tallied h1 (sat := true) (hten.trans ht)

/-! ### Links and slots: the counts (R126–R133) -/

theorem State.setLinkRecord_sameCounts (s : State) (z u : Nat) (v : LinkRecord) :
    SameCounts s (s.setLinkRecord z u v) :=
  (State.setLinkRecord_state_only s z u v (List.Subset.refl _) (.refl _ _)).sameCounts (by decide)

theorem State.setLinkRecord_tallied (h : s.Tallied late) (z u : Nat) (v : LinkRecord) :
    (s.setLinkRecord z u v).Tallied late :=
  (State.setLinkRecord_sameHall s z u v).tallied h (State.setLinkRecord_sameCounts s z u v)

theorem State.goDown_tallied (h : s.Tallied late) (z u : Nat) : (s.goDown z u).Tallied late := by
  have h1 := (State.raise_sameHall _ .deskLost (unitSubject z u)).tallied (State.setLinkRecord_tallied h z u
    { s.linkRecord z u with state := .down, misses := 0, goods := 0, joinAwaited := false }) (State.raise_sameCounts _ _ _)
  unfold State.goDown
  dsimp only
  split
  · exact State.loseSeat_tallied h1 _
  · exact h1

theorem State.countMiss_tallied (h : s.Tallied late) (z u : Nat) : (s.countMiss z u).Tallied late := by
  unfold State.countMiss
  dsimp only
  split
  · exact h
  · exact State.setLinkRecord_tallied h _ _ _
  · split
    · exact State.goDown_tallied h z u
    · exact State.setLinkRecord_tallied h _ _ _

theorem State.closeWindow_tallied (h : s.Tallied late) (z : Nat) (f : Frame) : (s.closeWindow z f).Tallied late := by
  have h1 := (State.endMiss_only s z (List.Subset.refl _) (.refl _ _)).tallied (by decide) h
  unfold State.closeWindow
  split
  · exact h1
  · exact State.countMiss_tallied h1 z _

/-- The parts a good answer changes hold no count and no entry (R29, R132). -/
theorem State.countGood_sameCounts (s : State) (z u : Nat) : SameCounts s (s.countGood z u) :=
  (State.countGood_only s z u (List.Subset.refl _) (.refl _ _)).sameCounts (by decide)

theorem State.countGood_tallied (h : s.Tallied late) (z u : Nat) : (s.countGood z u).Tallied late :=
  (State.countGood_sameHall s z u).tallied h (State.countGood_sameCounts s z u)

theorem State.endGood_tallied (h : s.Tallied late) (z : Nat) : (s.endGood z).Tallied late :=
  (State.endGood_only s z (List.Subset.refl _) (.refl _ _)).tallied (by decide) h

theorem State.answer_tallied (h : s.Tallied late) (z u : Nat) {f : State → State}
    (hf : ∀ v, v.Tallied late → (f v).Tallied late) : (s.answer z u f).Tallied late := by
  have hgood := State.endGood_tallied h z
  unfold State.answer
  split
  · exact h
  · split
    · exact hgood
    · exact hf _ hgood

/-- A new event of a unit is taken with the counts in agreement (R134). -/
theorem State.takeEvent_tallied (h : s.Tallied late) (z u : Nat) (n : Bool) {f : State → State}
    (hf : ∀ v, v.Tallied late → (f v).Tallied late) : (s.takeEvent z u n f).Tallied late := by
  refine State.answer_tallied h z u fun v hv => ?_
  have hc := State.countGood_tallied hv z u
  dsimp only
  split
  · exact hf _ (State.setLinkRecord_tallied hc _ _ _)
  · exact hc

theorem State.deskEvent_tallied (h : s.Tallied late) (z u : Nat) (n : Bool) {f : Nat → State → State}
    (hf : ∀ d v, v.Tallied late → (f d v).Tallied late) : (s.deskEvent z u n f).Tallied late :=
  State.takeEvent_tallied h z u n fun v hv => by
    split
    · exact hf _ v hv
    · exact hv

theorem State.joinSeat_counts (h : s.CountsAgree) (d : Nat) (c : CapSet) : (s.joinSeat d c).CountsAgree := by
  have h1 := (State.setSeat_sameCounts s d { s.seat d with caps := c }).agree h
  unfold State.joinSeat
  refine SameCounts.agree (s := s.setSeat d { s.seat d with caps := c }) ?_ h1
  split
  · exact (State.showSeat_sameCounts _ _ _).trans (State.retryStranded_sameCounts _ _)
  · split
    · exact (State.failOffer_sameCounts _ _ _).trans (State.showSeat_sameCounts _ _ _)
    · exact .refl _
  · exact State.showCandidate_sameCounts _ _ _ _
  · exact (State.showCandidate_sameCounts _ _ _ _).trans (State.queueClock_sameCounts _ _ _)
  · exact State.showSeat_sameCounts _ _ _

theorem State.deliverJoin_counts (h : s.CountsAgree) (z u : Nat) (c : CapSet) :
    (s.deliverJoin z u c).CountsAgree := by
  have h1 := ((State.removeQueued_only s z (resyncTo u) (List.Subset.refl _) (.refl _ _)).sameCounts (by decide)).agree h
  unfold State.deliverJoin
  dsimp only
  split
  · exact State.joinSeat_counts h1 _ c
  · exact ((State.showTray_only _ _ (List.Subset.refl _) (.refl _ _)).sameCounts (by decide)).agree h1

theorem State.takeJoin_counts (h : s.CountsAgree) (z u : Nat) (kind : UnitKind) (c : CapSet) :
    (s.takeJoin z u kind c).CountsAgree := by
  have hgood := ((State.endGood_only s z (List.Subset.refl _) (.refl _ _)).sameCounts (by decide)).agree h
  unfold State.takeJoin
  split
  · exact h
  · dsimp only
    split
    · split
      · unfold State.joinUnknown
        refine State.deliverJoin_counts ?_ z u c
        refine SameCounts.agree (.ite ?_ (.refl _)) ((State.setLinkRecord_sameCounts _ z u { state := .up }).agree hgood)
        exact State.setSeat_sameCounts _ _ { State.seat _ _ with link := .up }
      · exact hgood
    · split
      · exact hgood
      · exact State.deliverJoin_counts
          (((State.countGood_sameCounts _ _ _).trans (State.setLinkRecord_sameCounts _ _ _ _)).agree hgood) z u c
    · split
      · exact hgood
      · exact (State.countGood_sameCounts _ _ _).agree hgood

/-! ### Desk events: the counts (R89, R92, R95) -/

theorem State.requestOccupy_sameCounts (s : State) (d : Nat) : SameCounts s (s.requestOccupy d) := by
  unfold State.requestOccupy
  split
  · exact State.setSeat_sameCounts s _ _
  · exact .refl s

/-- A first check-in issues the script: no count of scripts counts it yet (R81, R89). -/
theorem State.issueTag_sameCounts (hr : s.RosterOrdered) (he : s.entry? p = some e) (hc : e.custody = .none)
    (tag : Nat) : SameCounts s (s.issueTag p tag) :=
  have htagged : SameCounts s { s with roster := { s.roster with tags := s.roster.tags ++ [(tag, p)] } } :=
    ⟨fun _ _ => rfl, fun _ _ => rfl⟩
  htagged.trans (State.modEntry_sameCounts_at (f := fun e => { e with tag := some tag, custody := .issued })
    (by exact hr) (by exact he)
    ⟨rfl, fun c => by cases c <;> simp [Tally.meets, isCollected, isFinal, hc]⟩)

theorem State.acceptCheckin_tallied (h : s.Tallied late) (he : s.entry? e.slot = some e) {d tag : Nat}
    (hj : s.judgeCheckin d e tag = .accepted) : (s.acceptCheckin d e tag).Tallied late := by
  refine ⟨State.acceptCheckin_agreed h.toAgreed he hj, ?_⟩
  obtain ⟨-, -, -, -, hat, -⟩ := State.judgeCheckin_accepted hj
  obtain ⟨hseat, -⟩ := State.checkinSeat_eq hat
  have hsound := h.sound _ e he
  unfold State.acceptCheckin
  cases hp : e.presence with
  | expected =>
    have hnone : e.custody = .none := by
      have hlaw := hsound.lawful; simp only [Entry.lawful, hp] at hlaw; exact hlaw
    have hissue := State.issueTag_brings h.links he tag
    obtain ⟨hocc, -⟩ := State.requestOccupy_brings hissue.links hissue.entry hseat (hsound.held (.inl hp) hseat)
    have hissued := (State.issueTag_sameCounts h.links.roster he hnone tag).trans (State.requestOccupy_sameCounts _ d)
    exact (hissued.agree h.counts).recount (f := fun e => { e with presence := .present }) hocc.links.roster hocc.entry
      (fun _ => rfl) (recounts_addPresent hp)
  | displaced =>
    obtain ⟨hocc, -⟩ := State.requestOccupy_brings h.links he hseat (hsound.held (.inr hp) hseat)
    refine ((State.requestOccupy_sameCounts s d).trans (State.modEntry_sameCounts_at
      (f := fun e => { e with presence := .present, displacedCause := false }) hocc.links.roster hocc.entry ?_)).agree h.counts
    exact ⟨rfl, fun c => by cases c <;> simp [Tally.meets, hp]⟩
  | present | finished | absent => exact h.counts

theorem State.answerDesk_tallied (h : s.Tallied late) (d : Nat) (k : EventKind) (n : Nat) (v : DeskVerdict) :
    (s.answerDesk d k n v).Tallied late :=
  (State.answerDesk_only s d k n v (List.Subset.refl _) (.refl _ _)).tallied (by decide) h

theorem State.queueClock_tallied (h : s.Tallied late) (p : Nat) (b : Bool) : (s.queueClock p b).Tallied late :=
  (State.queueClock_only s p b (List.Subset.refl _) (.refl _ _)).tallied (by decide) h

theorem State.checkin_tallied (h : s.Tallied late) (d n tag : Nat) : (s.checkin d n tag).Tallied late := by
  unfold State.checkin
  cases hn : s.byNumber? n with
  | none => exact State.answerDesk_tallied h ..
  | some e =>
    have he := State.entry?_of_byNumber? h.links.roster hn
    dsimp only
    split
    · next hj =>
      exact State.queueClock_tallied (State.answerDesk_tallied (State.acceptCheckin_tallied h he hj) ..) ..
    · exact State.answerDesk_tallied h ..

theorem State.handin_tallied (h : s.Tallied late) (d n : Nat) : (s.handin d n).Tallied late := by
  refine ⟨State.handin_agreed h.toAgreed d n, ?_⟩
  have answered (v : State) (r : DeskVerdict) : SameCounts v (v.answerDesk d .handin n r) :=
    (State.answerDesk_only v d .handin n r (List.Subset.refl _) (.refl _ _)).sameCounts (by decide)
  unfold State.handin
  cases hn : s.byNumber? n with
  | none => exact (answered s _).agree h.counts
  | some e =>
    have he := State.entry?_of_byNumber? h.links.roster hn
    dsimp only
    split
    · next hj =>
      obtain ⟨hsits, hopen⟩ := State.judgeHandin_accepted hj
      have hp := h.present_of_sitsAt he hsits hopen
      exact ((answered _ _).trans (State.queueClock_sameCounts _ _ _)).agree
        (State.endPresent_counts h.links he (h.holdsScript he (.inl hp)) hp h.counts)
    · exact (answered s _).agree h.counts

/-- No count counts a candidate's rest (R95). -/
theorem State.resting_sameCounts (s : State) (p : Nat) (b : Bool) :
    SameCounts s (s.modEntry p fun e => { e with resting := b }) :=
  State.modEntry_sameCounts s p fun _ => .of rfl rfl rfl rfl

theorem State.restBegin_sameCounts (s : State) (d n : Nat) : SameCounts s (s.restBegin d n) := by
  have answered (v : State) (r : DeskVerdict) : SameCounts v (v.answerDesk d .rest n r) :=
    (State.answerDesk_only v d .rest n r (List.Subset.refl _) (.refl _ _)).sameCounts (by decide)
  unfold State.restBegin
  split
  · exact answered s _
  · split
    · exact .ite (answered s _) (((State.resting_sameCounts s _ _).trans (answered _ _)).trans
        (State.queueClock_sameCounts _ _ _))
    · exact answered s _

theorem State.restEnd_sameCounts (s : State) (d n : Nat) : SameCounts s (s.restEnd d n) := by
  have answered (v : State) (r : DeskVerdict) : SameCounts v (v.answerDesk d .rest n r) :=
    (State.answerDesk_only v d .rest n r (List.Subset.refl _) (.refl _ _)).sameCounts (by decide)
  unfold State.restEnd
  split
  · exact answered s _
  · split
    · exact .ite (((State.resting_sameCounts s _ _).trans (answered _ _)).trans
        (State.queueClock_sameCounts _ _ _)) (answered s _)
    · exact answered s _

theorem State.refuseOffer_sameCounts (s : State) (o : Offer) (c : CapSet) : SameCounts s (s.refuseOffer o c) :=
  (State.setSeat_sameCounts s o.seat { s.seat o.seat with caps := c }).trans (State.failOffer_sameCounts _ o false)

end Sys2Proof.Machine

namespace Sys2Proof.Machine

variable {s t u : State} {p d k : Nat} {e x : Entry} {late : Option Nat}

/-! ### Scripts: the counts (R110, R113, R116) -/

/-- A script leaves the hall, its sitting counts it so, and its seat is released (R110, R113, R116). -/
theorem State.collect_counts (hs : s.Linked) (h : s.CountsAgree) (he : s.entry? p = some e) {f : Entry → Entry}
    (hf : keepsPlace f) {g : Sitting → Sitting} (hg : ∀ r, (g r).timing = r.timing) (hcount : Recounts g e (f e)) :
    (((s.modEntry p f).count p g).releaseVacated p).CountsAgree :=
  have hb := (State.modEntry_brings hs he hf).sameHall (State.count_sameHall (s.modEntry p f) p hg)
  State.releaseVacated_counts hb.links (h.recount hs.roster he hf.slot hcount) p

theorem State.readTag_tallied (h : s.Tallied late) (v t : Nat) : (s.readTag v t).Tallied late := by
  refine ⟨State.readTag_agreed h.toAgreed v t, ?_⟩
  unfold State.readTag
  dsimp only
  refine ((State.hand_only _ _ _ _ _ (List.Subset.refl _) (.refl _ _)).sameCounts (by decide)).agree ?_
  split
  · next hj =>
    obtain ⟨e, hbt, hc⟩ := State.judgeTag_accept hj
    rw [hbt]
    have htray : (s.setTray v (withTag (s.tray v) t e.sitting)).Tallied late :=
      (State.setTray_sameHall s v _).tallied h ⟨fun _ _ => rfl, fun _ _ => rfl⟩
    exact State.collect_counts (e := e) htray.links htray.counts (State.entry?_of_byTag? hbt)
      (f := fun x => { x with custody := .collected, tray := some v }) (fun _ => ⟨rfl, rfl, rfl⟩)
      (fun r => by split <;> rfl) (recounts_collected hc (some v))
  · exact (State.raise_sameCounts _ _ _).agree h.counts
  · split
    · exact (State.raise_sameCounts _ _ _).agree h.counts
    · exact h.counts
  · exact h.counts

/-- An ISSUED script is in neither of the counts of scripts: its void moves none (R81, R116). -/
theorem State.voidIssued_custody_sameCounts (hr : s.RosterOrdered) (he : s.entry? p = some e)
    (hi : e.custody = .issued) : SameCounts s (s.modEntry p fun x => { x with custody := .void }) :=
  State.modEntry_sameCounts_at hr he
    ⟨rfl, fun c => by cases c <;> simp [Tally.meets, hi, isCollected, isFinal]⟩

theorem State.voidIssued_counts (h : s.Tallied late) (he : s.entry? e.slot = some e) (hi : e.custody = .issued) :
    ((s.modEntry e.slot fun x => { x with custody := .void }).voidIssued e).CountsAgree := by
  have hp := (h.sound _ e he).issued_iff.1 hi
  have hm := State.modEntry_brings h.links he (f := fun x => { x with custody := .void }) fun _ => ⟨rfl, rfl, rfl⟩
  have hf := hm.trans (State.finishPresent_brings hm.links hm.entry)
  have hfinished := State.finishPresent_counts hm.links hm.entry hp
    ((State.voidIssued_custody_sameCounts h.links.roster he hi).agree h.counts)
  unfold State.voidIssued
  dsimp only
  split
  · have hn := State.endNeed_brings hf.links hf.entry
    have hneed := (State.endNeed_sameCounts _ e.slot).agree hfinished
    exact ((State.tellEnd_sameCounts _ _).trans (State.checkRun_sameCounts _)).agree
      (State.releaseHeld_counts hn.links hneed _)
  · split
    · exact (State.tellEnd_sameCounts _ _).agree (State.releaseSeat_counts hf.links hfinished _)
    · exact (State.tellEnd_sameCounts _ _).agree hfinished

/-- A collected script is void: its sitting counts it no longer (R81, R116). -/
theorem State.voidCollected_counts (h : s.Tallied late) (he : s.entry? e.slot = some e)
    (hc : isCollected e.custody = true) (hr : e.custody ≠ .released) :
    ((s.modEntry e.slot fun x => { x with custody := .void }).voidCollected e).CountsAgree := by
  have removed {v : State} (g : SameHall (s.modEntry e.slot fun x => { x with custody := .void }) v)
      (gc : SameCounts (s.modEntry e.slot fun x => { x with custody := .void }) v) :
      ((v.modEntry e.slot fun x => { x with tray := none, mark := none }).count e.slot fun r =>
        if e.custody = .marked then dropFinal (dropCollected r) else dropCollected r).CountsAgree := by
    have hvoid := State.modEntry_brings h.links he (f := fun x => { x with custody := .void }) fun _ => ⟨rfl, rfl, rfl⟩
    have hv := hvoid.sameHall g
    have hclear := State.modEntry_brings hv.links hv.entry (f := fun x => { x with tray := none, mark := none })
      fun _ => ⟨rfl, rfl, rfl⟩
    have hcounted := (((State.countedAs_self h.counts e).modEntry h.links.roster he
      fun x => { x with custody := .void }).same gc).modEntry hv.links.roster hv.entry
        fun x => { x with tray := none, mark := none }
    exact (hcounted.count hclear.entry rfl (recounts_voided hc hr)).agree ⟨rfl, fun _ => rfl⟩
  unfold State.voidCollected
  dsimp only
  split
  · next v tag _ _ =>
    exact removed (State.removeTag_sameHall _ v tag)
      ((State.removeTag_only _ v tag (List.Subset.refl _) (.refl _ _)).sameCounts (by decide))
  · exact removed (.refl _) (.refl _)

/-- A custody that VOID_SCRIPT accepts beyond the candidate's desk (R116). -/
theorem isCollected_of_voidable (hv : voidRefused e.custody = false) (hi : e.custody ≠ .issued)
    (hh : e.custody ≠ .handedIn) : isCollected e.custody = true ∧ e.custody ≠ .released := by
  cases hc : e.custody <;> simp_all [voidRefused, isCollected]

theorem State.voidScript_counts (h : s.Tallied late) (he : s.entry? e.slot = some e)
    (hv : voidRefused e.custody = false) : (s.voidScript e).CountsAgree := by
  unfold State.voidScript
  dsimp only
  split
  · next hi => exact State.voidIssued_counts h he hi
  · next hi =>
    exact State.collect_counts h.links h.counts he (f := fun x => { x with custody := .void })
      (fun _ => ⟨rfl, rfl, rfl⟩) (fun _ => rfl) (recounts_dropAwaiting hi (.inr rfl))
  · next hi hh =>
    obtain ⟨hc, hr⟩ := isCollected_of_voidable hv hi hh
    exact State.voidCollected_counts h he hc hr

theorem State.emptyTray_sameCounts (s : State) (v : Nat) : SameCounts s (s.emptyTray v) := by
  unfold State.emptyTray
  refine .trans ?_ ((State.showTray_only _ _ (List.Subset.refl _) (.refl _ _)).sameCounts (by decide))
  refine (State.mapEntries_sameCounts s ?_).trans ⟨fun _ _ => rfl, fun _ _ => rfl⟩
  intro e
  split
  · exact .of rfl rfl rfl rfl
  · exact ⟨rfl, fun _ => rfl⟩

/-! ### Marks: the counts (R81, R184–R190) -/

/-- A script collected and not yet final (R81). -/
def Custody.unscored (c : Custody) : Prop := isCollected c = true ∧ isFinal c = false

/-- A script not yet final stays so: no count differs (R81). -/
theorem State.modScript_sameCounts (hr : s.RosterOrdered) (he : s.entry? p = some e) (hc : e.custody.unscored)
    {c : Custody} (hc' : c.unscored) {f : Entry → Entry} (hf : ∀ x, ∃ mark, f x = { x with custody := c, mark := mark }) :
    SameCounts s (s.modEntry p f) := by
  obtain ⟨hcollected, hfinal⟩ := hc
  obtain ⟨hcollected', hfinal'⟩ := hc'
  have hnot : e.custody ≠ .handedIn ∧ c ≠ .handedIn :=
    ⟨fun hin => (by rw [hin] at hcollected; cases hcollected), fun hin => (by rw [hin] at hcollected'; cases hcollected')⟩
  obtain ⟨mark, hx⟩ := hf e
  refine State.modEntry_sameCounts_at hr he ?_
  rw [hx]
  exact ⟨rfl, fun a => by cases a <;> simp [Tally.meets, hcollected, hfinal, hcollected', hfinal', hnot]⟩

/-- A script becomes MARKED, and its sitting counts it as final (R81). -/
theorem State.countFinal_counts (h : s.CountsAgree) (hr : s.RosterOrdered) (he : s.entry? p = some e)
    (hc : e.custody.unscored) {f : Entry → Entry} (hf : ∀ x, ∃ mark, f x = { x with custody := .marked, mark := mark }) :
    ((s.modEntry p f).countFinal e.sitting).CountsAgree := by
  obtain ⟨mark, hx⟩ := hf e
  have hentry : (s.modEntry p f).entry? p = some (f e) := by
    rw [State.entry?_modEntry f (fun x => by obtain ⟨m, hm⟩ := hf x; rw [hm]), if_pos rfl, he]; rfl
  have hfinal : Recounts addFinal e (f e) := by rw [hx]; exact recounts_addFinal hc.1 hc.2 mark
  exact (((State.countedAs_self h e).modEntry hr he f).modSitting hentry hfinal).agree ⟨rfl, fun _ => rfl⟩

/-- The record alone of an entry is written: no count differs. -/
theorem State.modMark_sameCounts (s : State) (p : Nat) {f : Entry → Entry} (hf : ∀ x, ∃ mark, f x = { x with mark := mark }) :
    SameCounts s (s.modEntry p f) :=
  State.modEntry_sameCounts s p fun x => by obtain ⟨mark, hx⟩ := hf x; rw [hx]; exact .of rfl rfl rfl rfl

theorem State.settle_counts (h : s.CountsAgree) (hr : s.RosterOrdered) (he : s.entry? e.slot = some e)
    (hc : e.custody.unscored) (r : MarkRecord) : (s.settle e r).CountsAgree := by
  have put {c : Custody} (hc' : c.unscored) (m : MarkRecord) :
      SameCounts s (s.modEntry e.slot fun x => { x with custody := c, mark := some m }) :=
    State.modScript_sameCounts hr he hc hc' fun x => ⟨some m, rfl⟩
  unfold State.settle
  dsimp only
  split
  · exact State.countFinal_counts h hr he hc fun x => ⟨_, rfl⟩
  · split
    · exact ((put ⟨rfl, rfl⟩ _).trans (State.raise_sameCounts _ _ _)).agree h
    · exact ((put ⟨rfl, rfl⟩ _).trans (State.raise_sameCounts _ _ _)).agree h

theorem State.storeSecond_counts (h : s.CountsAgree) (hr : s.RosterOrdered) (he : s.entry? e.slot = some e)
    (hc : e.custody.unscored) (m : MarkRecord) : (s.storeSecond e m).CountsAgree := by
  unfold State.storeSecond
  dsimp only
  split
  · exact State.settle_counts h hr he hc m
  · exact ((State.modScript_sameCounts hr he hc (c := .disputed) ⟨rfl, rfl⟩ fun x => ⟨_, rfl⟩).trans
      (State.raise_sameCounts _ _ _)).agree h

theorem State.storeRead_counts (h : s.CountsAgree) (hr : s.RosterOrdered) (he : s.entry? e.slot = some e)
    (hc : e.custody.unscored) (r : Read) (out : Bool) : (s.storeRead e r out).CountsAgree := by
  unfold State.storeRead
  split
  · exact State.storeSecond_counts h hr he hc _
  · dsimp only
    split
    · exact State.settle_counts h hr he hc _
    · exact (State.modScript_sameCounts hr he hc (c := .readOnce) ⟨rfl, rfl⟩ fun x => ⟨_, rfl⟩).agree h

theorem isRepeat_unscored {r : ReadPolicy} {c : Custody} (h : isRepeat r c = false) : c.unscored := by
  unfold isRepeat at h
  split at h
  · exact ⟨rfl, rfl⟩
  · exact ⟨rfl, rfl⟩
  · cases h

theorem State.identify_counts (h : s.Tallied late) (t : Nat) (r : Read) : (s.identify t r).1.CountsAgree := by
  have matched (q : Nat) (b : Bool) : SameCounts s (s.matchSheet q b) := ⟨fun _ _ => rfl, fun _ _ => rfl⟩
  unfold State.identify
  split
  · exact h.counts
  · next e he =>
    split
    · exact h.counts
    · split
      · exact h.counts
      · split
        · exact (matched _ _).agree h.counts
        · next hr =>
          exact State.storeRead_counts ((matched _ _).agree h.counts) h.links.roster (State.entry?_of_byTag? he)
            (isRepeat_unscored (by simpa using hr)) r _

theorem State.handOver_counts (h : s.Tallied late) (job : DecodeJob) : (s.handOver job).CountsAgree :=
  ((State.answerSheet_only _ _ _ (List.Subset.refl _) (.refl _ _)).sameCounts (by decide)).agree
    (State.identify_counts h _ _)

theorem State.decoderStep_sameCounts (s : State) : SameCounts s s.decoderStep :=
  (State.decoderStep_only s (List.Subset.refl _) (.refl _ _)).sameCounts (by decide)

theorem State.decoderEvent_counts (h : s.Tallied late) : s.decoderEvent.CountsAgree := by
  unfold State.decoderEvent
  split
  · exact State.handOver_counts h _
  · exact (State.decoderStep_sameCounts s).agree h.counts

/-- A visit of the rescore walk rewrites a record and no custody (R174). -/
theorem State.walkStep_sameCounts (s : State) : SameCounts s s.walkStep := by
  have walked (w : Option Walk) : SameCounts s { s with scoring := { s.scoring with walk := w } } :=
    ⟨fun _ _ => rfl, fun _ _ => rfl⟩
  unfold State.walkStep
  split
  · exact .refl s
  · split
    · dsimp only
      split
      · exact .ite ((walked _).trans (State.modMark_sameCounts _ _ fun x => ⟨_, rfl⟩)) (walked _)
      · exact walked _
    · exact ((walked none).trans (State.raise_sameCounts _ _ _)).trans
        ((State.startWalk_only _ (List.Subset.refl _) (.refl _ _)).sameCounts (by decide))

theorem State.resolveQueries_counts (h : s.CountsAgree) (hr : s.RosterOrdered) (he : s.entry? e.slot = some e)
    (hc : e.custody.unscored) (m : MarkRecord) (l : List (Nat × Mark)) : (s.resolveQueries e m l).CountsAgree := by
  unfold State.resolveQueries
  dsimp only
  split
  · exact State.countFinal_counts h hr he hc fun x => ⟨_, rfl⟩
  · exact (State.modMark_sameCounts s _ fun x => ⟨_, rfl⟩).agree h

/-! ### Placement tasks: the counts (R38, R60, R142) -/

theorem State.startRun_sameCounts (s : State) (k : Nat) : SameCounts s (s.startRun k) := by
  unfold State.startRun
  exact (State.setRun_sameCounts _ _).trans (State.modSitting_sameCounts _ k fun _ c => by cases c <;> rfl)

/-- The candidate of a MOVE leaves its seat and stays in the hall's count (R60, R81). -/
theorem State.leaveSeat_counts (h : s.Tallied late) (he : s.entry? e.slot = some e) : (s.leaveSeat e).CountsAgree := by
  unfold State.leaveSeat
  dsimp only
  cases hd : e.seat with
  | none =>
    dsimp only
    split
    · next hp => exact (State.displace_sameCounts h.links.roster he hp).agree h.counts
    · exact h.counts
  | some d =>
    have hb := State.requestRelease_brings h.links he hd
    have hcounts := State.requestRelease_counts h.links h.counts d
    dsimp only
    split
    · next hp => exact (State.displace_sameCounts hb.links.roster hb.entry hp).agree hcounts
    · exact hcounts

theorem State.carryMove_counts (h : s.Tallied late) (he : s.entry? e.slot = some e) (target : MoveTarget) :
    (s.carryMove e target).CountsAgree := by
  unfold State.carryMove
  dsimp only
  refine SameCounts.agree (s := s.leaveSeat e) (.trans ?_ (State.checkRun_sameCounts _)) (State.leaveSeat_counts h he)
  have moved : SameCounts (s.leaveSeat e) (match target with
      | .seat d => (s.leaveSeat e).makeOffer e.slot d .move e.seat
      | .anySeat => (s.leaveSeat e).appendReseat { slot := e.slot, former := none, excluded := e.seat }) := by
    split
    · exact State.makeOffer_sameCounts _ _ _ _ _
    · exact State.appendReseat_sameCounts _ _
  split
  · exact moved.trans (State.retryStranded_sameCounts _ _)
  · exact moved

theorem State.abortRun_sameCounts (s : State) : SameCounts s (s.runOffers.foldl State.cancelOffer s) :=
  .foldl _ State.cancelOffer_sameCounts s

theorem State.failRestart_sameCounts (s : State) (d : Nat) : SameCounts s (s.failRestart d) := by
  unfold State.failRestart
  split
  · exact State.failOffer_sameCounts _ _ _
  · exact .refl s

theorem State.restart_sameCounts (s : State) (z : Nat) :
    SameCounts s (((s.zoneOffers z).foldl State.failRestart (s.clearLine z)).retellPhases z) :=
  (((State.clearLine_only s z (List.Subset.refl _) (.refl _ _)).sameCounts (by decide)).trans
    (.foldl _ State.failRestart_sameCounts _)).trans
      ((State.retellPhases_only _ z (List.Subset.refl _) (.refl _ _)).sameCounts (by decide))

end Sys2Proof.Machine

namespace Sys2Proof.Machine

variable {s t u : State} {p d k : Nat} {e x : Entry} {late : Option Nat}

/-! ### Definitions and closings: the counts (R63, R64, R71, R192) -/

theorem State.total_eq_zero (h : ∀ e ∈ s.roster.entries, e.sitting ≠ k) (c : Tally) : s.total c k = 0 := by
  unfold State.total
  rw [List.sum_eq_zero_iff_forall_eq_nat]
  intro n hn
  obtain ⟨e, he, rfl⟩ := List.mem_map.1 hn
  exact Tally.weight_other (h e he)

/-- The record of a sitting is written anew, with the counts of its entries. -/
theorem State.changeSitting_counts (h : s.CountsAgree) {f : Sitting → Sitting}
    (hk : ∀ c, Tally.of (f (s.sitting k)) c = s.total c k) : (s.changeSitting k f).CountsAgree := by
  refine ((State.changeSitting_tells s k f).sameCounts (by decide)).agree (State.countsAgree_iff.2 fun c j => ?_)
  rw [State.sitting_setSitting]
  split
  · next hj => subst hj; exact hk c
  · exact State.countsAgree_iff.1 h c j

/-- A sitting without entries is written anew with every count 0. -/
theorem State.changeSitting_fresh_counts (h : s.CountsAgree) (hk : ∀ e ∈ s.roster.entries, e.sitting ≠ k)
    {r : Sitting} (hr : ∀ c, Tally.of r c = 0) : (s.changeSitting k fun _ => r).CountsAgree :=
  State.changeSitting_counts h fun c => by rw [hr, State.total_eq_zero hk]

theorem State.defineNew_counts (h : s.Tallied none) (hk : (s.sitting k).phase = .empty) (d : Definition) :
    (s.defineNew k d).CountsAgree :=
  State.changeSitting_fresh_counts h.counts
    (fun _ he => h.no_entry_of_empty hk (State.entry?_of_mem h.links.roster he)) fun c => by cases c <;> rfl

theorem State.redefine_sameCounts (s : State) (k : Nat) (d : Definition) : SameCounts s (s.redefine k d) := by
  have hset : SameCounts s (s.modSitting k fun r => { r with defn := d, readingLeft := d.reading, elapsed := 0 }) :=
    State.modSitting_sameCounts s k fun _ c => by cases c <;> rfl
  refine .ite hset (hset.trans (State.mapEntries_sameCounts _ fun e => ?_))
  split
  · exact .of rfl rfl rfl rfl
  · exact ⟨rfl, fun _ => rfl⟩

theorem State.declareMissing_counts (hs : s.Linked) (h : s.CountsAgree) (he : s.entry? p = some e)
    (hc : e.custody = .handedIn) : (s.declareMissing p).CountsAgree :=
  State.collect_counts hs h he (f := fun e => { e with custody := .missing }) (fun _ => ⟨rfl, rfl, rfl⟩)
    (fun _ => rfl) (recounts_dropAwaiting hc (.inl rfl))

theorem State.closeCollection_counts (h : s.Tallied none) (k : Nat) :
    (((s.handedIn k).foldl State.declareMissing s).changeSitting k fun r => { r with phase := .closed }).CountsAgree := by
  have hfold := foldl_onlyAt (f := State.declareMissing) (I := fun u => u.Tallied none)
    (pre := fun e => e.custody = .handedIn) (post := fun e => e.custody ≠ .handedIn) (l := s.handedIn k)
    (fun u p e hu he hp => by
      obtain ⟨hagreed, tray, hb⟩ := State.declareMissing_agreed hu.toAgreed he hp
      exact ⟨⟨hagreed, State.declareMissing_counts hu.links hu.counts he hp⟩, hb.toOnlyAt, _, hb.entry, by simp⟩)
    (State.slotsOf_nodup (k := k) h.links.roster fun e => decide (e.custody = .handedIn)) h fun p hp => by
      obtain ⟨e, he, -, hc⟩ := (State.mem_slotsOf h.links.roster).1 hp
      exact ⟨e, he, by simpa using hc⟩
  exact (State.changeSitting_sameCounts _ k fun _ c => by cases c <;> rfl).agree hfold.1.counts

theorem released_countsAs (k : Nat) (e : Entry) : (released k e).countsAs e := by
  unfold released
  split
  · next h => exact ⟨rfl, fun c => by cases c <;> simp [Tally.meets, isCollected, isFinal, h.2]⟩
  · exact ⟨rfl, fun _ => rfl⟩

theorem State.release_sameCounts (s : State) (k : Nat) :
    SameCounts s ((s.setEntries (s.roster.entries.map (released k))).changeSitting k fun r =>
      { r with phase := .released }) :=
  (State.mapEntries_sameCounts s (released_countsAs k)).trans
    (State.changeSitting_sameCounts _ k fun _ c => by cases c <;> rfl)

/-! ### Deletion and enrolment: the counts (R1, R10) -/

/-- The sum over a roster in which each slot stands once, with one entry taken out. -/
theorem sum_filter_slot {l : List Entry} (hl : (l.map Entry.slot).Nodup) (he : e ∈ l) (w : Entry → Nat) :
    ((l.filter fun x => x.slot != e.slot).map w).sum + w e = (l.map w).sum := by
  induction l with
  | nil => cases he
  | cons y l ih =>
    obtain ⟨hy, hl⟩ := List.nodup_cons.1 hl
    rcases List.mem_cons.1 he with rfl | he
    · have hkeep : (l.filter fun x => x.slot != e.slot) = l :=
        List.filter_eq_self.2 fun x hx => by
          simpa using fun hs : x.slot = e.slot => hy (hs ▸ List.mem_map_of_mem hx)
      simp [hkeep, Nat.add_comm]
    · have hne : y.slot ≠ e.slot := fun hs => hy (hs ▸ List.mem_map_of_mem he)
      have := ih hl he
      simp only [List.filter_cons, bne_iff_ne, ne_eq, hne, not_false_eq_true, if_true, List.map_cons, List.sum_cons]
      omega

theorem tally_withoutEntry (e : Entry) (r : Sitting) (c : Tally) :
    Tally.of (withoutEntry e r) c = Tally.of r c - (Tally.meets e c).toNat := by
  have drop (n : Nat) (b : Bool) : (if b = true then n - 1 else n) = n - b.toNat := by cases b <;> rfl
  cases c with
  | enrolled => rfl
  | present | awaiting => simp [Tally.of, Tally.meets, withoutEntry, ← drop]
  | placed | collected | final => exact drop _ _

/-- The deletion of an entry takes it from every count that counts it (R10, R81). -/
theorem State.deleteEntry_counts (hr : s.RosterOrdered) (h : s.CountsAgree) (p : Nat) :
    (s.deleteEntry p).CountsAgree := by
  unfold State.deleteEntry
  split
  · next e he =>
    obtain rfl := State.slot_of_entry? he
    refine State.countsAgree_iff.2 fun c j => ?_
    have hsum := sum_filter_slot hr.2.1 (State.mem_of_entry? he) (c.weight j)
    have hcount : Tally.of (s.sitting j) c = (s.roster.entries.map (c.weight j)).sum := State.countsAgree_iff.1 h c j
    have hsitting : Tally.of ((s.modSitting e.sitting (withoutEntry e)).sitting j) c
        = Tally.of (s.sitting j) c - c.weight j e := by
      unfold State.modSitting
      rw [State.sitting_setSitting]
      split
      · next hj => subst hj; rw [tally_withoutEntry, Tally.weight_self]
      · next hj => rw [Tally.weight_other fun hc => hj hc.symm, Nat.sub_zero]
    change Tally.of ((s.modSitting e.sitting (withoutEntry e)).sitting j) c = (List.map _ (List.filter _ _)).sum
    rw [hsitting, hcount]
    exact Nat.sub_eq_of_eq_add hsum.symm
  · exact h

theorem State.deleteEntries_counts (l : List Nat) (hr : s.RosterOrdered) (h : s.CountsAgree) :
    (l.foldl State.deleteEntry s).CountsAgree := by
  induction l generalizing s with
  | nil => exact h
  | cons p l ih => exact ih (State.deleteEntry_rosterOrdered hr p) (State.deleteEntry_counts hr h p)

theorem State.entry?_deleteEntries (l : List Nat) (s : State) (q : Nat) :
    (l.foldl State.deleteEntry s).entry? q = if q ∈ l then none else s.entry? q := by
  induction l generalizing s with
  | nil => simp
  | cons p l ih =>
    rw [List.foldl_cons, ih, State.entry?_deleteEntry]
    by_cases hq : q ∈ l <;> by_cases hqp : q = p <;> simp [hq, hqp]

/-- Once its entries are deleted, no entry is of the sitting (R72). -/
theorem State.no_entry_of_deleted (hr : s.RosterOrdered) (k : Nat) :
    ∀ e ∈ ((s.slotsOf k fun _ => true).foldl State.deleteEntry s).roster.entries, e.sitting ≠ k := by
  intro e he hk
  have hentry := State.entry?_of_mem (State.deleteEntries_rosterOrdered hr _) he
  rw [State.entry?_deleteEntries] at hentry
  split at hentry
  · cases hentry
  · next hout => exact hout ((State.mem_slotsOf hr).2 ⟨e, hentry, hk, rfl⟩)

theorem State.clearSitting_counts (hr : s.RosterOrdered) (h : s.CountsAgree) (k : Nat) :
    (s.clearSitting k).CountsAgree := by
  have hkeys (v : State) : OnlyChanges [.keys, .extents] v ((v.setKey k {}).dropExtents k) :=
    State.dropExtents_only _ k (by decide) (State.setKey_only v k {} (by decide) (.refl _ _))
  unfold State.clearSitting
  refine State.changeSitting_fresh_counts
    (((hkeys _).sameCounts (by decide)).agree (State.deleteEntries_counts _ hr h)) ?_ fun c => by cases c <;> rfl
  rw [(hkeys _).rest .entries (by decide)]
  exact State.no_entry_of_deleted hr k

/-- The release of a HELD seat keeps the links, and the counts follow it (R26). -/
theorem State.releaseHeld_keeps (h : s.Linked ∧ s.CountsAgree) (p : Nat) :
    (s.releaseHeld p).Linked ∧ (s.releaseHeld p).CountsAgree := by
  obtain ⟨hs, hcounts⟩ := h
  refine ⟨?_, State.releaseHeld_counts hs hcounts p⟩
  unfold State.releaseHeld
  split
  · next d hd =>
    obtain ⟨e, he, hseat⟩ := Option.bind_eq_some_iff.1 hd
    split
    · exact (State.releaseSeat_brings hs he hseat).links
    · exact hs
  · exact hs

theorem State.clearPlacement_tallied (h : s.Tallied none) (hk : (s.sitting k).phase = .defined) :
    (s.clearPlacement k).Tallied none := by
  refine ⟨(State.clearPlacement_agreed h.toAgreed hk).1, ?_⟩
  have hcancelled := (State.cancelSitting_agreed h.toAgreed k).1
  have hcounts : ((s.sittingOffers k).foldl State.cancelOffer s).CountsAgree :=
    (SameCounts.foldl _ State.cancelOffer_sameCounts s).agree h.counts
  have hreseat (l : List Reseat) : (((s.sittingOffers k).foldl State.cancelOffer s).setReseats l).Linked
      ∧ (((s.sittingOffers k).foldl State.cancelOffer s).setReseats l).CountsAgree :=
    ⟨((State.setReseats_sameHall _ l).agreed hcancelled).links, (State.setReseats_sameCounts _ l).agree hcounts⟩
  unfold State.clearPlacement
  exact (List.foldlRecOn (motive := fun v : State => v.Linked ∧ v.CountsAgree) _ _ (hreseat _)
    fun v hv p _ => State.releaseHeld_keeps hv p).2

theorem State.withdraw_counts (h : s.Tallied late) (he : s.entry? e.slot = some e) (hp : e.presence = .expected) :
    ((((s.endNeed e.slot).leaveList e.slot).releaseHeld e.slot).deleteEntry e.slot).CountsAgree := by
  have hsound := h.sound _ e he
  have hn := (State.endNeed_brings h.links he).sameHall (State.leaveList_sameHall (s.endNeed e.slot) e.slot)
  have hr := State.releaseHeld_brings hn.links hn.entry fun d hd => by
    rw [(State.leaveList_sameHall _ _).tenure, State.endNeed_tenure h.links (h.links.occupant_of_seat he hd)]
    exact hsound.held (.inl hp) hd
  have hlisted : SameCounts s ((s.endNeed e.slot).leaveList e.slot) :=
    (State.endNeed_sameCounts s _).trans
      ((State.leaveList_only _ _ (List.Subset.refl _) (.refl _ _)).sameCounts (by decide))
  exact State.deleteEntry_counts hr.links.roster (State.releaseHeld_counts hn.links (hlisted.agree h.counts) _) _

/-- A new entry meets the count of those enrolled and no other (R1, R81). -/
theorem meets_newEntry (k i w : Nat) (r : EnrolEntry) (c : Tally) :
    (Tally.meets (newEntry k i w r) c).toNat = match c with | .enrolled => 1 | _ => 0 := by
  cases c <;> rfl

theorem State.enrolOne_counts (h : s.CountsAgree) (k : Nat) (r : EnrolEntry) : (s.enrolOne k r).1.CountsAgree := by
  unfold State.enrolOne
  split
  · exact h
  · split
    · exact h
    · split
      · exact h
      · next i _ =>
        generalize hw : (s.sitting k).defn.writing = w
        refine State.countsAgree_iff.2 fun c j => ?_
        have htotal : (s.setEntries (insertEntry (newEntry k i w r) s.roster.entries)).total c j
            = c.weight j (newEntry k i w r) + s.total c j :=
          ((insertEntry_perm _ _).map _).sum_eq
        change Tally.of ((s.setSitting k { s.sitting k with enrolled := (s.sitting k).enrolled + 1 }).sitting j) c
          = State.total (s.setEntries _) c j
        rw [htotal, ← State.countsAgree_iff.1 h c j, State.sitting_setSitting]
        split
        · next hj =>
          subst hj
          have hweight := Tally.weight_self c (newEntry j i w r)
          change c.weight j _ = _ at hweight
          rw [hweight, meets_newEntry]
          cases c <;> simp [Tally.of, Nat.add_comm]
        · next hj => rw [Tally.weight_other fun hc => hj hc.symm, Nat.zero_add]

theorem State.enrolAll_counts (h : s.CountsAgree) (k : Nat) (l : List EnrolEntry) :
    (s.enrolAll k l).1.CountsAgree := by
  induction l generalizing s with
  | nil => exact h
  | cons r l ih => exact ih (State.enrolOne_counts h k r)

/-! ### Holds and starts: the counts (R76, R77, R203) -/

theorem State.holdThese_sameCounts (s : State) (l : List Nat) : SameCounts s (s.holdThese l) :=
  .trans (.foldl l (fun u k => State.changeSitting_sameCounts u k fun _ c => by cases c <;> rfl) s)
    (State.finishTask_sameCounts _ _ _ _)

theorem State.resumeThese_sameCounts (s : State) (l : List Nat) : SameCounts s (s.resumeThese l) :=
  .ite (State.finishTask_sameCounts _ _ _ _)
    (.trans (.foldl l (fun u k => State.changeSitting_sameCounts u k fun _ c => by cases c <;> rfl) s)
      (State.finishTask_sameCounts _ _ _ _))

theorem State.assertAlarm_sameCounts (s : State) : SameCounts s s.assertAlarm :=
  .trans (.foldl _ (fun u k => State.changeSitting_sameCounts u k fun _ c => by cases c <;> rfl) s)
    (State.raise_sameCounts _ _ _)

theorem State.findAlarm_sameCounts (hw : Table.wf {} s.control.sittings = true) : SameCounts s s.findAlarm :=
  ⟨fun _ _ => rfl, fun c k => by
    unfold State.findAlarm
    rw [State.sitting_holdQuietly
      (s := { s with power := { s.power with alarmFound := some (s.power.alarmFound.getD s.alarmSubject) } }) hw]
    split
    · cases c <;> rfl
    · rfl⟩

theorem State.warmStart_entries (s : State) (cause : StartCause) :
    (s.warmStart cause).roster.entries = s.roster.entries.map fun e => { e with offer := none } := by
  have hend : s.endRunAtStart.roster.entries = s.roster.entries := by unfold State.endRunAtStart; split <;> rfl
  unfold State.warmStart
  dsimp only
  split
  · change List.map _ (s.endRunAtStart).roster.entries = _; rw [hend]
  · change List.map _ (s.endRunAtStart).roster.entries = _; rw [hend]

theorem runEnded_keepsCounts (run : Option Run) (k : Nat) : keepsCounts (runEnded run k) := fun r c => by
  unfold runEnded
  split
  · split
    · cases c <;> rfl
    · rfl
  · rfl

theorem restarted_keepsCounts (alarm : Bool) : keepsCounts (restarted alarm) := fun r c => by
  unfold restarted
  split
  · cases c <;> rfl
  · rfl

/-- A warm start ends a run and holds what is under way: the six counts stay (R203). -/
theorem State.warmStart_sameCounts (hw : Table.wf {} s.control.sittings = true) (cause : StartCause) :
    SameCounts s (s.warmStart cause) := by
  refine ⟨fun c k => ?_, fun c k => ?_⟩
  · exact Eq.trans (by unfold State.total; rw [State.warmStart_entries]; rfl)
      ((State.mapEntries_sameCounts s (f := fun e => { e with offer := none }) fun _ => .of rfl rfl rfl rfl).total c k)
  · rw [State.sitting_warmStart hw]
    exact (restarted_keepsCounts _ _ c).trans (runEnded_keepsCounts _ _ _ c)

theorem State.coldStart_counts (s : State) : s.coldStart.CountsAgree := by
  have hempty (v : State) (hentries : v.roster.entries = []) (hsittings : v.control.sittings = []) : v.CountsAgree := by
    refine State.countsAgree_iff.2 fun c k => ?_
    unfold State.total State.sitting
    rw [hentries, hsittings]
    cases c <;> rfl
  unfold State.coldStart
  dsimp only
  split
  · exact (State.findAlarm_sameCounts rfl).agree (hempty _ rfl rfl)
  · exact hempty _ rfl rfl

end Sys2Proof.Machine

namespace Sys2Proof.Machine

variable {s t u : State} {p d k : Nat} {e x : Entry} {late : Option Nat}

/-! ### Every task keeps the counts -/

theorem task_counts {k : Task} {body : State → State} (hs : s.Tallied none)
    (h : (Host.Outcome.next (s.atPort k body) : Result) = .next t)
    (hbody : ∀ u, u.Tallied none → (body u).CountsAgree) : t.CountsAgree :=
  task_leads (P := fun u => u.Tallied none) (Q := fun u => u.CountsAgree) h
    (fun _ _ hm hu => hm.tallied (by decide) hu) (fun _ hu => hu.counts) hs hbody

/-- A task whose body no count sees. -/
theorem task_sameCounts {k : Task} {body : State → State} (hs : s.Tallied none)
    (h : (Host.Outcome.next (s.atPort k body) : Result) = .next t) (hbody : ∀ u, SameCounts u (body u)) :
    t.CountsAgree :=
  task_counts hs h fun u hu => (hbody u).agree hu.counts

theorem State.refuse_sameCounts (s : State) (c : ResultCode) : SameCounts s (s.refuse c) :=
  State.finishTask_sameCounts s c false _

theorem State.refuse_counts (h : s.CountsAgree) {c : ResultCode} : (s.refuse c).CountsAgree :=
  (State.refuse_sameCounts s c).agree h

theorem State.finishTask_counts (h : s.CountsAgree) {c : ResultCode} {b : Bool} {r : Report} :
    (s.finishTask c b r).CountsAgree := (State.finishTask_sameCounts s c b r).agree h

theorem State.withCandidate_counts (h : s.Tallied late) {n : Nat} {body : Entry → State}
    (hbody : ∀ e, s.entry? e.slot = some e → (body e).CountsAgree) : (s.withCandidate n body).CountsAgree := by
  unfold State.withCandidate
  split
  · exact State.refuse_counts h.counts
  · split
    · exact State.refuse_counts h.counts
    · next e he => exact hbody e (State.entry?_of_byNumber? h.links.roster he)

/-! #### The roster and placement -/

theorem execEnrol_counts {k l} (hs : s.Tallied none) (h : execEnrol k l s = .next t) : t.CountsAgree :=
  task_counts hs h fun u hu => by
    dsimp only
    split
    · exact State.refuse_counts hu.counts
    · split
      · exact State.refuse_counts hu.counts
      · exact State.finishTask_counts (State.enrolAll_counts hu.counts k l)

theorem execWithdraw_counts {n} (hs : s.Tallied none) (h : execWithdraw n s = .next t) : t.CountsAgree :=
  task_counts hs h fun u hu => by
    dsimp only
    split
    · exact State.refuse_counts hu.counts
    · next e he =>
      split
      · exact State.refuse_counts hu.counts
      · next hp =>
        exact State.finishTask_counts ((State.checkRun_sameCounts _).agree
          (State.withdraw_counts hu (State.entry?_of_byNumber? hu.links.roster he) (by simpa using hp)))

/-- No count reads the needs of an entry. -/
theorem State.modNeeds_tallied (h : s.Tallied late) (he : s.entry? p = some e) (c : CapSet → CapSet) :
    (s.modEntry p fun e => { e with needs := c e.needs }).Tallied late :=
  ⟨State.modNeeds_agreed h.toAgreed he c,
    (State.modEntry_sameCounts s p (f := fun e => { e with needs := c e.needs }) fun _ => .of rfl rfl rfl rfl).agree h.counts⟩

theorem execAmend_counts {n c a r} (hs : s.Tallied none) (h : execAmend n c a r s = .next t) : t.CountsAgree :=
  task_counts hs h fun u hu => by
    dsimp only
    split
    · exact State.refuse_counts hu.counts
    · next e he =>
      split
      · exact State.refuse_counts hu.counts
      · split
        · exact State.refuse_counts hu.counts
        · split
          · exact State.refuse_counts hu.counts
          · exact State.finishTask_counts (State.amendRest_tallied (State.amendAllowance_tallied
              (State.modNeeds_tallied hu (State.entry?_of_byNumber? hu.links.roster he) c.getD) _ a) _ r).counts

theorem execAllocate_counts {k} (hs : s.Tallied none) (h : execAllocate k s = .next t) : t.CountsAgree :=
  task_sameCounts hs h fun u => by
    refine .ite (State.refuse_sameCounts u _) (.ite (State.refuse_sameCounts u _) (.ite (State.refuse_sameCounts u _) ?_))
    exact ((State.startRun_sameCounts u k).trans (State.checkRun_sameCounts _)).trans (State.finishTask_sameCounts _ _ _ _)

theorem execAbortAllocation_counts {k} (hs : s.Tallied none) (h : execAbortAllocation k s = .next t) :
    t.CountsAgree :=
  task_sameCounts hs h fun u => by
    refine .ite (State.refuse_sameCounts u _) (.ite (State.refuse_sameCounts u _) ?_)
    split
    · exact State.refuse_sameCounts u _
    · refine (State.abortRun_sameCounts u).trans (.trans ?_ (State.finishTask_sameCounts _ _ _ _))
      split
      · exact State.closeRun_sameCounts _ _ _
      · exact .refl _

theorem execMove_counts {n x} (hs : s.Tallied none) (h : execMove n x s = .next t) : t.CountsAgree :=
  task_counts hs h fun u hu => by
    split
    · exact State.refuse_counts hu.counts
    · refine State.withCandidate_counts hu fun e he => ?_
      split
      · exact State.refuse_counts hu.counts
      · split
        · exact State.refuse_counts hu.counts
        · split
          · exact State.refuse_counts hu.counts
          · exact State.finishTask_counts (State.carryMove_counts hu he _)

theorem execRestartLine_counts {z} (hs : s.Tallied none) (h : execRestartLine z s = .next t) : t.CountsAgree :=
  task_sameCounts hs h fun u => by
    have setLine (v : State) (l : Line) : SameCounts v (v.setLine z l) := ⟨fun _ _ => rfl, fun _ _ => rfl⟩
    exact .ite (State.refuse_sameCounts u _)
      (((State.restart_sameCounts u z).trans (setLine _ _)).trans (State.finishTask_sameCounts _ _ _ _))

/-! #### Sittings -/

theorem execDefineSitting_counts {k d} (hs : s.Tallied none) (h : execDefineSitting k d s = .next t) :
    t.CountsAgree :=
  task_counts hs h fun u hu => by
    dsimp only
    split
    · exact State.refuse_counts hu.counts
    · split
      · next hk =>
        split
        · exact State.refuse_counts hu.counts
        · exact State.finishTask_counts (State.defineNew_counts hu hk _)
      · refine SameCounts.agree (.ite (State.refuse_sameCounts u _) (.ite (State.refuse_sameCounts u _) ?_)) hu.counts
        split
        · exact State.finishTask_sameCounts u _ _ _
        · exact (State.redefine_sameCounts u k _).trans (State.finishTask_sameCounts _ _ _ _)
      · exact State.refuse_counts hu.counts

theorem execOpenNow_counts {k} (hs : s.Tallied none) (h : execOpenNow k s = .next t) : t.CountsAgree :=
  task_counts hs h fun u hu => by
    dsimp only
    split
    · exact State.refuse_counts hu.counts
    · split
      · next hk => exact State.finishTask_counts (State.enterOpen_tallied hu hk).counts
      · next hk =>
        split
        · exact State.refuse_counts hu.counts
        · exact State.finishTask_counts (State.sittingStart_tallied hu hk).counts
      · exact State.refuse_counts hu.counts

theorem execHold_counts {x} (hs : s.Tallied none) (h : execHold x s = .next t) : t.CountsAgree :=
  task_sameCounts hs h fun u => by
    cases x with
    | one k => exact .ite (State.refuse_sameCounts u _) (.ite (State.refuse_sameCounts u _) (State.holdThese_sameCounts u _))
    | all => exact State.holdThese_sameCounts u _

theorem execResume_counts {x} (hs : s.Tallied none) (h : execResume x s = .next t) : t.CountsAgree :=
  task_sameCounts hs h fun u => by
    cases x with
    | one k => exact .ite (State.refuse_sameCounts u _) (.ite (State.refuse_sameCounts u _) (State.resumeThese_sameCounts u _))
    | all => exact State.resumeThese_sameCounts u _

theorem execCloseCollection_counts {k} (hs : s.Tallied none) (h : execCloseCollection k s = .next t) :
    t.CountsAgree :=
  task_counts hs h fun u hu => by
    dsimp only
    split
    · exact State.refuse_counts hu.counts
    · split
      · exact State.refuse_counts hu.counts
      · exact State.finishTask_counts (State.closeCollection_counts hu k)

theorem execRetireSitting_counts {k} (hs : s.Tallied none) (h : execRetireSitting k s = .next t) : t.CountsAgree :=
  task_counts hs h fun u hu => by
    split
    · exact State.refuse_counts hu.counts
    · split
      · split
        · exact State.refuse_counts hu.counts
        · exact State.finishTask_counts (State.clearSitting_counts hu.links.roster hu.counts k)
      · next hk =>
        split
        · exact State.refuse_counts hu.counts
        · have hclear := State.clearPlacement_tallied hu hk
          exact State.finishTask_counts (State.clearSitting_counts hclear.links.roster hclear.counts k)
      · exact State.refuse_counts hu.counts

theorem execAdjustTime_counts {n a} (hs : s.Tallied none) (h : execAdjustTime n a s = .next t) : t.CountsAgree :=
  task_counts hs h fun u hu => State.withCandidate_counts hu fun e he => by
    split
    · exact State.refuse_counts hu.counts
    · exact State.finishTask_counts (State.adjust_tallied hu he a).counts

theorem execEndCandidate_counts {n} (hs : s.Tallied none) (h : execEndCandidate n s = .next t) : t.CountsAgree :=
  task_counts hs h fun u hu => State.withCandidate_counts hu fun e he => by
    split
    · exact State.refuse_counts hu.counts
    · next hopen => exact State.finishTask_counts (State.endCandidate_tallied hu he hopen).counts

/-! #### Custody and review -/

theorem execVoidScript_counts {n} (hs : s.Tallied none) (h : execVoidScript n s = .next t) : t.CountsAgree :=
  task_counts hs h fun u hu => State.withCandidate_counts hu fun e he => by
    split
    · exact State.refuse_counts hu.counts
    · next hv => exact State.finishTask_counts (State.voidScript_counts hu he (by simpa using hv))

theorem execClearTray_counts {v} (hs : s.Tallied none) (h : execClearTray v s = .next t) : t.CountsAgree :=
  task_sameCounts hs h fun u => by
    refine .ite (State.refuse_sameCounts u _) ?_
    split
    · exact State.refuse_sameCounts u _
    · exact State.finishTask_sameCounts u _ _ _
    · split
      · exact State.finishTask_sameCounts u _ _ _
      · exact (State.emptyTray_sameCounts u v).trans (State.finishTask_sameCounts _ _ _ _)

theorem execResolveQuery_counts {n l} (hs : s.Tallied none) (h : execResolveQuery n l s = .next t) : t.CountsAgree :=
  task_counts hs h fun u hu => by
    dsimp only
    split
    · exact State.refuse_counts hu.counts
    · refine State.withCandidate_counts hu fun e he => ?_
      split
      · next hc =>
        have hunscored : e.custody.unscored := by rw [hc]; exact ⟨rfl, rfl⟩
        split
        · exact State.finishTask_counts hu.counts
        · split
          · exact State.finishTask_counts hu.counts
          · exact State.finishTask_counts (State.resolveQueries_counts hu.counts hu.links.roster he hunscored _ l)
      · exact State.refuse_counts hu.counts

theorem execResolveDispute_counts {n c} (hs : s.Tallied none) (h : execResolveDispute n c s = .next t) :
    t.CountsAgree :=
  task_counts hs h fun u hu => by
    dsimp only
    split
    · exact State.refuse_counts hu.counts
    · refine State.withCandidate_counts hu fun e he => ?_
      split
      · next hc =>
        have hunscored : e.custody.unscored := by rw [hc]; exact ⟨rfl, rfl⟩
        exact State.finishTask_counts (State.settle_counts hu.counts hu.links.roster he hunscored _)
      · exact State.refuse_counts hu.counts

theorem execManualMark_counts {n x} (hs : s.Tallied none) (h : execManualMark n x s = .next t) : t.CountsAgree :=
  task_counts hs h fun u hu => State.withCandidate_counts hu fun e he => by
    split
    · exact State.refuse_counts hu.counts
    · next hc =>
      have hunscored : e.custody.unscored := by
        have hreview : e.custody = .manual ∨ e.custody = .disputed := by tauto
        rcases hreview with hc | hc <;> rw [hc] <;> exact ⟨rfl, rfl⟩
      exact State.finishTask_counts
        (State.countFinal_counts hu.counts hu.links.roster he hunscored fun y => ⟨_, rfl⟩)

theorem execReleaseResults_counts {k} (hs : s.Tallied none) (h : execReleaseResults k s = .next t) : t.CountsAgree :=
  task_sameCounts hs h fun u => by
    refine .ite (State.refuse_sameCounts u _) (.ite (State.refuse_sameCounts u _) (.ite (State.refuse_sameCounts u _) ?_))
    split
    · exact State.finishTask_sameCounts u _ _ _
    · exact (State.release_sameCounts u k).trans (State.finishTask_sameCounts _ _ _ _)

/-! ### Every event keeps the counts -/

theorem event_counts {body : State → State} (hs : s.Tallied none)
    (h : (Host.Outcome.next (s.whileOn body) : Result) = .next t) (hbody : (body s).CountsAgree) : t.CountsAgree :=
  event_keeps (P := fun u => u.CountsAgree) h hs.counts fun _ => hbody

/-! #### The hall second -/

theorem reach_event_counts {i : HallItem} {b : State → Bool} (hs : s.Tallied none)
    (h : (Host.Outcome.next (s.whileOn fun s => s.reach i (b s)) : Result) = .next t) : t.CountsAgree :=
  event_counts hs h (State.reach_tallied hs i (b s)).counts

theorem State.advanceTime_tallied (h : s.Tallied late) : s.advanceTime.Tallied late :=
  (State.advanceTime_only s (List.Subset.refl _) (.refl _ _)).tallied (by decide) h

theorem execHallSecond_counts {l} (hs : s.Tallied none) (h : execHallSecond l s = .next t) : t.CountsAgree := by
  obtain rfl : _ = t := by injection h
  split
  · exact hs.counts
  · exact (State.advanceTime_tallied hs).counts
  · exact (State.advanceTime_tallied hs).counts
  · exact (State.takeSecond_tallied (State.advanceTime_tallied (State.catchUp_tallied hs)) l).counts

theorem State.enterOpen_sameCounts (s : State) (k : Nat) : SameCounts s (s.enterOpen k) :=
  State.changeSitting_sameCounts s k fun _ c => by cases c <;> rfl

theorem State.settled_sameCounts (s : State) (i : HallItem) : SameCounts s (s.settled i) :=
  (State.settled_only s i (List.Subset.refl _) (.refl _ _)).sameCounts (by decide)

theorem execOpenTime_counts {k} (hs : s.Tallied none) (h : execOpenTime k s = .next t) : t.CountsAgree :=
  event_counts hs h <| SameCounts.agree (s := s) (.ite (.ite (State.enterOpen_sameCounts s k)
    ((State.enterOpen_sameCounts s k).trans (State.settled_sameCounts _ _))) (.refl s)) hs.counts

theorem State.failDeadline_sameCounts (s : State) (d : Nat) : SameCounts s (s.failDeadline d) := by
  unfold State.failDeadline
  split
  · exact State.failOffer_sameCounts _ _ _
  · exact .refl s

theorem execOfferDeadline_counts (hs : s.Tallied none) (h : execOfferDeadline s = .next t) : t.CountsAgree := by
  have htick : SameCounts s (if s.owes .offers then (s.settled .offers).tickOffers else s) :=
    .ite ((State.settled_sameCounts s _).trans
      ((State.setOffers_only _ _ (List.Subset.refl _) (.refl _ _)).sameCounts (by decide))) (.refl s)
  have hfails (v : State) (hv : SameCounts s v) :
      SameCounts s (match v.overdue with
        | d :: _ => v.failDeadline d
        | [] => s) := by
    split
    · exact hv.trans (State.failDeadline_sameCounts v _)
    · exact .refl s
  exact event_counts hs h ((hfails _ htick).agree hs.counts)

theorem execAlarmAssert_counts (hw : Table.wf {} s.control.sittings = true) (hs : s.Tallied none)
    (h : execAlarmAssert s = .next t) : t.CountsAgree := by
  obtain rfl : _ = t := by injection h
  have hset : SameCounts s (s.setAlarm true) := ⟨fun _ _ => rfl, fun _ _ => rfl⟩
  refine SameCounts.agree (.ite (.refl s) ?_) hs.counts
  split
  · exact hset.trans (State.assertAlarm_sameCounts _)
  · exact hset.trans (State.findAlarm_sameCounts hw)
  · exact hset

/-! #### The desk lines -/

theorem execAnswerWindowClose_counts {z} (hs : s.Tallied none) (h : execAnswerWindowClose z s = .next t) :
    t.CountsAgree :=
  event_counts hs h (by
    split
    · exact (State.closeWindow_tallied hs z _).counts
    · exact hs.counts)

theorem execLinkLoss_counts {z} (hs : s.Tallied none) (h : execLinkLoss z s = .next t) : t.CountsAgree :=
  event_counts hs h (by
    split
    · split
      · exact (State.closeWindow_tallied hs z _).counts
      · exact hs.counts
    · exact hs.counts)

theorem execJoin_counts {z v k c} (hs : s.Tallied none) (h : execJoin z v k c s = .next t) : t.CountsAgree :=
  event_counts hs h (State.takeJoin_counts hs.counts z v k c)

theorem execCheckin_counts {z v n number tag} (hs : s.Tallied none) (h : execCheckin z v n number tag s = .next t) :
    t.CountsAgree :=
  event_counts hs h (State.deskEvent_tallied hs z v n fun d _ hw => State.checkin_tallied hw d number tag).counts

theorem execHandin_counts {z v n number} (hs : s.Tallied none) (h : execHandin z v n number s = .next t) :
    t.CountsAgree :=
  event_counts hs h (State.deskEvent_tallied hs z v n fun d _ hw => State.handin_tallied hw d number).counts

theorem execRestBegin_counts {z v n number} (hs : s.Tallied none) (h : execRestBegin z v n number s = .next t) :
    t.CountsAgree :=
  event_counts hs h (State.deskEvent_tallied hs z v n fun d _ hw =>
    ⟨State.restBegin_agreed hw.toAgreed d number, (State.restBegin_sameCounts _ _ _).agree hw.counts⟩).counts

theorem execRestEnd_counts {z v n number} (hs : s.Tallied none) (h : execRestEnd z v n number s = .next t) :
    t.CountsAgree :=
  event_counts hs h (State.deskEvent_tallied hs z v n fun d _ hw =>
    ⟨State.restEnd_agreed hw.toAgreed d number, (State.restEnd_sameCounts _ _ _).agree hw.counts⟩).counts

theorem State.withdrawOffer_tallied (h : s.Tallied late) (d n : Nat) : (s.withdrawOffer d n).Tallied late :=
  (State.withdrawOffer_sameHall s d n).tallied h (State.withdrawOffer_sameCounts s d n)

theorem execOfferReplyAccept_counts {z v n number} (hs : s.Tallied none)
    (h : execOfferReplyAccept z v n number s = .next t) : t.CountsAgree :=
  event_counts hs h (State.deskEvent_tallied hs z v n fun d w hw => by
    split
    · next ho => exact State.acceptOffer_tallied hw (State.matching_mem ho)
    · exact State.withdrawOffer_tallied hw _ _).counts

theorem execOfferReplyRefuse_counts {z v n number caps} (hs : s.Tallied none)
    (h : execOfferReplyRefuse z v n number caps s = .next t) : t.CountsAgree :=
  event_counts hs h (State.deskEvent_tallied hs z v n fun d w hw => by
    split
    · next ho =>
      exact ⟨State.refuseOffer_agreed hw.toAgreed (State.matching_mem ho) caps,
        (State.refuseOffer_sameCounts _ _ _).agree hw.counts⟩
    · exact State.withdrawOffer_tallied hw _ _).counts

theorem execTagRead_counts {z v n tag} (hs : s.Tallied none) (h : execTagRead z v n tag s = .next t) :
    t.CountsAgree :=
  event_counts hs h (State.takeEvent_tallied hs z v n fun w hw => by
    split
    · exact hw
    · exact State.readTag_tallied hw _ tag).counts

/-! #### The sheet port and the starts -/

theorem execDecoderTake_counts (hs : s.Tallied none) (h : execDecoderTake s = .next t) : t.CountsAgree :=
  event_counts hs h ((State.decoderStep_sameCounts s).agree hs.counts)

theorem execSheetHandover_counts (hs : s.Tallied none) (h : execSheetHandover s = .next t) : t.CountsAgree :=
  event_counts hs h (by
    split
    · exact State.handOver_counts hs _
    · exact hs.counts)

theorem execBatchClose_counts (hs : s.Tallied none) (h : execBatchClose s = .next t) : t.CountsAgree :=
  event_counts hs h (by
    split
    · split
      · exact ((State.closeBatch_only s (List.Subset.refl _) (.refl _ _)).sameCounts (by decide)).agree hs.counts
      · split
        · exact State.decoderEvent_counts hs
        · exact hs.counts
    · exact hs.counts)

theorem execReboot_counts (hw : Table.wf {} s.control.sittings = true) (hs : s.CountsAgree)
    (h : execReboot s = .next t) : t.CountsAgree := by
  refine task_leads (P := fun u => Table.wf {} u.control.sittings = true ∧ u.CountsAgree) (Q := fun u => u.CountsAgree) h
    (fun u v hm hu => ?_) (fun u hu => hu.2) ⟨hw, hs⟩ fun u hu => (State.warmStart_sameCounts hu.1 .reboot).agree hu.2
  have hsame : v.control.sittings = u.control.sittings := hm.rest .sittings (by decide)
  exact ⟨hsame ▸ hu.1, (hm.sameCounts (by decide)).agree hu.2⟩

theorem execResetn_counts (hw : Table.wf {} s.control.sittings = true) (hs : s.CountsAgree)
    (h : execResetn s = .next t) : t.CountsAgree := by
  obtain rfl : _ = t := by injection h
  split
  · exact (State.warmStart_sameCounts hw _).agree hs
  · exact (State.warmStart_sameCounts hw _).agree hs
  · exact hs

theorem execMainSupplyReturn_counts (hw : Table.wf {} s.control.sittings = true) (hs : s.CountsAgree)
    (h : execMainSupplyReturn s = .next t) : t.CountsAgree := by
  obtain rfl : _ = t := by injection h
  split
  · exact (State.warmStart_sameCounts hw _).agree hs
  · exact hs

theorem execColdStart_counts (hs : s.CountsAgree) (h : execColdStart s = .next t) : t.CountsAgree := by
  obtain rfl : _ = t := by injection h
  split
  · exact State.coldStart_counts _
  · exact hs

/-! ### Every step keeps the counts -/

/-- Every command keeps the counts: one that writes neither entries nor sittings by its frame, any other by its own
lemma. -/
theorem exec_counts (c : Instr) (s t : State) (h : exec c s = .next t) :
    Table.wf {} s.control.sittings = true → s.Tallied none → t.CountsAgree := by
  refine exec_lift (Q := fun s t => Table.wf {} s.control.sittings = true → s.Tallied none → t.CountsAgree)
    (fun _ _ hm _ hs => (hm.sameCounts (by decide)).agree hs.counts) (fun c s t ht h hw hs => ?_) c s t h
  by_cases hoff : (∀ z, c ≠ .restartLine z) ∧ Part.entries ∉ mayChange c ∧ Part.sittings ∉ mayChange c
  · exact ((exec_only ht hoff.1 h).sameCounts hoff.2).agree hs.counts
  · cases c with
    | areaWrite area o d => cases area <;> simp_all [mayChange]
    | reboot => exact execReboot_counts hw hs.counts h
    | enrol _ _ => exact execEnrol_counts hs h
    | withdraw _ => exact execWithdraw_counts hs h
    | amend _ _ _ _ => exact execAmend_counts hs h
    | allocate _ => exact execAllocate_counts hs h
    | abortAllocation _ => exact execAbortAllocation_counts hs h
    | move _ _ => exact execMove_counts hs h
    | restartLine _ => exact execRestartLine_counts hs h
    | defineSitting _ _ => exact execDefineSitting_counts hs h
    | openNow _ => exact execOpenNow_counts hs h
    | hold _ => exact execHold_counts hs h
    | resume _ => exact execResume_counts hs h
    | closeCollection _ => exact execCloseCollection_counts hs h
    | retireSitting _ => exact execRetireSitting_counts hs h
    | adjustTime _ _ => exact execAdjustTime_counts hs h
    | endCandidate _ => exact execEndCandidate_counts hs h
    | voidScript _ => exact execVoidScript_counts hs h
    | clearTray _ => exact execClearTray_counts hs h
    | batchClose => exact execBatchClose_counts hs h
    | resolveQuery _ _ => exact execResolveQuery_counts hs h
    | resolveDispute _ _ => exact execResolveDispute_counts hs h
    | manualMark _ _ => exact execManualMark_counts hs h
    | releaseResults _ => exact execReleaseResults_counts hs h
    | hallSecond _ => exact execHallSecond_counts hs h
    | openTime _ => exact execOpenTime_counts hs h
    | startTime _ => exact reach_event_counts hs h
    | readingEnd _ => exact reach_event_counts hs h
    | lateLimit _ => exact reach_event_counts hs h
    | writingEnd _ => exact reach_event_counts hs h
    | clockExpiry _ => exact reach_event_counts hs h
    | restExhausted _ => exact reach_event_counts hs h
    | warningFire _ => exact reach_event_counts hs h
    | offerDeadline => exact execOfferDeadline_counts hs h
    | alarmAssert => exact execAlarmAssert_counts hw hs h
    | placementStep => exact event_counts hs h ((State.placementStep_sameCounts s).agree hs.counts)
    | walkVisit => exact event_counts hs h ((State.walkStep_sameCounts s).agree hs.counts)
    | answerWindowClose _ => exact execAnswerWindowClose_counts hs h
    | join _ _ _ _ => exact execJoin_counts hs h
    | checkin _ _ _ _ _ => exact execCheckin_counts hs h
    | handin _ _ _ _ => exact execHandin_counts hs h
    | restBegin _ _ _ _ => exact execRestBegin_counts hs h
    | restEnd _ _ _ _ => exact execRestEnd_counts hs h
    | offerReplyAccept _ _ _ _ => exact execOfferReplyAccept_counts hs h
    | offerReplyRefuse _ _ _ _ _ => exact execOfferReplyRefuse_counts hs h
    | tagRead _ _ _ _ => exact execTagRead_counts hs h
    | linkLoss _ => exact execLinkLoss_counts hs h
    | decoderTake => exact execDecoderTake_counts hs h
    | sheetHandover => exact execSheetHandover_counts hs h
    | coldStart => exact execColdStart_counts hs.counts h
    | resetn => exact execResetn_counts hw hs.counts h
    | mainSupplyReturn => exact execMainSupplyReturn_counts hw hs.counts h
    | _ => exact absurd (by simp [mayChange, batchParts, answerParts]) hoff

/-- Settles O13: each command's changes of the roster and of the six counts go together, with the hall in agreement. -/
theorem stepKeepsCountsAgreed : Obligations.StepKeepsCountsAgreed := by
  unfold Obligations.StepKeepsCountsAgreed
  intro s t hc hr hs hcounts h
  obtain ⟨-, -, -, hsittings, -⟩ := hc
  unfold step at h
  split at h
  · obtain rfl : s = t := by injection h
    exact hcounts
  · have hhall := State.agreed_of_seatsAgree (C := False) hr hs False.elim
    exact exec_counts _ _ t h hsittings
      ⟨SameHall.agreed (s := s) ⟨rfl, fun _ => rfl, rfl, fun _ => rfl⟩ hhall, hcounts⟩

end Sys2Proof.Machine

namespace Sys2Proof.Machine

variable {s t u : State} {k j : Nat}

/-! ### SET_HALL_TIME (R75) -/

theorem State.paperRuns_iff (s : State) : s.paperRuns = true ↔ ∃ k, k < Config.sittings ∧
    ((s.sitting k).phase = .reading ∨ (s.sitting k).phase = .writing ∨ (s.sitting k).phase = .overtime) := by
  unfold State.paperRuns
  rw [List.any_eq_true]
  refine exists_congr fun k => ?_
  rw [List.mem_range]
  cases (s.sitting k).phase <;> simp

/-- A task the port does not permit is turned away (R199). -/
theorem State.atPort_denied {k : Task} {body : State → State} (h : s.Idle) (hdenied : s.permits k = false) :
    s.atPort k body = s.completed .denied false .nothing := by
  obtain ⟨hon, hidle⟩ := h
  unfold State.atPort
  rw [hon, hidle, hdenied]
  rfl

/-- Settles O38: the body tests whether a paper runs, and the port the level and its grant. -/
theorem hallTimeSet : Obligations.HallTimeSet := by
  unfold Obligations.HallTimeSet
  intro s v hidle
  refine ⟨fun hperm hruns => ?_, fun hperm hquiet => ?_, fun hlevel => ?_, fun hlevel hgrant => ?_⟩
  · exact task_completes ⟨hidle, hperm⟩ (if_pos ((State.paperRuns_iff s).2 hruns))
  · have hnone : s.paperRuns ≠ true := fun hruns => by
      obtain ⟨k, hk, hphase⟩ := (State.paperRuns_iff s).1 hruns
      obtain ⟨hreading, hwriting, hovertime⟩ := hquiet k hk
      tauto
    exact (task_next ⟨hidle, hperm⟩).trans (congrArg _ (if_neg hnone))
  · unfold State.permits
    rcases hlevel with hlevel | ⟨hlevel, hgrant⟩
    · rw [hlevel]
    · rw [hlevel]; exact hgrant
  · have hdenied : s.permits .setHallTime = false := by unfold State.permits; rw [hlevel]; exact hgrant
    exact congrArg _ (State.atPort_denied hidle hdenied)

end Sys2Proof.Machine

namespace Sys2Proof.Machine

variable {s t u : State} {k j : Nat}

/-! ### What a change of a sitting leaves of its record -/

theorem State.sitting_changeSitting (s : State) (k : Nat) (f : Sitting → Sitting) (j : Nat) :
    (s.changeSitting k f).sitting j = if j = k then f (s.sitting k) else s.sitting j := by
  rw [(State.changeSitting_tells s k f).sitting (by decide), State.sitting_setSitting]

theorem State.sitting_changeSitting_same (s : State) (k : Nat) (f : Sitting → Sitting) :
    (s.changeSitting k f).sitting k = f (s.sitting k) := by rw [State.sitting_changeSitting, if_pos rfl]

theorem State.sitting_changeSitting_other (f : Sitting → Sitting) (h : j ≠ k) :
    (s.changeSitting k f).sitting j = s.sitting j := by rw [State.sitting_changeSitting, if_neg h]

theorem State.entries_changeSitting (s : State) (k : Nat) (f : Sitting → Sitting) :
    (s.changeSitting k f).roster.entries = s.roster.entries :=
  (State.changeSitting_tells s k f).rest .entries (by decide)

/-- Sittings changed one after another, none twice. -/
theorem State.sitting_changeSittings {l : List Nat} (hl : l.Nodup) (f : Sitting → Sitting) (s : State) (j : Nat) :
    (l.foldl (fun s k => s.changeSitting k f) s).sitting j = if j ∈ l then f (s.sitting j) else s.sitting j := by
  induction l generalizing s with
  | nil => simp
  | cons k l ih =>
    obtain ⟨hk, hl⟩ := List.nodup_cons.1 hl
    rw [List.foldl_cons, ih hl, State.sitting_changeSitting]
    by_cases hj : j = k
    · subst hj; simp [hk]
    · simp [hj]

/-! ### DEFINE_SITTING (R63, R64) -/

/-- The definition that R63 clamps. -/
theorem clampedDefinition_eq {p : DefineParams} {spacing : Spacing} (h : p.spacing = some spacing) :
    clampedDefinition p =
      { paper := p.paper, zones := p.zones, spacing := spacing, confined := p.confined, openTime := p.openTime,
        startTime := p.startTime, reading := min 3600 p.reading, writing := p.writing,
        lateLimit := min p.writing (min 3600 p.lateLimit), earlyBar := min p.writing (min 7200 p.earlyBar),
        lastBar := min 3600 p.lastBar, warning1 := min 21600 p.warning1, warning2 := min 21600 p.warning2 } := by
  unfold clampedDefinition
  simp only [h, clampNat_zero, Option.getD_some]

/-- The clamped flag tells whether a clamped field differs from its parameter (R196). -/
theorem definitionClamps_eq (p : DefineParams) :
    definitionClamps p = decide (clampedDefinition p ≠ { clampedDefinition p with
      reading := p.reading, lateLimit := p.lateLimit, earlyBar := p.earlyBar, lastBar := p.lastBar,
      warning1 := p.warning1, warning2 := p.warning2 }) := by
  unfold definitionClamps
  dsimp only
  generalize clampedDefinition p = d
  rw [Bool.eq_iff_iff]
  cases d
  simp only [Bool.or_eq_true, decide_eq_true_eq, ne_eq, Definition.mk.injEq, true_and, not_and_or, or_assoc]

theorem execDefineSitting_defines {p : DefineParams} (h : s.Ready .defineSitting) (hk : k < Config.sittings)
    (hp : badDefinition p = false) (hphase : (s.sitting k).phase = .empty) :
    exec (.defineSitting k p) s = .next (((s.startTask (taskCode .defineSitting)).defineNew k (clampedDefinition p)).finishTask
      .ok (definitionClamps p) (.defined (clampedDefinition p))) := by
  have hphase' : ((s.startTask (taskCode .defineSitting)).sitting k).phase = .empty := hphase
  refine (task_next h).trans ?_
  dsimp only
  rw [not_badSitting hk, hphase', hp]
  rfl

theorem execDefineSitting_redefines {p : DefineParams} (h : s.Ready .defineSitting) (hk : k < Config.sittings)
    (hp : badDefinition p = false) (hphase : (s.sitting k).phase = .defined) (halloc : (s.sitting k).alloc ≠ .running)
    (hallowed : s.redefinitionRefused k (clampedDefinition p) = none) :
    exec (.defineSitting k p) s = .next (((s.startTask (taskCode .defineSitting)).redefine k (clampedDefinition p)).finishTask
      .ok (definitionClamps p) (.defined (clampedDefinition p))) := by
  have hphase' : ((s.startTask (taskCode .defineSitting)).sitting k).phase = .defined := hphase
  have halloc' : ((s.startTask (taskCode .defineSitting)).sitting k).alloc ≠ .running := halloc
  have hallowed' : (s.startTask (taskCode .defineSitting)).redefinitionRefused k (clampedDefinition p) = none := hallowed
  refine (task_next h).trans ?_
  dsimp only
  rw [not_badSitting hk, hphase', hp, if_neg halloc', hallowed']
  rfl

theorem roster_eq {a b : RosterStore} (hentries : a.entries = b.entries) (htags : a.tags = b.tags) : a = b := by
  cases a; cases b; cases hentries; cases htags; rfl

theorem State.sitting_redefine (s : State) (k : Nat) (d : Definition) (j : Nat) :
    (s.redefine k d).sitting j = if j = k then
      { s.sitting k with defn := d, readingLeft := d.reading, elapsed := 0 } else s.sitting j := by
  refine Eq.trans ?_ (State.sitting_setSitting (s := s) k _ j)
  unfold State.redefine
  dsimp only
  split <;> rfl

theorem State.entries_redefine (s : State) (k : Nat) (d : Definition) :
    (s.redefine k d).roster.entries = if d.writing = (s.sitting k).defn.writing then s.roster.entries
      else s.roster.entries.map fun e => if e.sitting = k then
        { e with budget := budgetOf d.writing e.allowance e.adjustSum e.used } else e := by
  unfold State.redefine
  dsimp only
  by_cases hw : d.writing = (s.sitting k).defn.writing
  · rw [if_pos hw.symm, if_pos hw]; rfl
  · rw [if_neg fun h => hw h.symm, if_neg hw]; rfl

/-- Settles O34: both ways write the clamped definition; a new sitting's record is whole, and a re-definition's budgets
are the formula's. -/
theorem definitionWritten : Obligations.DefinitionWritten := by
  unfold Obligations.DefinitionWritten
  intro s k p spacing h hk hp hspacing
  rw [← clampedDefinition_eq hspacing]
  refine ⟨fun hphase => ?_, fun hphase halloc hallowed => ?_⟩
  · have hexec := execDefineSitting_defines h hk hp hphase
    have htells := State.changeSitting_tells (s.startTask (taskCode .defineSitting)) k fun _ =>
      { phase := .defined, defn := clampedDefinition p, readingLeft := (clampedDefinition p).reading }
    refine ⟨_, hexec, definitionClamps_eq p ▸ State.finishTask_answered
        (State.changeSitting_only _ k _ (List.Subset.refl _) (.refl _ _)) (by decide) _ _ _,
      State.sitting_changeSitting_same _ k _, fun j hj => State.sitting_changeSitting_other _ hj, ?_,
      execDefineSitting_only hexec⟩
    have hentries := htells.rest .entries (by decide)
    have htags := htells.rest .tags (by decide)
    exact roster_eq hentries htags
  · have hexec := execDefineSitting_redefines h hk hp hphase halloc hallowed
    refine ⟨_, hexec, rfl, rfl, ?_, fun j hj => ?_, State.entries_redefine _ k _, ?_⟩
    · exact (State.sitting_redefine _ k _ k).trans (if_pos rfl)
    · exact (State.sitting_redefine _ k _ j).trans (if_neg hj)
    · exact State.finishTask_only _ _ _ _ (by decide) (State.redefine_only _ _ _ (by decide)
        (State.startTask_only _ _ (by decide) (.refl _ _)))

end Sys2Proof.Machine

namespace Sys2Proof.Machine

variable {s t u : State} {k j : Nat}

/-! ### HOLD and RESUME (R76, R78) -/

theorem State.holdable_nodup (s : State) : s.holdable.Nodup := List.nodup_range.filter _

theorem State.mem_holdable : k ∈ s.holdable ↔ k < Config.sittings ∧ holdPhase (s.sitting k).phase = true := by
  unfold State.holdable
  rw [List.mem_filter, List.mem_range]

theorem State.sitting_holdThese {l : List Nat} (hl : l.Nodup) (s : State) (j : Nat) : (s.holdThese l).sitting j =
    if j ∈ l then { s.sitting j with holds := { (s.sitting j).holds with host := true } } else s.sitting j :=
  State.sitting_changeSittings hl (fun r => { r with holds := { r.holds with host := true } }) s j

/-- RESUME where no ALARM that the input asserts stands (R78). -/
theorem State.resumeThese_clears {l : List Nat} (h : ∀ k ∈ l, s.alarmBars k = false) : s.resumeThese l =
    (l.foldl State.clearHolds s).finishTask .ok false
      (.resumed (l.filter fun k => isHeld (s.sitting k).holds).length) :=
  if_neg fun hany => by
    obtain ⟨k, hk, hbars⟩ := List.any_eq_true.1 hany
    rw [h k hk] at hbars; cases hbars

theorem State.sitting_clearHolds {l : List Nat} (hl : l.Nodup) (s : State) (j : Nat) :
    (l.foldl State.clearHolds s).sitting j = if j ∈ l then { s.sitting j with holds := {} } else s.sitting j :=
  State.sitting_changeSittings hl (fun r => { r with holds := {} }) s j

theorem execHold_one (h : s.Ready .hold) (hk : k < Config.sittings) (hphase : holdPhase (s.sitting k).phase = true) :
    exec (.hold (.one k)) s = .next ((s.startTask (taskCode .hold)).holdThese [k]) := by
  have hphase' : holdPhase ((s.startTask (taskCode .hold)).sitting k).phase = true := hphase
  refine (task_next h).trans ?_
  dsimp only
  rw [not_badSitting hk, hphase']
  rfl

theorem execResume_one (h : s.Ready .resume) (hk : k < Config.sittings)
    (hphase : holdPhase (s.sitting k).phase = true) :
    exec (.resume (.one k)) s = .next ((s.startTask (taskCode .resume)).resumeThese [k]) := by
  have hphase' : holdPhase ((s.startTask (taskCode .resume)).sitting k).phase = true := hphase
  refine (task_next h).trans ?_
  dsimp only
  rw [not_badSitting hk, hphase']
  rfl

theorem hold_one (h : s.Ready .hold) (hk : k < Config.sittings) (hphase : holdPhase (s.sitting k).phase = true) :
    ∃ t, exec (.hold (.one k)) s = .next t ∧ t.port.running = none ∧ t.port.result.code = .ok
      ∧ t.sitting k = { s.sitting k with holds := { (s.sitting k).holds with host := true } }
      ∧ (∀ j, j ≠ k → t.sitting j = s.sitting j) ∧ OnlyChanges (mayChange (.hold (.one k))) s t := by
  have hexec := execHold_one h hk hphase
  have hsitting := State.sitting_holdThese (List.nodup_singleton k) (s.startTask (taskCode .hold))
  exact ⟨_, hexec, rfl, rfl, (hsitting k).trans (if_pos List.mem_cons_self),
    fun j hj => (hsitting j).trans (if_neg (by simpa using hj)), execHold_only (x := .one k) hexec⟩

theorem hold_all (h : s.Ready .hold) :
    ∃ t, exec (.hold .all) s = .next t ∧ t.port.running = none ∧ t.port.result.code = .ok
      ∧ (∀ k, t.sitting k = if k < Config.sittings ∧ holdPhase (s.sitting k).phase = true then
          { s.sitting k with holds := { (s.sitting k).holds with host := true } } else s.sitting k)
      ∧ OnlyChanges (mayChange (.hold .all)) s t := by
  have hexec : exec (.hold .all) s = .next ((s.startTask (taskCode .hold)).holdThese s.holdable) := task_next h
  refine ⟨_, hexec, rfl, rfl, fun k => ?_, execHold_only (x := .all) hexec⟩
  rw [State.sitting_holdThese s.holdable_nodup]
  exact if_congr State.mem_holdable rfl rfl

theorem resume_one_barred (h : s.Ready .resume) (hk : k < Config.sittings)
    (hphase : holdPhase (s.sitting k).phase = true) (halarm : (s.sitting k).holds.alarm = true)
    (hinput : s.hall.alarm = true) :
    exec (.resume (.one k)) s = .next (s.completed .alarmActive false .nothing) := by
  rw [execResume_one h hk hphase]
  have hbars : (s.startTask (taskCode .resume)).alarmBars k = true := Bool.and_eq_true _ _ ▸ ⟨halarm, hinput⟩
  exact congrArg _ (if_pos (by rw [List.any_cons, hbars]; rfl))

theorem resume_one (h : s.Ready .resume) (hk : k < Config.sittings) (hphase : holdPhase (s.sitting k).phase = true)
    (halarm : (s.sitting k).holds.alarm = false ∨ s.hall.alarm = false) :
    ∃ t, exec (.resume (.one k)) s = .next t ∧ t.port.running = none ∧ t.port.result.code = .ok
      ∧ t.sitting k = { s.sitting k with holds := {} } ∧ (∀ j, j ≠ k → t.sitting j = s.sitting j)
      ∧ OnlyChanges (mayChange (.resume (.one k))) s t := by
  have hclear : ∀ j ∈ [k], (s.startTask (taskCode .resume)).alarmBars j = false := fun j hj => by
    obtain rfl := List.mem_singleton.1 hj
    change ((s.sitting j).holds.alarm && s.hall.alarm) = false
    rcases halarm with halarm | halarm <;> simp [halarm]
  have hexec := execResume_one h hk hphase
  have hsitting := State.sitting_clearHolds (List.nodup_singleton k) (s.startTask (taskCode .resume))
  have hframe := execResume_only (x := .one k) hexec
  rw [State.resumeThese_clears hclear] at hexec hframe
  exact ⟨_, hexec, rfl, rfl, (hsitting k).trans (if_pos List.mem_cons_self),
    fun j hj => (hsitting j).trans (if_neg (by simpa using hj)), hframe⟩

theorem resume_all (h : s.Ready .resume) (hinput : s.hall.alarm = false) :
    ∃ t, exec (.resume .all) s = .next t ∧ t.port.running = none ∧ t.port.result.code = .ok
      ∧ (∀ k, t.sitting k = if k < Config.sittings ∧ holdPhase (s.sitting k).phase = true then
          { s.sitting k with holds := {} } else s.sitting k)
      ∧ OnlyChanges (mayChange (.resume .all)) s t := by
  have hclear : ∀ j ∈ s.holdable, (s.startTask (taskCode .resume)).alarmBars j = false := fun j _ => by
    change ((s.sitting j).holds.alarm && s.hall.alarm) = false
    rw [hinput, Bool.and_false]
  have hexec : exec (.resume .all) s = .next ((s.startTask (taskCode .resume)).resumeThese s.holdable) := task_next h
  have hframe := execResume_only (x := .all) hexec
  rw [State.resumeThese_clears hclear] at hexec hframe
  refine ⟨_, hexec, rfl, rfl, fun k => ?_, hframe⟩
  refine (State.sitting_clearHolds s.holdable_nodup (s.startTask (taskCode .resume)) k).trans ?_
  exact if_congr State.mem_holdable rfl rfl

/-! ### The alarm input (R77) -/

/-- An asserted input holds each sitting under way; one already held for it stays as it is. -/
theorem State.sitting_assertAlarm (s : State) (k : Nat) : s.assertAlarm.sitting k =
    if k < Config.sittings ∧ holdPhase (s.sitting k).phase = true then
      { s.sitting k with holds := { (s.sitting k).holds with alarm := true } } else s.sitting k := by
  have htaking := State.sitting_changeSittings ((List.nodup_range (n := Config.sittings)).filter s.takesAlarm)
    (fun r => { r with holds := { r.holds with alarm := true } }) s k
  have hmem : k ∈ (List.range Config.sittings).filter s.takesAlarm
      ↔ (k < Config.sittings ∧ holdPhase (s.sitting k).phase = true) ∧ (s.sitting k).holds.alarm = false := by
    unfold State.takesAlarm
    rw [List.mem_filter, List.mem_range, Bool.and_eq_true, Bool.not_eq_true', and_assoc]
  refine (htaking.trans (if_congr hmem rfl rfl)).trans ?_
  by_cases halarm : (s.sitting k).holds.alarm = true
  · have hsame : { s.sitting k with holds := { (s.sitting k).holds with alarm := true } } = s.sitting k := by
      rw [← halarm]
    rw [hsame, ite_self, ite_self]
  · exact if_congr (and_iff_left (by simpa using halarm)) rfl rfl

theorem alarm_asserted (hon : s.power.power = .on) (hinput : s.hall.alarm = false) :
    ∃ t, exec .alarmAssert s = .next t ∧ t.hall.alarm = true ∧ 0 < (t.notice .alarm).count
      ∧ (∀ k, t.sitting k = if k < Config.sittings ∧ holdPhase (s.sitting k).phase = true then
          { s.sitting k with holds := { (s.sitting k).holds with alarm := true } } else s.sitting k)
      ∧ OnlyChanges [.alarm, .sittings, .bells, .lines, .notices] s t := by
  have hexec : exec .alarmAssert s = .next (s.setAlarm true).assertAlarm := by
    change execAlarmAssert s = _
    unfold execAlarmAssert
    rw [hon, hinput]
    rfl
  have hset := State.setAlarm_only s true (bs := [.alarm, .sittings, .bells, .lines, .notices]) (by decide) (.refl _ _)
  have halarm : (s.setAlarm true).assertAlarm.hall.alarm = true :=
    (State.assertAlarm_only (s.setAlarm true) (List.Subset.refl _) (.refl _ _)).rest .alarm (by decide)
  exact ⟨_, hexec, halarm, State.notice_raise_pos _ _ _, State.sitting_assertAlarm (s.setAlarm true),
    State.assertAlarm_only _ (by decide) hset⟩

/-- Settles O36: each task changes the sittings it names one by one; the alarm input those under way. -/
theorem holdsSetAndCleared : Obligations.HoldsSetAndCleared := by
  unfold Obligations.HoldsSetAndCleared
  refine ⟨fun s => ⟨fun h => ⟨fun k hk hphase => hold_one h hk hphase, hold_all h⟩, fun h =>
    ⟨fun k hk hphase => ⟨resume_one_barred h hk hphase, resume_one h hk hphase⟩, resume_all h⟩⟩,
    fun s => ⟨alarm_asserted, rfl⟩⟩

end Sys2Proof.Machine

namespace Sys2Proof.Machine

variable {s t u : State} {p k j : Nat} {e e' : Entry} {P : Entry → Prop}

/-! ### Operations that disturb neither the course of a sitting nor the standing of an entry -/

/-- What the hall second reads and writes of a sitting (R65–R70). -/
def Sitting.course (r : Sitting) : Phase × Definition × Nat × Nat × Holds :=
  (r.phase, r.defn, r.readingLeft, r.elapsed, r.holds)

/-- Who an entry is and how far its candidate, its clock and its script have come. -/
def Entry.standing (e : Entry) : (Nat × Nat × Nat) × Presence × ClockPhase × Custody :=
  (identity e, e.presence, e.clock, e.custody)

/-- No sitting's course differs and no entry's standing. -/
structure Undisturbed (s t : State) : Prop where
  course : ∀ k, (t.sitting k).course = (s.sitting k).course
  standing : t.roster.entries.map Entry.standing = s.roster.entries.map Entry.standing

theorem Undisturbed.refl (s : State) : Undisturbed s s := ⟨fun _ => rfl, rfl⟩

theorem Undisturbed.trans (h : Undisturbed s t) (g : Undisturbed t u) : Undisturbed s u :=
  ⟨fun k => (g.course k).trans (h.course k), g.standing.trans h.standing⟩

theorem Undisturbed.ite {c : Prop} [Decidable c] (h : Undisturbed s t) (g : Undisturbed s u) :
    Undisturbed s (if c then t else u) := by split <;> assumption

theorem Undisturbed.foldl {β : Type} {f : State → β → State} (l : List β) (hf : ∀ u x, Undisturbed u (f u x))
    (s : State) : Undisturbed s (l.foldl f s) := by
  induction l generalizing s with
  | nil => exact .refl s
  | cons x l ih => exact (hf s x).trans (ih _)

theorem OnlyChanges.undisturbed {bs : List Part} (h : OnlyChanges bs s t)
    (hb : Part.entries ∉ bs ∧ Part.sittings ∉ bs) : Undisturbed s t :=
  ⟨fun k => by rw [h.sitting hb.2],
    by have hentries : t.roster.entries = s.roster.entries := h.rest .entries hb.1
       rw [hentries]⟩

theorem State.modEntry_undisturbed (s : State) (p : Nat) {f : Entry → Entry} (hf : ∀ e, (f e).standing = e.standing) :
    Undisturbed s (s.modEntry p f) :=
  ⟨fun _ => rfl, by
    unfold State.modEntry
    rw [State.setEntries_roster, List.map_map]
    exact List.map_congr_left fun e _ => by
      dsimp only [Function.comp_apply]
      split
      · exact hf e
      · rfl⟩

theorem State.modSitting_undisturbed (s : State) (k : Nat) {f : Sitting → Sitting}
    (hf : ∀ r, (f r).course = r.course) : Undisturbed s (s.modSitting k f) :=
  ⟨fun j => by
    unfold State.modSitting
    rw [State.sitting_setSitting]
    split
    · next h => rw [hf, h]
    · rfl, rfl⟩

theorem State.count_undisturbed (s : State) (p : Nat) {f : Sitting → Sitting} (hf : ∀ r, (f r).course = r.course) :
    Undisturbed s (s.count p f) := by
  unfold State.count
  split
  · exact State.modSitting_undisturbed s _ hf
  · exact .refl s

theorem State.setSeat_undisturbed (s : State) (d : Nat) (v : Seat) : Undisturbed s (s.setSeat d v) :=
  ⟨fun _ => rfl, rfl⟩

theorem State.retryStranded_undisturbed (s : State) (d : Nat) : Undisturbed s (s.retryStranded d) :=
  (State.retryStranded_only s d (List.Subset.refl _) (.refl _ _)).undisturbed (by decide)

theorem State.requestRelease_undisturbed (s : State) (d : Nat) : Undisturbed s (s.requestRelease d) := by
  unfold State.requestRelease
  split
  · exact .refl s
  · next p _ =>
    have hreleased := ((State.setSeat_undisturbed s d { s.seat d with tenure := .empty }).trans
      (State.modEntry_undisturbed _ p (f := fun e => { e with seat := none }) fun _ => rfl)).trans
      (State.count_undisturbed _ p (f := dropPlaced) fun _ => rfl)
    exact .ite (hreleased.trans ((State.showSeat_only _ _ _ (List.Subset.refl _) (.refl _ _)).undisturbed (by decide)))
      hreleased

theorem State.releaseSeat_undisturbed (s : State) (d : Nat) : Undisturbed s (s.releaseSeat d) :=
  (State.requestRelease_undisturbed s d).trans (State.retryStranded_undisturbed _ d)

theorem State.releaseHeld_undisturbed (s : State) (p : Nat) : Undisturbed s (s.releaseHeld p) := by
  unfold State.releaseHeld
  split
  · split
    · exact State.releaseSeat_undisturbed s _
    · exact .refl s
  · exact .refl s

theorem State.releaseVacated_undisturbed (s : State) (p : Nat) : Undisturbed s (s.releaseVacated p) := by
  unfold State.releaseVacated
  split
  · split
    · exact State.releaseSeat_undisturbed s _
    · exact .refl s
  · exact .refl s

/-- The end of an offer writes the offer of its offeree's entry alone (R24, R53, R55). -/
theorem State.dropOffer_cancel_undisturbed (s : State) (d : Nat) :
    Undisturbed s (((s.dropOffer d).requestCancel d).removeOffer d) := by
  refine .trans ?_ ((State.removeOffer_only _ d (List.Subset.refl _) (.refl _ _)).undisturbed (by decide))
  refine .trans ((State.dropOffer_only s d (List.Subset.refl _) (.refl _ _)).undisturbed (by decide)) ?_
  unfold State.requestCancel
  split
  · exact (State.setSeat_undisturbed _ _ _).trans (State.modEntry_undisturbed _ _ fun _ => rfl)
  · exact .refl _

theorem State.withdrawOffer_undisturbed (s : State) (d n : Nat) : Undisturbed s (s.withdrawOffer d n) :=
  (State.withdrawOffer_only s d n (List.Subset.refl _) (.refl _ _)).undisturbed (by decide)

theorem State.failOffer_undisturbed (s : State) (o : Offer) (tell : Bool) : Undisturbed s (s.failOffer o tell) := by
  unfold State.failOffer
  refine .trans (.trans (State.dropOffer_cancel_undisturbed s o.seat) (.ite ?_ (.refl _)))
    (.trans ((State.returnCandidate_only _ o (List.Subset.refl _) (.refl _ _)).undisturbed (by decide))
      (State.retryStranded_undisturbed _ _))
  split
  · exact State.withdrawOffer_undisturbed _ _ _
  · exact .refl _

theorem State.cancelOffer_undisturbed (s : State) (o : Offer) : Undisturbed s (s.cancelOffer o) := by
  unfold State.cancelOffer
  refine .trans (.trans (State.dropOffer_cancel_undisturbed s o.seat) (.ite ?_ (.refl _)))
    (.trans (.ite ((State.passOver_only _ (List.Subset.refl _) (.refl _ _)).undisturbed (by decide)) (.refl _))
      (State.retryStranded_undisturbed _ _))
  split
  · exact State.withdrawOffer_undisturbed _ _ _
  · exact .refl _

theorem State.endNeed_undisturbed (s : State) (p : Nat) : Undisturbed s (s.endNeed p) := by
  unfold State.endNeed
  refine .trans ?_ (((State.leaveReseat_only _ p (List.Subset.refl _) (.refl _ _)).undisturbed (by decide)).trans
    ((State.leaveRetry_only _ p (List.Subset.refl _) (.refl _ _)).undisturbed (by decide)))
  split
  · exact State.cancelOffer_undisturbed _ _
  · exact .refl s

theorem State.raise_undisturbed (s : State) (n : NoticeKind) (x : Subject) : Undisturbed s (s.raise n x) :=
  (State.raise_only s n x (List.Subset.refl _) (.refl _ _)).undisturbed (by decide)

theorem State.closeRun_undisturbed (s : State) (r : Run) (a : AllocState) : Undisturbed s (s.closeRun r a) := by
  refine (State.modSitting_undisturbed s r.sitting ?_).trans
    ((State.setRun_only _ none (List.Subset.refl _) (.refl _ _)).undisturbed (by decide))
  exact fun _ => rfl

theorem State.checkRun_undisturbed (s : State) : Undisturbed s s.checkRun := by
  unfold State.checkRun
  split
  · exact .ite ((State.closeRun_undisturbed s _ _).trans (State.raise_undisturbed _ _ _)) (.refl s)
  · exact .refl s

theorem State.queueClock_undisturbed (s : State) (p : Nat) (b : Bool) : Undisturbed s (s.queueClock p b) :=
  (State.queueClock_only s p b (List.Subset.refl _) (.refl _ _)).undisturbed (by decide)

theorem State.fireWarnings_undisturbed (s : State) (p : Nat) : Undisturbed s (s.fireWarnings p) := by
  have told (v : State) (x : Entry) (m : Nat) : Undisturbed v (v.queueWarn x m) :=
    (State.queueWarn_only v x m (List.Subset.refl _) (.refl _ _)).undisturbed (by decide)
  have flag1 (v : State) : Undisturbed v (v.modEntry p fun e => { e with warned1 := true }) :=
    State.modEntry_undisturbed v p fun _ => rfl
  have flag2 (v : State) : Undisturbed v (v.modEntry p fun e => { e with warned2 := true }) :=
    State.modEntry_undisturbed v p fun _ => rfl
  unfold State.fireWarnings
  split
  · refine .ite (.trans (.ite ((flag1 s).trans (told _ _ _)) (.refl s)) (.ite ((flag2 _).trans (told _ _ _)) (.refl _)))
      (.refl s)
  · exact .refl s

theorem State.requestVacate_undisturbed (s : State) (d : Nat) : Undisturbed s (s.requestVacate d) :=
  (State.requestVacate_only s d (List.Subset.refl _) (.refl _ _)).undisturbed (by decide)

theorem State.failDeadline_undisturbed (s : State) (d : Nat) : Undisturbed s (s.failDeadline d) := by
  unfold State.failDeadline
  split
  · exact State.failOffer_undisturbed _ _ _
  · exact .refl s

theorem State.takeOffers_undisturbed (s : State) : Undisturbed s s.takeOffers :=
  ((State.setOffers_only s _ (List.Subset.refl _) (.refl _ _)).undisturbed (by decide)).trans
    (.foldl _ State.failDeadline_undisturbed _)

theorem State.endRest_undisturbed (s : State) (p : Nat) : Undisturbed s (s.endRest p) :=
  (State.modEntry_undisturbed s p (f := fun e => { e with resting := false }) fun _ => rfl).trans
    (State.queueClock_undisturbed _ p true)

/-! ### What every entry of a list of slots comes to -/

/-- Every entry stays who it is; what meets `P` still does, and so does now what stands in a slot of `l`. -/
def Reaches (P : Entry → Prop) (l : List Nat) (s t : State) : Prop :=
  List.Forall₂ (fun e e' => identity e' = identity e ∧ (P e ∨ e.slot ∈ l → P e')) s.roster.entries t.roster.entries

/-- A property of an entry that its standing decides. -/
def ofStanding (P : Entry → Prop) : Prop := ∀ e e' : Entry, e'.standing = e.standing → P e → P e'

theorem slot_of_identity (h : identity e' = identity e) : e'.slot = e.slot := congrArg Prod.fst h

theorem Undisturbed.reaches (h : Undisturbed s t) (hP : ofStanding P) : Reaches P [] s t := by
  have hsame : List.Forall₂ (fun e e' => Entry.standing e' = Entry.standing e) s.roster.entries t.roster.entries := by
    have := h.standing
    rw [← List.forall₂_eq_eq_eq, List.forall₂_map_left_iff, List.forall₂_map_right_iff] at this
    exact this.flip
  refine hsame.imp fun e e' hee => ⟨congrArg Prod.fst hee, fun h => ?_⟩
  rcases h with h | h
  · exact hP e e' hee h
  · cases h

theorem Reaches.trans {l m : List Nat} (h : Reaches P l s t) (g : Reaches P m t u) : Reaches P (l ++ m) s u := by
  unfold Reaches at h g ⊢
  generalize s.roster.entries = a at h ⊢
  generalize t.roster.entries = b at h g
  generalize u.roster.entries = c at g ⊢
  induction h generalizing c with
  | nil => cases g; exact .nil
  | cons hab _ ih =>
    cases g with
    | cons hbc g =>
      obtain ⟨hid, hto⟩ := hab
      obtain ⟨hid', hto'⟩ := hbc
      refine .cons ⟨hid'.trans hid, fun hx => ?_⟩ (ih _ g)
      have hslot := slot_of_identity hid
      rw [List.mem_append] at hx
      rcases hx with hx | hx | hx
      · exact hto' (.inl (hto (.inl hx)))
      · exact hto' (.inl (hto (.inr hx)))
      · exact hto' (.inr (by rw [hslot]; exact hx))

theorem Reaches.refl (P : Entry → Prop) (s : State) : Reaches P [] s s :=
  List.forall₂_same.2 fun _ _ => ⟨rfl, fun h => h.resolve_right (by simp)⟩

/-- The entry of a slot brought to `P`. -/
theorem State.modEntry_reaches (s : State) (p : Nat) {f : Entry → Entry} (hf : ∀ e, identity (f e) = identity e)
    (hP : ∀ e, P (f e)) : Reaches P [p] s (s.modEntry p f) := by
  unfold Reaches State.modEntry
  rw [State.setEntries_roster, List.forall₂_map_right_iff]
  refine List.forall₂_same.2 fun e _ => ?_
  split
  · exact ⟨hf e, fun _ => hP e⟩
  · next hne => exact ⟨rfl, fun h => h.resolve_right (by simpa using hne)⟩

/-- The entry of a slot changed without leaving `P`. -/
theorem State.modEntry_keeps (s : State) (p : Nat) {f : Entry → Entry} (hf : ∀ e, identity (f e) = identity e)
    (hP : ∀ e, P e → P (f e)) : Reaches P [] s (s.modEntry p f) := by
  unfold Reaches State.modEntry
  rw [State.setEntries_roster, List.forall₂_map_right_iff]
  refine List.forall₂_same.2 fun e _ => ?_
  split
  · exact ⟨hf e, fun h => hP e (h.resolve_right (by simp))⟩
  · exact ⟨rfl, fun h => h.resolve_right (by simp)⟩

/-- What is brought to `P` slot by slot. -/
theorem Reaches.foldl {f : State → Nat → State} (hf : ∀ u p, Reaches P [p] u (f u p)) (l : List Nat) (s : State) :
    Reaches P l s (l.foldl f s) := by
  induction l generalizing s with
  | nil => exact .refl P s
  | cons p l ih => exact (hf s p).trans (ih _)

/-- Slots that need not come to `P` one after another. -/
theorem Reaches.foldl_keeps {f : State → Nat → State} (hf : ∀ u p, Reaches P [] u (f u p)) (l : List Nat) (s : State) :
    Reaches P [] s (l.foldl f s) := by
  induction l generalizing s with
  | nil => exact .refl P s
  | cons p l ih => exact (hf s p).trans (ih _)

/-- The candidates of a sitting that did not meet `P`, all brought to it. -/
theorem Reaches.all {l : List Nat} (h : Reaches P l s t)
    (hl : ∀ e ∈ s.roster.entries, e.sitting = k → P e ∨ e.slot ∈ l) :
    ∀ e ∈ t.roster.entries, e.sitting = k → P e := by
  intro e he hk
  obtain ⟨i, hi, rfl⟩ := List.mem_iff_getElem.1 he
  have hi' : i < s.roster.entries.length := h.length_eq ▸ hi
  obtain ⟨hid, hto⟩ := h.get hi' hi
  have hsitting : (s.roster.entries.get ⟨i, hi'⟩).sitting = k := by
    rw [← hk]; exact (congrArg (fun x => x.2.2) hid).symm
  exact hto (hl _ (List.get_mem _ _) hsitting)

theorem State.mem_slotsOf_of_mem {f : Entry → Bool} (he : e ∈ s.roster.entries) (hk : e.sitting = k) (hf : f e = true) :
    e.slot ∈ s.slotsOf k f := by
  refine List.mem_map_of_mem (List.mem_filter.2 ⟨List.mem_filter.2 ⟨he, by simpa using hk⟩, hf⟩)

end Sys2Proof.Machine

namespace Sys2Proof.Machine

variable {s t u : State} {p k j : Nat} {e e' : Entry} {P : Entry → Prop}

/-! ### Clocks end and start: no course differs but that of a sitting in OVERTIME -/

/-- The course of sitting `k` stays, but in OVERTIME, where the end of its last clock moves it on (R70). -/
def Calm (k : Nat) (s t : State) : Prop :=
  (s.sitting k).phase ≠ .overtime → (t.sitting k).course = (s.sitting k).course

theorem Undisturbed.calm (h : Undisturbed s t) (k : Nat) : Calm k s t := fun _ => h.course k

theorem Calm.refl (k : Nat) (s : State) : Calm k s s := fun _ => rfl

theorem phase_of_course {r r' : Sitting} (h : r.course = r'.course) : r.phase = r'.phase := congrArg Prod.fst h

theorem Calm.trans (h : Calm k s t) (g : Calm k t u) : Calm k s u := fun hp =>
  (g (by rw [phase_of_course (h hp)]; exact hp)).trans (h hp)

theorem Calm.ite {c : Prop} [Decidable c] (h : Calm k s t) (g : Calm k s u) : Calm k s (if c then t else u) := by
  split <;> assumption

theorem Calm.foldl {β : Type} {f : State → β → State} (l : List β) (hf : ∀ u, ∀ x ∈ l, Calm k u (f u x)) (s : State) :
    Calm k s (l.foldl f s) := by
  induction l generalizing s with
  | nil => exact .refl k s
  | cons x l ih =>
    exact (hf s x List.mem_cons_self).trans (ih (fun u y hy => hf u y (List.mem_cons_of_mem x hy)) _)

theorem State.modEntry_calm (s : State) (p : Nat) (f : Entry → Entry) (k : Nat) : Calm k s (s.modEntry p f) := fun _ => rfl

theorem State.changeSitting_calm_other (s : State) (f : Sitting → Sitting) (h : k ≠ j) : Calm k s (s.changeSitting j f) :=
  fun _ => by rw [State.sitting_changeSitting_other f h]

theorem State.tellEnd_calm (s : State) (p k : Nat) : Calm k s (s.tellEnd p) := by
  unfold State.tellEnd
  split
  · next e _ =>
    unfold State.clockEnded
    split
    · next hover =>
      intro hp
      have hne : k ≠ e.sitting := fun h => by
        rw [h] at hp
        simp only [Bool.and_eq_true, decide_eq_true_eq] at hover
        exact hp hover.1
      exact congrArg Sitting.course (State.sitting_changeSitting_other _ hne)
    · exact .refl k s
  · exact .refl k s

theorem State.finishPresent_calm (s : State) (p k : Nat) : Calm k s (s.finishPresent p) :=
  (State.modEntry_calm s p (fun e => { endClock e with presence := .finished }) k).trans
    ((State.count_undisturbed _ p (f := dropPresent) fun _ => rfl).calm k)

theorem State.handIn_calm (s : State) (p k : Nat) : Calm k s (s.handIn p) :=
  (State.modEntry_calm s p (fun e => { e with custody := .handedIn }) k).trans
    ((State.count_undisturbed _ p (f := addAwaiting) fun _ => rfl).calm k)

theorem State.endPresent_calm (s : State) (p k : Nat) : Calm k s (s.endPresent p) := by
  unfold State.endPresent
  refine .trans (.trans ((State.finishPresent_calm s p k).trans (State.handIn_calm _ p k)) ?_) (State.tellEnd_calm _ p k)
  split
  · exact (State.requestVacate_undisturbed _ _).calm k
  · exact .refl k _

theorem State.endDisplaced_calm (s : State) (p k : Nat) : Calm k s (s.endDisplaced p) :=
  ((((State.finishPresent_calm s p k).trans (State.handIn_calm _ p k)).trans
    (((State.endNeed_undisturbed _ p).trans (State.releaseHeld_undisturbed _ p)).calm k)).trans
      (State.tellEnd_calm _ p k)).trans ((State.checkRun_undisturbed _).calm k)

theorem State.expire_calm (s : State) (p k : Nat) : Calm k s (s.expire p) := by
  unfold State.expire
  split
  · split
    · exact (State.endPresent_calm s p k).trans ((State.queueClock_undisturbed _ p true).calm k)
    · exact State.endDisplaced_calm s p k
    · exact (State.modEntry_calm s p endClock k).trans (State.tellEnd_calm _ p k)
  · exact .refl k s

theorem State.startClock_calm (s : State) (p k : Nat) : Calm k s (s.startClock p) := by
  unfold State.startClock
  dsimp only
  refine .trans (State.modEntry_calm s p (fun e => { e with clock := .running }) k) ?_
  split
  · exact .ite (State.expire_calm _ p k) (((State.fireWarnings_undisturbed _ p).calm k).trans
      (.ite ((State.queueClock_undisturbed _ p true).calm k) (.refl k _)))
  · exact .refl k _

theorem State.startClocks_calm (s : State) (j k : Nat) : Calm k s (s.startClocks j) :=
  .foldl _ (fun u p _ => State.startClock_calm u p k) s

theorem State.takeClock_calm (s : State) (n k : Nat) : Calm k s (s.takeClock n) := by
  unfold State.takeClock
  split
  · exact .refl k s
  · next e _ =>
    split
    · exact .refl k s
    · exact (State.modEntry_calm s e.slot (fun e => { e with restUsed := e.restUsed + 1 }) k).trans
        (.ite ((State.endRest_undisturbed _ _).calm k) (.refl k _))
    · exact (State.modEntry_calm s e.slot (fun e => { e with used := e.used + 1 }) k).trans
        (.ite (State.expire_calm _ _ k) (.ite ((State.fireWarnings_undisturbed _ _).calm k)
          (.ite ((State.queueClock_undisturbed _ _ false).calm k) (.refl k _))))

/-- The absences of a sitting write no course (R90). -/
theorem State.makeAbsent_course (s : State) (p k : Nat) : ((s.makeAbsent p).sitting k).course = (s.sitting k).course :=
  ((State.releaseHeld_undisturbed (s.modEntry p fun e => { endClock e with presence := .absent }) p).trans
    (State.endNeed_undisturbed _ p)).course k

theorem State.absences_course (s : State) (j k : Nat) : ((s.absences j).sitting k).course = (s.sitting k).course := by
  have hfold (l : List Nat) : ((l.foldl State.makeAbsent s).sitting k).course = (s.sitting k).course :=
    List.foldlRecOn (motive := fun u : State => (u.sitting k).course = (s.sitting k).course) l _ rfl
      fun u hu p _ => (State.makeAbsent_course u p k).trans hu
  exact ((State.checkRun_undisturbed _).course k).trans (hfold _)

/-! ### Clocks that start, and candidates that stay away (R87, R90) -/

/-- The clock has started: it is no longer WAITING (R87). -/
def Entry.started (e : Entry) : Prop := e.clock ≠ .waiting

/-- The candidate is expected no longer (R88, R90). -/
def Entry.settled (e : Entry) : Prop := e.presence ≠ .expected

theorem started_ofStanding : ofStanding Entry.started := fun e e' h hs => by
  have hclock : e'.clock = e.clock := congrArg (fun x => x.2.2.1) h
  unfold Entry.started; rw [hclock]; exact hs

theorem settled_ofStanding : ofStanding Entry.settled := fun e e' h hs => by
  have hpresence : e'.presence = e.presence := congrArg (fun x => x.2.1) h
  unfold Entry.settled; rw [hpresence]; exact hs

theorem started_endClock (e : Entry) : (endClock e).started := by simp [Entry.started, endClock]

theorem Reaches.of_entries (h : t.roster.entries = s.roster.entries) : Reaches P [] s t := by
  unfold Reaches; rw [h]; exact Reaches.refl P s

theorem State.tellEnd_reaches (s : State) (p : Nat) : Reaches P [] s (s.tellEnd p) :=
  .of_entries ((State.tellEnd_only s p (List.Subset.refl _) (.refl _ _)).rest .entries (by decide))

/-- The finish of a candidate ends its clock (R92, R93). -/
theorem State.finish_handIn_reaches (s : State) (p : Nat) :
    Reaches Entry.started [] s ((s.finishPresent p).handIn p) :=
  (((State.modEntry_keeps s p (f := fun e => { endClock e with presence := .finished }) (fun _ => rfl)
      fun e _ => started_endClock e).trans
    ((State.count_undisturbed _ p (f := dropPresent) fun _ => rfl).reaches started_ofStanding)).trans
    (State.modEntry_keeps _ p (f := fun e => { e with custody := .handedIn }) (fun _ => rfl) fun _ => id)).trans
    ((State.count_undisturbed _ p (f := addAwaiting) fun _ => rfl).reaches started_ofStanding)

theorem State.expire_reaches (s : State) (p : Nat) : Reaches Entry.started [] s (s.expire p) := by
  have hfinish := State.finish_handIn_reaches s p
  unfold State.expire
  split
  · split
    · have hvacate : Reaches Entry.started [] ((s.finishPresent p).handIn p)
          (match (((s.finishPresent p).handIn p).entry? p).bind Entry.seat with
            | some d => ((s.finishPresent p).handIn p).requestVacate d
            | none => (s.finishPresent p).handIn p) := by
        split
        · exact (State.requestVacate_undisturbed _ _).reaches started_ofStanding
        · exact .refl _ _
      exact ((hfinish.trans hvacate).trans (State.tellEnd_reaches _ p)).trans
        ((State.queueClock_undisturbed _ p true).reaches started_ofStanding)
    · exact ((hfinish.trans (((State.endNeed_undisturbed _ p).trans (State.releaseHeld_undisturbed _ p)).reaches
        started_ofStanding)).trans (State.tellEnd_reaches _ p)).trans
          ((State.checkRun_undisturbed _).reaches started_ofStanding)
    · exact (State.modEntry_keeps s p (f := endClock) (fun _ => rfl) fun e _ => started_endClock e).trans
        (State.tellEnd_reaches _ p)
  · exact .refl _ s

theorem State.startClock_reaches (s : State) (p : Nat) : Reaches Entry.started [p] s (s.startClock p) := by
  have hrun := State.modEntry_reaches s p (P := Entry.started) (f := fun e => { e with clock := .running }) (fun _ => rfl)
    fun e => by simp [Entry.started]
  unfold State.startClock
  dsimp only
  split
  · split
    · exact hrun.trans (State.expire_reaches _ p)
    · refine hrun.trans (Undisturbed.reaches ?_ started_ofStanding)
      exact (State.fireWarnings_undisturbed _ p).trans (.ite (State.queueClock_undisturbed _ p true) (.refl _))
  · exact hrun

/-- READING's end leaves no clock of the sitting WAITING (R87). -/
theorem State.startClocks_started (s : State) (k : Nat) :
    ∀ e ∈ (s.startClocks k).roster.entries, e.sitting = k → e.clock ≠ .waiting :=
  (Reaches.foldl State.startClock_reaches _ s).all fun e he hk => by
    by_cases hw : e.clock = .waiting
    · exact .inr (State.mem_slotsOf_of_mem he hk (by simpa using hw))
    · exact .inl hw

/-- What brings the entry of a slot to ABSENT brings it to any property that an absent one has (R90). -/
theorem State.makeAbsent_reaches {l : List Nat} (hP : ofStanding P)
    (hmod : Reaches P l s (s.modEntry p fun e => { endClock e with presence := .absent })) :
    Reaches P l s (s.makeAbsent p) := by
  have hrest := hmod.trans (((State.releaseHeld_undisturbed _ p).trans (State.endNeed_undisturbed _ p)).reaches hP)
  rw [List.append_nil] at hrest
  exact hrest

/-- At the late limit no candidate of the sitting stays EXPECTED (R90). -/
theorem State.absences_settled (s : State) (k : Nat) :
    ∀ e ∈ (s.absences k).roster.entries, e.sitting = k → e.presence ≠ .expected := by
  have hfold := Reaches.foldl (P := Entry.settled) (f := State.makeAbsent) (fun u p =>
    State.makeAbsent_reaches settled_ofStanding (State.modEntry_reaches u p
      (f := fun e => { endClock e with presence := .absent }) (fun _ => rfl) fun e => by simp [Entry.settled]))
    (s.slotsOf k fun e => decide (e.presence = .expected)) s
  exact (hfold.trans ((State.checkRun_undisturbed _).reaches settled_ofStanding)).all fun e he hk => by
    by_cases hx : e.presence = .expected
    · exact .inr (List.mem_append_left _ (State.mem_slotsOf_of_mem he hk (by simpa using hx)))
    · exact .inl hx

/-- The absences of a sitting leave no clock WAITING that was not (R90). -/
theorem State.absences_started (s : State) (k : Nat) : Reaches Entry.started [] s (s.absences k) :=
  (Reaches.foldl_keeps (fun u p => State.makeAbsent_reaches started_ofStanding
    (State.modEntry_keeps u p (f := fun e => { endClock e with presence := .absent }) (fun _ => rfl)
      fun e _ => started_endClock e)) _ s).trans ((State.checkRun_undisturbed _).reaches started_ofStanding)

/-! ### READING, WRITING and the phases after (R67–R70) -/

/-- WRITING is entered with elapsed 0 and no clock of the sitting WAITING (R67, R87). -/
theorem State.enterWriting_enters (s : State) (k : Nat) :
    ((s.enterWriting k).sitting k).phase = .writing ∧ ((s.enterWriting k).sitting k).elapsed = 0
      ∧ ∀ e ∈ (s.enterWriting k).roster.entries, e.sitting = k → e.clock ≠ .waiting := by
  have hentered : (s.changeSitting k fun r => { r with phase := .writing, elapsed := 0 }).sitting k
      = { s.sitting k with phase := .writing, elapsed := 0 } := State.sitting_changeSitting_same s k _
  have hclocks : (((s.changeSitting k fun r => { r with phase := .writing, elapsed := 0 }).startClocks k).sitting k).course
      = (writingEntered (s.sitting k)).course := by
    rw [State.startClocks_calm _ k k (by rw [hentered]; simp), hentered]; rfl
  have hstarted := State.startClocks_started (s.changeSitting k fun r => { r with phase := .writing, elapsed := 0 }) k
  have done {v : State} (hv : (v.sitting k).course = (writingEntered (s.sitting k)).course) :
      (v.sitting k).phase = .writing ∧ (v.sitting k).elapsed = 0 :=
    ⟨phase_of_course hv, congrArg (fun x => x.2.2.2.1) hv⟩
  unfold State.enterWriting
  dsimp only
  split
  · obtain ⟨hphase, helapsed⟩ := done ((State.absences_course _ k k).trans hclocks)
    exact ⟨hphase, helapsed, (State.absences_started _ k).all fun e he hk => .inl (hstarted e he hk)⟩
  · obtain ⟨hphase, helapsed⟩ := done hclocks
    exact ⟨hphase, helapsed, hstarted⟩

/-- A sitting that starts goes to READING with all of it left, or to WRITING (R67). -/
theorem State.sittingStart_starts (s : State) (k : Nat) : s.Started (s.sittingStart k) k := by
  unfold State.Started State.sittingStart
  refine ⟨fun hreading => ?_, fun hnone => ?_⟩
  · rw [if_pos hreading]
    have hrecord := State.sitting_changeSitting_same s k fun r => { r with phase := .reading, readingLeft := r.defn.reading }
    exact ⟨congrArg Sitting.phase hrecord, congrArg Sitting.readingLeft hrecord, State.entries_changeSitting s k _⟩
  · rw [if_neg (by omega)]
    exact State.enterWriting_enters s k

/-- Another sitting's second leaves a sitting's course (R69, R70). -/
theorem State.enterWriting_calm_other (s : State) (h : k ≠ j) : Calm k s (s.enterWriting j) := by
  have hclocks := (State.changeSitting_calm_other s (fun r => { r with phase := .writing, elapsed := 0 }) h).trans
    (State.startClocks_calm _ j k)
  exact .ite (hclocks.trans fun _ => State.absences_course _ j k) hclocks

theorem State.sittingStart_calm_other (s : State) (h : k ≠ j) : Calm k s (s.sittingStart j) :=
  .ite (State.changeSitting_calm_other s _ h) (State.enterWriting_calm_other s h)

theorem State.modSitting_calm_other (s : State) (f : Sitting → Sitting) (h : k ≠ j) : Calm k s (s.modSitting j f) :=
  fun _ => congrArg Sitting.course ((State.sitting_setSitting (s := s) j _ k).trans (if_neg h))

theorem State.countReading_calm_other (s : State) (h : k ≠ j) : Calm k s (s.countReading j) := by
  have hcount := State.modSitting_calm_other s (fun r => { r with readingLeft := r.readingLeft - 1 }) h
  exact .ite (hcount.trans (State.enterWriting_calm_other _ h)) hcount

theorem State.countWriting_calm_other (s : State) (h : k ≠ j) : Calm k s (s.countWriting j) := by
  unfold State.countWriting
  dsimp only
  generalize min Config.lastSecond ((s.sitting j).elapsed + 1) = n
  have helapsed := State.modSitting_calm_other s (fun r => { r with elapsed := n }) h
  generalize hv : (if (s.sitting j).elapsed < n && decide (n = (s.sitting j).defn.lateLimit) then
      (s.modSitting j fun r => { r with elapsed := n }).absences j else s.modSitting j fun r => { r with elapsed := n }) = v
  have hpast : Calm k s v := by
    subst hv
    exact .ite (helapsed.trans fun _ => State.absences_course _ j k) helapsed
  exact .ite (.ite (hpast.trans (State.changeSitting_calm_other v _ h)) (hpast.trans (State.changeSitting_calm_other v _ h)))
    hpast

theorem State.takeSitting_calm_other (s : State) (h : k ≠ j) : Calm k s (s.takeSitting j) := by
  have hopen : Calm k s (s.enterOpen j) := State.changeSitting_calm_other s _ h
  unfold State.takeSitting
  split
  · exact .ite (.ite (hopen.trans (State.sittingStart_calm_other _ h)) hopen) (.refl k s)
  · exact .ite (State.sittingStart_calm_other s h) (.refl k s)
  · exact .ite (.refl k s) (State.countReading_calm_other s h)
  · exact .ite (.refl k s) (State.countWriting_calm_other s h)
  · exact .ite (.refl k s) (State.countWriting_calm_other s h)
  · exact .refl k s

/-- No item of the second but its own disturbs the course of a sitting that is not in OVERTIME. -/
theorem State.take_calm (s : State) {i : HallItem} (h : i ≠ .sitting k) : Calm k s (s.take i) := by
  cases i with
  | lockout =>
    exact ((State.takeLockout_only s (List.Subset.refl _) (.refl _ _)).undisturbed (by decide)).calm k
  | offers => exact (State.takeOffers_undisturbed s).calm k
  | clock n => exact State.takeClock_calm s n k
  | bell o => exact ((State.takeBell_only s o (List.Subset.refl _) (.refl _ _)).undisturbed (by decide)).calm k
  | sitting j => exact State.takeSitting_calm_other s fun hk => h (by rw [hk])

end Sys2Proof.Machine

namespace Sys2Proof.Machine

variable {s t u : State} {k j : Nat} {i : HallItem} {r : Sitting}

/-! ### A change of phase raises its notice (R79, R98) -/

theorem State.notice_queueClock (s : State) (p : Nat) (b : Bool) {n : NoticeKind} (hn : n ≠ .queueDrop) :
    (s.queueClock p b).notice n = s.notice n := by
  unfold State.queueClock
  split
  · rfl
  · split
    · rfl
    · split
      · exact State.notice_hand _ _ _ _ _ hn
      · rfl

theorem State.notice_clockHoldUpdate (s : State) (k : Nat) {n : NoticeKind} (hn : n ≠ .queueDrop) :
    (s.clockHoldUpdate k).notice n = s.notice n := by
  refine List.foldlRecOn (motive := fun u : State => u.notice n = s.notice n) _ _ rfl fun u hu d _ => ?_
  split
  · exact (State.notice_queueClock u _ _ hn).trans hu
  · exact hu

theorem State.notice_ringBells (s : State) (k : Nat) (n : NoticeKind) : (s.ringBells k).notice n = s.notice n := by
  have hnotices : (s.ringBells k).port.notices = s.port.notices :=
    (State.ringBells_only s k (List.Subset.refl _) (.refl _ _)).rest .notices (by decide)
  unfold State.notice; rw [hnotices]

theorem State.notice_changeSitting_phase (s : State) (k : Nat) {f : Sitting → Sitting}
    (h : (s.sitting k).phase ≠ (f (s.sitting k)).phase) : 0 < ((s.changeSitting k f).notice .phase).count := by
  have keep {c : Prop} [Decidable c] {v w : State} (hv : 0 < (v.notice .phase).count)
      (hw : w.notice .phase = v.notice .phase) : 0 < ((if c then w else v).notice .phase).count := by
    split
    · rw [hw]; exact hv
    · exact hv
  unfold State.changeSitting
  dsimp only
  refine keep (keep ?_ (State.notice_raise_other _ (by decide) _)) (State.notice_clockHoldUpdate _ _ (by decide))
  rw [if_pos (by simpa using h), State.notice_ringBells]
  exact State.notice_raise_pos _ _ _

/-! ### An event that comes at the owed second -/

theorem State.whileOn_on (h : s.power.power = .on) (body : State → State) : s.whileOn body = body s := by
  unfold State.whileOn; rw [h]

/-- An event of an item that owes its second, at what the item reaches with it. -/
theorem reach_event {b : State → Bool} (hon : s.power.power = .on) (howes : s.owes i = true) (hb : b s = true) :
    (Host.Outcome.next (s.whileOn fun s => s.reach i (b s)) : Result) = .next ((s.settled i).take i) := by
  rw [State.whileOn_on hon]
  unfold State.reach
  rw [howes, hb]; rfl

theorem State.owes_settled (s : State) (i : HallItem) : (s.settled i).owes i = false := by
  unfold State.owes State.settled State.setOwed
  simp

/-- What an item's second writes is not what is owed. -/
theorem State.owed_take (s : State) (i : HallItem) : (s.take i).hall.owed = s.hall.owed :=
  (State.take_only s i (List.Subset.refl _) (.refl _ _)).rest .owed (by decide)

theorem State.owes_settled_take (s : State) (i : HallItem) : ((s.settled i).take i).owes i = false := by
  unfold State.owes
  rw [State.owed_take]
  exact State.owes_settled s i

theorem isHeld_none {h : Holds} (hh : h = {}) : isHeld h = false := by rw [hh]; rfl

theorem State.due_of {v : Nat} {o : Option Nat} (ho : o = some v) (hset : s.hall.timeSet = true) (hv : v ≤ s.hall.time) :
    s.due o = true := by
  unfold State.due
  rw [ho, hset]
  simpa using hv

/-! ### A sitting opens and starts (R65–R68) -/

theorem State.sitting_enterOpen (s : State) (k j : Nat) : (s.enterOpen k).sitting j =
    if j = k then { s.sitting k with phase := .opened, holds := { (s.sitting k).holds with
      alarm := (s.sitting k).holds.alarm || s.hall.alarm } } else s.sitting j :=
  State.sitting_changeSitting s k _ j

theorem openNow_opens (hk : k < Config.sittings) (h : s.Ready .openNow) (hphase : (s.sitting k).phase = .defined) :
    ∃ t, exec (.openNow k) s = .next t ∧ t.Answered .ok false (.phase .opened)
      ∧ t.sitting k = { s.sitting k with phase := .opened, holds := { (s.sitting k).holds with
          alarm := (s.sitting k).holds.alarm || s.hall.alarm } }
      ∧ (∀ j, j ≠ k → t.sitting j = s.sitting j) ∧ 0 < (t.notice .phase).count
      ∧ OnlyChanges (mayChange (.openNow k)) s t := by
  have hphase' : ((s.startTask (taskCode .openNow)).sitting k).phase = .defined := hphase
  have hsitting := State.sitting_enterOpen (s.startTask (taskCode .openNow)) k
  have hopened : (((s.startTask (taskCode .openNow)).enterOpen k).sitting k).phase = .opened := by
    rw [hsitting, if_pos rfl]
  have hexec : exec (.openNow k) s
      = .next (((s.startTask (taskCode .openNow)).enterOpen k).finishTask .ok false (.phase .opened)) := by
    refine (task_next h).trans ?_
    dsimp only
    rw [not_badSitting hk, hphase', hopened]
    rfl
  have hframe : OnlyChanges [.sittings, .bells, .lines, .notices] (s.startTask (taskCode .openNow))
      ((s.startTask (taskCode .openNow)).enterOpen k) :=
    State.changeSitting_only _ k _ (List.Subset.refl _) (.refl _ _)
  refine ⟨_, hexec, State.finishTask_answered hframe (by decide) _ _ _, (hsitting k).trans (if_pos rfl),
    fun j hj => (hsitting j).trans (if_neg hj), ?_, execOpenNow_only hexec⟩
  exact State.notice_changeSitting_phase (s.startTask (taskCode .openNow)) k (by rw [hphase']; simp)

theorem openNow_starts (hk : k < Config.sittings) (h : s.Ready .openNow) (hphase : (s.sitting k).phase = .opened)
    (hholds : (s.sitting k).holds = {}) :
    ∃ t, exec (.openNow k) s = .next t ∧ t.port.running = none ∧ t.port.result.code = .ok
      ∧ s.Started t k ∧ OnlyChanges (mayChange (.openNow k)) s t := by
  have hphase' : ((s.startTask (taskCode .openNow)).sitting k).phase = .opened := hphase
  have hheld : isHeld ((s.startTask (taskCode .openNow)).sitting k).holds = false := isHeld_none hholds
  have hstarted := State.sittingStart_starts (s.startTask (taskCode .openNow)) k
  have hexec : exec (.openNow k) s
      = .next (((s.startTask (taskCode .openNow)).sittingStart k).finishTask .ok false
        (.phase (((s.startTask (taskCode .openNow)).sittingStart k).sitting k).phase)) := by
    refine (task_next h).trans ?_
    dsimp only
    rw [not_badSitting hk, hphase', hheld]
    rfl
  exact ⟨_, hexec, rfl, rfl, hstarted, execOpenNow_only hexec⟩

theorem openTime_opens (hon : s.power.power = .on) (howes : s.owes (.sitting k) = true)
    (hphase : (s.sitting k).phase = .defined) {v : Nat} (hopen : (s.sitting k).defn.openTime = some v)
    (hset : s.hall.timeSet = true) (hv : v ≤ s.hall.time) :
    ∃ t, exec (.openTime k) s = .next t ∧ (t.sitting k).phase = .opened
      ∧ (t.sitting k).holds.alarm = ((s.sitting k).holds.alarm || s.hall.alarm)
      ∧ (∀ j, j ≠ k → t.sitting j = s.sitting j) ∧ t.roster = s.roster
      ∧ OnlyChanges (mayChange (.openTime k)) s t := by
  have hopens : s.opensNow k = true := by
    unfold State.opensNow
    rw [hphase, State.due_of hopen hset hv]; rfl
  have hexec : exec (.openTime k) s = .next (if (s.enterOpen k).startsNow k then s.enterOpen k
      else (s.enterOpen k).settled (.sitting k)) := by
    change Host.Outcome.next (s.whileOn _) = _
    rw [State.whileOn_on hon]
    dsimp only
    rw [howes, hopens]; rfl
  have hsitting (j : Nat) : State.sitting (if (s.enterOpen k).startsNow k then s.enterOpen k
      else (s.enterOpen k).settled (.sitting k)) j = (s.enterOpen k).sitting j := by split <;> rfl
  have hroster : State.roster (if (s.enterOpen k).startsNow k then s.enterOpen k
      else (s.enterOpen k).settled (.sitting k)) = (s.enterOpen k).roster := by split <;> rfl
  have htells := State.changeSitting_tells s k fun r =>
    { r with phase := .opened, holds := { r.holds with alarm := r.holds.alarm || s.hall.alarm } }
  refine ⟨_, hexec, ?_, ?_, fun j hj => ?_, ?_, execOpenTime_only hexec⟩
  · rw [hsitting, State.sitting_enterOpen, if_pos rfl]
  · rw [hsitting, State.sitting_enterOpen, if_pos rfl]
  · rw [hsitting, State.sitting_enterOpen, if_neg hj]
  · exact hroster.trans (roster_eq (htells.rest .entries (by decide)) (htells.rest .tags (by decide)))

theorem startTime_starts (hon : s.power.power = .on) (howes : s.owes (.sitting k) = true)
    (hphase : (s.sitting k).phase = .opened) (hholds : (s.sitting k).holds = {}) {v : Nat}
    (hstart : (s.sitting k).defn.startTime = some v) (hset : s.hall.timeSet = true) (hv : v ≤ s.hall.time) :
    ∃ t, exec (.startTime k) s = .next t ∧ s.Started t k ∧ t.owes (.sitting k) = false
      ∧ OnlyChanges (mayChange (.startTime k)) s t := by
  have hstarts : s.startsNow k = true := by
    unfold State.startsNow
    rw [hphase, State.due_of hstart hset hv, isHeld_none hholds]; rfl
  have hexec : exec (.startTime k) s = .next ((s.settled (.sitting k)).take (.sitting k)) :=
    reach_event (b := fun s => s.startsNow k) hon howes hstarts
  have htake : (s.settled (.sitting k)).take (.sitting k) = (s.settled (.sitting k)).sittingStart k := by
    have hphase' : ((s.settled (.sitting k)).sitting k).phase = .opened := hphase
    have hstarts' : (s.settled (.sitting k)).startsNow k = true := hstarts
    change State.takeSitting _ k = _
    unfold State.takeSitting
    rw [hphase']
    exact if_pos hstarts'
  have hstarted := State.sittingStart_starts (s.settled (.sitting k)) k
  rw [← htake] at hstarted
  exact ⟨_, hexec, hstarted, State.owes_settled_take s _, sitting_frame hexec⟩

/-- Settles O35: opening writes the record, starting enters READING or WRITING, by the task or at the owed second. -/
theorem sittingsOpenAndStart : Obligations.SittingsOpenAndStart := by
  unfold Obligations.SittingsOpenAndStart
  intro s k hk _
  exact ⟨openNow_opens hk, openNow_starts hk,
    fun hon howes hphase v hopen hset hv => openTime_opens hon howes hphase hopen hset hv,
    fun hon howes hphase hholds v hstart hset hv => startTime_starts hon howes hphase hholds hstart hset hv⟩

end Sys2Proof.Machine

namespace Sys2Proof.Machine

variable {s t u : State} {k j : Nat} {i : HallItem} {r : Sitting}

/-! ### A second of a sitting's course (R69, R70) -/

theorem State.sitting_modSitting_same (s : State) (k : Nat) (f : Sitting → Sitting) :
    (s.modSitting k f).sitting k = f (s.sitting k) := (State.sitting_setSitting (s := s) k _ k).trans (if_pos rfl)

/-- The last second of reading enters WRITING (R69). -/
theorem State.countReading_ends (h : (s.sitting k).readingLeft ≤ 1) :
    ((s.countReading k).sitting k).phase = .writing ∧ ((s.countReading k).sitting k).elapsed = 0
      ∧ ∀ e ∈ (s.countReading k).roster.entries, e.sitting = k → e.clock ≠ .waiting := by
  have hzero : ((s.modSitting k fun r => { r with readingLeft := r.readingLeft - 1 }).sitting k).readingLeft = 0 := by
    rw [State.sitting_modSitting_same]; exact Nat.sub_eq_zero_of_le h
  unfold State.countReading
  dsimp only
  rw [if_pos hzero]
  exact State.enterWriting_enters _ k

/-- Any other second of reading counts down (R69). -/
theorem State.countReading_counts (h : 1 < (s.sitting k).readingLeft) :
    (s.countReading k).sitting k = { s.sitting k with readingLeft := (s.sitting k).readingLeft - 1 } := by
  have hcount := State.sitting_modSitting_same s k fun r => { r with readingLeft := r.readingLeft - 1 }
  have hleft : ((s.modSitting k fun r => { r with readingLeft := r.readingLeft - 1 }).sitting k).readingLeft ≠ 0 := by
    rw [hcount]; exact Nat.sub_ne_zero_of_lt h
  unfold State.countReading
  dsimp only
  rw [if_neg hleft, hcount]

theorem State.takeSitting_reading (hphase : (s.sitting k).phase = .reading) (hholds : (s.sitting k).holds = {}) :
    s.takeSitting k = s.countReading k := by
  unfold State.takeSitting
  rw [hphase]
  exact if_neg (by rw [isHeld_none hholds]; simp)

theorem State.takeSitting_writing (hphase : (s.sitting k).phase = .writing ∨ (s.sitting k).phase = .overtime)
    (hholds : (s.sitting k).holds = {}) : s.takeSitting k = s.countWriting k := by
  have hheld : ¬ isHeld (s.sitting k).holds = true := by rw [isHeld_none hholds]; simp
  unfold State.takeSitting
  rcases hphase with hphase | hphase <;> rw [hphase] <;> exact if_neg hheld

/-- Writing elapsed counted, with the absences of the late limit (R69, R90): before the end of writing is tested. -/
def State.elapsedCounted (s : State) (k n : Nat) : State :=
  if (s.sitting k).elapsed < n && decide (n = (s.sitting k).defn.lateLimit) then
    (s.modSitting k fun r => { r with elapsed := n }).absences k
  else s.modSitting k fun r => { r with elapsed := n }

theorem State.elapsedCounted_course (s : State) (k n : Nat) :
    ((s.elapsedCounted k n).sitting k).course = Sitting.course { s.sitting k with elapsed := n } := by
  have hset := congrArg Sitting.course (State.sitting_modSitting_same s k fun r => { r with elapsed := n })
  unfold State.elapsedCounted
  split
  · exact (State.absences_course _ k k).trans hset
  · exact hset

theorem State.elapsedCounted_late {n : Nat} (hlate : n = (s.sitting k).defn.lateLimit)
    (hn : (s.sitting k).elapsed < n) :
    ∀ e ∈ (s.elapsedCounted k n).roster.entries, e.sitting = k → e.presence ≠ .expected := by
  unfold State.elapsedCounted
  rw [if_pos (Bool.and_eq_true _ _ ▸ ⟨decide_eq_true hn, decide_eq_true hlate⟩)]
  exact State.absences_settled _ k

/-- The second of WRITING and OVERTIME, with the end of writing (R69, R70). -/
theorem State.countWriting_eq (h : (s.sitting k).elapsed + 1 ≤ Config.lastSecond) : s.countWriting k =
    if ((s.elapsedCounted k ((s.sitting k).elapsed + 1)).sitting k).phase = .writing
        && decide ((s.sitting k).elapsed + 1 = (s.sitting k).defn.writing) then
      if (s.elapsedCounted k ((s.sitting k).elapsed + 1)).openClocks k then
        (s.elapsedCounted k ((s.sitting k).elapsed + 1)).changeSitting k fun r => { r with phase := .overtime }
      else (s.elapsedCounted k ((s.sitting k).elapsed + 1)).enterCollecting k
    else s.elapsedCounted k ((s.sitting k).elapsed + 1) := by
  unfold State.countWriting
  dsimp only
  rw [Nat.min_eq_right h]
  rfl

/-- What the second leaves of elapsed and of the entries, whatever the phase comes to. -/
theorem State.countWriting_keeps (h : (s.sitting k).elapsed + 1 ≤ Config.lastSecond) :
    ((s.countWriting k).sitting k).elapsed = (s.sitting k).elapsed + 1
      ∧ (s.countWriting k).roster.entries = (s.elapsedCounted k ((s.sitting k).elapsed + 1)).roster.entries := by
  have helapsed : ((s.elapsedCounted k ((s.sitting k).elapsed + 1)).sitting k).elapsed = (s.sitting k).elapsed + 1 :=
    congrArg (fun x => x.2.2.2.1) (State.elapsedCounted_course s k ((s.sitting k).elapsed + 1))
  have changed {f : Sitting → Sitting} (hf : ∀ r, (f r).elapsed = r.elapsed) :
      ((State.changeSitting (s.elapsedCounted k ((s.sitting k).elapsed + 1)) k f).sitting k).elapsed
          = (s.sitting k).elapsed + 1
        ∧ (State.changeSitting (s.elapsedCounted k ((s.sitting k).elapsed + 1)) k f).roster.entries
          = (s.elapsedCounted k ((s.sitting k).elapsed + 1)).roster.entries :=
    ⟨by rw [State.sitting_changeSitting_same, hf, helapsed], State.entries_changeSitting _ _ _⟩
  rw [State.countWriting_eq h]
  split
  · split
    · exact changed fun _ => rfl
    · exact changed fun _ => rfl
  · exact ⟨helapsed, rfl⟩

theorem State.openClocks_congr (h : t.roster.entries = s.roster.entries) (k : Nat) : t.openClocks k = s.openClocks k := by
  unfold State.openClocks State.entriesOf; rw [h]

/-- The end of writing: OVERTIME while a clock is not ENDED, and else COLLECTING with no hold (R70). -/
theorem State.countWriting_ends (h : (s.sitting k).elapsed + 1 ≤ Config.lastSecond)
    (hphase : (s.sitting k).phase = .writing) (hend : (s.sitting k).elapsed + 1 = (s.sitting k).defn.writing) :
    ((s.countWriting k).openClocks k = true → ((s.countWriting k).sitting k).phase = .overtime)
      ∧ ((s.countWriting k).openClocks k = false →
        ((s.countWriting k).sitting k).phase = .collecting ∧ ((s.countWriting k).sitting k).holds = {}) := by
  rw [State.openClocks_congr (State.countWriting_keeps h).2 k, State.countWriting_eq h]
  have hstill : ((s.elapsedCounted k ((s.sitting k).elapsed + 1)).sitting k).phase = .writing :=
    (phase_of_course (State.elapsedCounted_course s k _)).trans hphase
  rw [if_pos (by rw [hstill, decide_eq_true hend]; rfl)]
  refine ⟨fun hopen => ?_, fun hopen => ?_⟩
  · rw [if_pos hopen, State.sitting_changeSitting_same]
  · rw [if_neg (by rw [hopen]; simp)]
    unfold State.enterCollecting
    rw [State.sitting_changeSitting_same]
    exact ⟨rfl, rfl⟩

/-! ### The ends of the phases (R69, R70, R87, R90) -/

theorem readingEnd_ends (hon : s.power.power = .on) (howes : s.owes (.sitting k) = true)
    (hholds : (s.sitting k).holds = {}) (hphase : (s.sitting k).phase = .reading) (hleft : (s.sitting k).readingLeft ≤ 1) :
    ∃ t, exec (.readingEnd k) s = .next t ∧ (t.sitting k).phase = .writing ∧ (t.sitting k).elapsed = 0
      ∧ (∀ e ∈ t.roster.entries, e.sitting = k → e.clock ≠ .waiting) ∧ t.owes (.sitting k) = false
      ∧ OnlyChanges (mayChange (.readingEnd k)) s t := by
  have hexec : exec (.readingEnd k) s = .next ((s.settled (.sitting k)).take (.sitting k)) :=
    reach_event (b := fun s => s.advances k .reading && decide ((s.sitting k).readingLeft ≤ 1)) hon howes (by
      unfold State.advances
      simp [hphase, isHeld_none hholds, hleft])
  obtain ⟨hwriting, helapsed, hclocks⟩ := State.countReading_ends (s := s.settled (.sitting k)) hleft
  have htake : (s.settled (.sitting k)).take (.sitting k) = (s.settled (.sitting k)).countReading k :=
    State.takeSitting_reading (s := s.settled (.sitting k)) hphase hholds
  rw [← htake] at hwriting helapsed hclocks
  exact ⟨_, hexec, hwriting, helapsed, hclocks, State.owes_settled_take s _, sitting_frame hexec⟩

theorem lateLimit_ends (hon : s.power.power = .on) (howes : s.owes (.sitting k) = true)
    (hholds : (s.sitting k).holds = {}) (hphase : (s.sitting k).phase = .writing ∨ (s.sitting k).phase = .overtime)
    (hlate : (s.sitting k).elapsed + 1 = (s.sitting k).defn.lateLimit)
    (hlast : (s.sitting k).defn.lateLimit ≤ Config.lastSecond) :
    ∃ t, exec (.lateLimit k) s = .next t ∧ (t.sitting k).elapsed = (s.sitting k).elapsed + 1
      ∧ (∀ e ∈ t.roster.entries, e.sitting = k → e.presence ≠ .expected) ∧ t.owes (.sitting k) = false
      ∧ OnlyChanges (mayChange (.lateLimit k)) s t := by
  have hexec : exec (.lateLimit k) s = .next ((s.settled (.sitting k)).take (.sitting k)) :=
    reach_event (b := fun s => (s.advances k .writing || s.advances k .overtime)
      && decide ((s.sitting k).elapsed + 1 = (s.sitting k).defn.lateLimit)) hon howes (by
      unfold State.advances
      rcases hphase with hphase | hphase <;> simp [hphase, isHeld_none hholds, hlate])
  have htake : (s.settled (.sitting k)).take (.sitting k) = (s.settled (.sitting k)).countWriting k :=
    State.takeSitting_writing (s := s.settled (.sitting k)) hphase hholds
  obtain ⟨helapsed, hentries⟩ := State.countWriting_keeps (s := s.settled (.sitting k)) (k := k) (hlate ▸ hlast)
  have hsettled := State.elapsedCounted_late (s := s.settled (.sitting k)) hlate (Nat.lt_succ_self _)
  rw [← htake] at helapsed hentries
  exact ⟨_, hexec, helapsed, fun e he => hsettled e (hentries ▸ he), State.owes_settled_take s _, sitting_frame hexec⟩

theorem writingEnd_ends (hon : s.power.power = .on) (howes : s.owes (.sitting k) = true)
    (hholds : (s.sitting k).holds = {}) (hphase : (s.sitting k).phase = .writing)
    (hend : (s.sitting k).elapsed + 1 = (s.sitting k).defn.writing)
    (hlast : (s.sitting k).defn.writing ≤ Config.lastSecond) :
    ∃ t, exec (.writingEnd k) s = .next t ∧ (t.sitting k).elapsed = (s.sitting k).elapsed + 1
      ∧ (t.openClocks k = true → (t.sitting k).phase = .overtime)
      ∧ (t.openClocks k = false → (t.sitting k).phase = .collecting ∧ (t.sitting k).holds = {})
      ∧ t.owes (.sitting k) = false ∧ OnlyChanges (mayChange (.writingEnd k)) s t := by
  have hexec : exec (.writingEnd k) s = .next ((s.settled (.sitting k)).take (.sitting k)) :=
    reach_event (b := fun s => s.advances k .writing
      && decide ((s.sitting k).elapsed + 1 = (s.sitting k).defn.writing)) hon howes (by
      unfold State.advances
      simp [hphase, isHeld_none hholds, hend])
  have htake : (s.settled (.sitting k)).take (.sitting k) = (s.settled (.sitting k)).countWriting k :=
    State.takeSitting_writing (s := s.settled (.sitting k)) (.inl hphase) hholds
  obtain ⟨helapsed, -⟩ := State.countWriting_keeps (s := s.settled (.sitting k)) (k := k) (hend ▸ hlast)
  obtain ⟨hopen, hclosed⟩ := State.countWriting_ends (s := s.settled (.sitting k)) (hend ▸ hlast) hphase hend
  rw [← htake] at helapsed hopen hclosed
  exact ⟨_, hexec, helapsed, hopen, hclosed, State.owes_settled_take s _, sitting_frame hexec⟩

/-- Settles O40: the owed second is the sitting's own, and what it brings is read off the slots it goes through. -/
theorem phaseEnds : Obligations.PhaseEnds := by
  unfold Obligations.PhaseEnds
  intro s k hon howes _ _ hholds
  exact ⟨readingEnd_ends hon howes hholds, lateLimit_ends hon howes hholds, writingEnd_ends hon howes hholds⟩

/-! ### The hall second (R65, R69, R74, R200) -/

/-- The items of a second in which each sitting comes once. -/
theorem State.hallItems_split (s : State) (hk : k < Config.sittings) : ∃ a b : List HallItem,
    s.hallItems = a ++ .sitting k :: b ∧ .sitting k ∉ a ∧ .sitting k ∉ b := by
  have hmem : HallItem.sitting k ∈ s.hallItems := by
    unfold State.hallItems
    simp [hk]
  have hsittings : ((List.range Config.sittings).map HallItem.sitting).count (.sitting k) ≤ 1 :=
    List.nodup_iff_count_le_one.1 (List.nodup_range.map fun _ _ h => by injection h) _
  have honce : s.hallItems.count (.sitting k) ≤ 1 := by
    unfold State.hallItems
    rw [List.count_append, List.count_eq_zero.2 (by simp), Nat.zero_add]
    exact hsittings
  obtain ⟨a, b, hab⟩ := List.append_of_mem hmem
  rw [hab, List.count_append, List.count_cons_self] at honce
  exact ⟨a, b, hab, List.count_eq_zero.1 (by omega), List.count_eq_zero.1 (by omega)⟩

theorem State.catchUp_undisturbed (h : s.hall.owed = []) : Undisturbed s s.catchUp := by
  unfold State.catchUp
  rw [h]
  exact ((State.setOwed_only s [] (List.Subset.refl _) (.refl _ _)).undisturbed (by decide)).trans
    (.foldl _ State.failDeadline_undisturbed _)

/-- A second with nothing deferred takes every item. -/
theorem State.takeSecond_all (s : State) : s.takeSecond [] = s.hallItems.foldl State.take (s.setOwed []) := by
  have hnone : s.hallItems.filter ([] : List HallItem).contains = [] := List.filter_eq_nil_iff.2 (by simp)
  have hall : (s.hallItems.filter fun i => !([] : List HallItem).contains i) = s.hallItems :=
    List.filter_eq_self.2 (by simp)
  unfold State.takeSecond
  dsimp only
  rw [hnone, hall]

theorem State.foldl_take_calm (l : List HallItem) (h : .sitting k ∉ l) (s : State) : Calm k s (l.foldl State.take s) :=
  .foldl l (fun u _ hi => State.take_calm u fun hik => h (hik ▸ hi)) s

theorem State.owed_foldl_take (l : List HallItem) (s : State) : (l.foldl State.take s).hall.owed = s.hall.owed :=
  List.foldlRecOn (motive := fun u : State => u.hall.owed = s.hall.owed) l _ rfl
    fun u hu _ _ => (State.owed_take u _).trans hu

theorem OnlyChanges.lockout {bs : List Part} (h : OnlyChanges bs s t) (hb : Part.access ∉ bs) :
    t.port.lockout = s.port.lockout := by
  obtain ⟨-, -, hlockout⟩ := h.rest .access hb
  exact hlockout

/-- No item but its own writes the lockout (R200). -/
theorem State.lockout_take (s : State) (h : i ≠ .lockout) : (s.take i).port.lockout = s.port.lockout := by
  cases i with
  | lockout => exact absurd rfl h
  | offers => exact (State.takeOffers_only s (List.Subset.refl _) (.refl _ _)).lockout (by decide)
  | clock n => exact (State.takeClock_only s n (List.Subset.refl _) (.refl _ _)).lockout (by decide)
  | bell o => exact (State.takeBell_only s o (List.Subset.refl _) (.refl _ _)).lockout (by decide)
  | sitting k => exact (State.takeSitting_only s k (List.Subset.refl _) (.refl _ _)).lockout (by decide)

theorem State.lockout_foldl_take {l : List HallItem} (h : .lockout ∉ l) (s : State) :
    (l.foldl State.take s).port.lockout = s.port.lockout :=
  List.foldlRecOn (motive := fun u : State => u.port.lockout = s.port.lockout) l _ rfl
    fun u hu _ hi => (State.lockout_take u fun hc => h (hc ▸ hi)).trans hu

/-- The lockout falls by one at a second taken whole (R200). -/
theorem State.lockout_takeSecond (s : State) : (s.takeSecond []).port.lockout = s.port.lockout - 1 := by
  rw [State.takeSecond_all]
  have hitems : s.hallItems = .lockout :: s.hallItems.tail := rfl
  have hrest : HallItem.lockout ∉ s.hallItems.tail := by
    unfold State.hallItems
    simp
  rw [hitems, List.foldl_cons, State.lockout_foldl_take hrest]
  rfl

theorem State.lockout_catchUp (h : s.hall.owed = []) : s.catchUp.port.lockout = s.port.lockout := by
  unfold State.catchUp
  rw [h]
  exact List.foldlRecOn (motive := fun u : State => u.port.lockout = s.port.lockout) s.overdue _ rfl
    fun u hu d _ => ((State.failDeadline_only u d (List.Subset.refl _) (.refl _ _)).lockout (by decide)).trans hu

/-- A READING sitting that is not held counts a second taken whole, or becomes WRITING at its last (R69). -/
theorem State.takeSecond_reading (hk : k < Config.sittings) (hphase : (s.sitting k).phase = .reading)
    (hholds : (s.sitting k).holds = {}) :
    (1 < (s.sitting k).readingLeft → ((s.takeSecond []).sitting k).phase = .reading
        ∧ ((s.takeSecond []).sitting k).readingLeft = (s.sitting k).readingLeft - 1)
      ∧ ((s.sitting k).readingLeft ≤ 1 →
        ((s.takeSecond []).sitting k).phase = .writing ∧ ((s.takeSecond []).sitting k).elapsed = 0) := by
  obtain ⟨a, b, hitems, ha, hb⟩ := s.hallItems_split hk
  rw [State.takeSecond_all, hitems, List.foldl_append, List.foldl_cons]
  have hbefore : ((a.foldl State.take (s.setOwed [])).sitting k).course = (s.sitting k).course :=
    State.foldl_take_calm a ha (s.setOwed []) (by rw [show (s.setOwed []).sitting k = s.sitting k from rfl, hphase]; simp)
  generalize a.foldl State.take (s.setOwed []) = v at hbefore ⊢
  have hleft : (v.sitting k).readingLeft = (s.sitting k).readingLeft := congrArg (fun x => x.2.2.1) hbefore
  have hread : v.take (.sitting k) = v.countReading k :=
    State.takeSitting_reading ((phase_of_course hbefore).trans hphase)
      ((congrArg (fun x => x.2.2.2.2) hbefore).trans hholds)
  rw [hread]
  refine ⟨fun hmore => ?_, fun hlast => ?_⟩
  · have hcount := State.countReading_counts (s := v) (k := k) (hleft ▸ hmore)
    have hreading : ((v.countReading k).sitting k).phase = .reading := by
      rw [hcount]; exact (phase_of_course hbefore).trans hphase
    have hafter := State.foldl_take_calm b hb (v.countReading k) (by rw [hreading]; simp)
    refine ⟨(phase_of_course hafter).trans hreading, (congrArg (fun x => x.2.2.1) hafter).trans ?_⟩
    change ((v.countReading k).sitting k).readingLeft = _
    rw [hcount, ← hleft]
  · obtain ⟨hwriting, helapsed, -⟩ := State.countReading_ends (s := v) (k := k) (hleft ▸ hlast)
    have hafter := State.foldl_take_calm b hb (v.countReading k) (by rw [hwriting]; simp)
    exact ⟨(phase_of_course hafter).trans hwriting, (congrArg (fun x => x.2.2.2.1) hafter).trans helapsed⟩

theorem hallSecond_exec (hon : s.power.power = .on) (l : List HallItem) :
    exec (.hallSecond l) s = .next ((s.catchUp.advanceTime).takeSecond l) := by
  change execHallSecond l s = _
  unfold execHallSecond
  rw [hon]

/-- Hall time rises by one, whatever is deferred (R74). -/
theorem hallSecond_time (s : State) (l : List HallItem) :
    ((s.catchUp.advanceTime).takeSecond l).hall.time = min 4294967295 (s.hall.time + 1)
      ∧ ((s.catchUp.advanceTime).takeSecond l).hall.timeSet = s.hall.timeSet := by
  obtain ⟨htime, hset⟩ := (State.catchUp_only s (List.Subset.refl _) (.refl _ _)).rest .hallTime (by decide)
  obtain ⟨htime', hset'⟩ :=
    (State.takeSecond_only s.catchUp.advanceTime l (List.Subset.refl _) (.refl _ _)).rest .hallTime (by decide)
  refine ⟨htime'.trans ?_, hset'.trans hset⟩
  change min Config.lastSecond (s.catchUp.hall.time + 1) = _
  rw [htime]

/-- Settles O39: hall time by the frames; the items of a second are each taken once, and none but its own disturbs the
lockout or the course of a sitting that reads. -/
theorem hallSecondCounts : Obligations.HallSecondCounts := by
  unfold Obligations.HallSecondCounts
  intro s
  refine ⟨fun hpower later => ?_, fun hon later => ?_⟩
  · change execHallSecond later s = _
    unfold execHallSecond
    rcases hpower with hpower | hpower <;> rw [hpower] <;> rfl
  · have hexec := hallSecond_exec hon later
    obtain ⟨htime, hset⟩ := hallSecond_time s later
    refine ⟨_, hexec, htime, hset, execHallSecond_only hexec, fun hlater howed => ?_⟩
    subst hlater
    have hcaught (k : Nat) : (s.catchUp.advanceTime.sitting k).course = (s.sitting k).course :=
      (State.catchUp_undisturbed howed).course k
    refine ⟨?_, ?_, fun k hk hphase hholds => ?_⟩
    · rw [State.lockout_takeSecond]
      exact congrArg (· - 1) (State.lockout_catchUp howed)
    · rw [State.takeSecond_all, State.owed_foldl_take]; rfl
    · have hleft : (s.catchUp.advanceTime.sitting k).readingLeft = (s.sitting k).readingLeft :=
        congrArg (fun x => x.2.2.1) (hcaught k)
      rw [← hleft]
      exact State.takeSecond_reading hk ((phase_of_course (hcaught k)).trans hphase)
        ((congrArg (fun x => x.2.2.2.2) (hcaught k)).trans hholds)

end Sys2Proof.Machine

namespace Sys2Proof.Machine

variable {s t u : State} {p k j n : Nat} {e : Entry}

/-! ### CLOSE_COLLECTION (R71, R113) -/

/-- The standing of an entry whose script is MISSING where its slot is in the list. -/
def missingIn (l : List Nat) (x : (Nat × Nat × Nat) × Presence × ClockPhase × Custody) :
    (Nat × Nat × Nat) × Presence × ClockPhase × Custody :=
  if x.1.1 ∈ l then (x.1, x.2.1, x.2.2.1, .missing) else x

/-- After the script of a slot is declared MISSING, nothing else of the roster's standing has changed. -/
theorem State.declareMissing_undisturbed (s : State) (p : Nat) :
    Undisturbed (s.modEntry p fun e => { e with custody := .missing }) (s.declareMissing p) :=
  (State.count_undisturbed _ p (f := dropAwaiting) fun _ => rfl).trans (State.releaseVacated_undisturbed _ p)

theorem State.declareMissing_standing (s : State) (p : Nat) : (s.declareMissing p).roster.entries.map Entry.standing
    = (s.roster.entries.map Entry.standing).map (missingIn [p]) := by
  rw [(State.declareMissing_undisturbed s p).standing, List.map_map]
  unfold State.modEntry
  rw [State.setEntries_roster, List.map_map]
  refine List.map_congr_left fun e _ => ?_
  by_cases hp : e.slot = p
  · simp [missingIn, Entry.standing, identity, hp]
  · simp [missingIn, Entry.standing, identity, hp]

theorem missingIn_missingIn (p : Nat) (l : List Nat) (x : (Nat × Nat × Nat) × Presence × ClockPhase × Custody) :
    missingIn l (missingIn [p] x) = missingIn (p :: l) x := by
  unfold missingIn
  by_cases hp : x.1.1 = p
  · simp [hp]
  · simp [hp]

theorem identity_missingIn (l : List Nat) (x : (Nat × Nat × Nat) × Presence × ClockPhase × Custody) :
    (missingIn l x).1 = x.1 := by unfold missingIn; split <;> rfl

theorem custody_missingIn (l : List Nat) (e : Entry) :
    (missingIn l e.standing).2.2.2 = if e.slot ∈ l then .missing else e.custody := by
  unfold missingIn
  split
  · next h => exact (if_pos h).symm
  · next h => exact (if_neg h).symm

theorem State.declareMissings_standing (l : List Nat) (s : State) :
    (l.foldl State.declareMissing s).roster.entries.map Entry.standing
      = (s.roster.entries.map Entry.standing).map (missingIn l) := by
  induction l generalizing s with
  | nil => simp [missingIn]
  | cons p l ih =>
    rw [List.foldl_cons, ih, State.declareMissing_standing, List.map_map]
    exact List.map_congr_left fun x _ => missingIn_missingIn p l x

theorem State.declareMissings_course (l : List Nat) (s : State) (j : Nat) :
    ((l.foldl State.declareMissing s).sitting j).course = (s.sitting j).course :=
  List.foldlRecOn (motive := fun u : State => (u.sitting j).course = (s.sitting j).course) l _ rfl
    fun u hu p _ => ((State.declareMissing_undisturbed u p).course j).trans hu

/-- The standing of the entry of a number, as the standings of the roster have it. -/
theorem State.byNumber?_standing (s : State) (n : Nat) :
    (s.byNumber? n).map Entry.standing = (s.roster.entries.map Entry.standing).find? fun x => x.1.2.1 == n := by
  rw [List.find?_map]; rfl

/-- A roster whose standings are those of another through `missingIn` holds the same numbers. -/
theorem State.byNumber?_missingIn {l : List Nat}
    (h : t.roster.entries.map Entry.standing = (s.roster.entries.map Entry.standing).map (missingIn l))
    (he : s.byNumber? n = some e) :
    ∃ x, t.byNumber? n = some x ∧ x.standing = missingIn l e.standing := by
  have hfound := State.byNumber?_standing t n
  rw [h, List.find?_map] at hfound
  simp only [Function.comp_def, identity_missingIn] at hfound
  rw [← State.byNumber?_standing, he] at hfound
  obtain ⟨x, hx, hstanding⟩ := Option.map_eq_some_iff.1 hfound
  exact ⟨x, hx, hstanding⟩

theorem mem_handedIn (hs : s.RosterOrdered) (he : s.byNumber? n = some e) :
    e.slot ∈ s.handedIn k ↔ e.sitting = k ∧ e.custody = .handedIn := by
  have hentry := State.entry?_of_byNumber? hs he
  unfold State.handedIn
  rw [State.mem_slotsOf hs]
  constructor
  · rintro ⟨x, hx, hk, hc⟩
    rw [hentry] at hx; cases hx
    exact ⟨hk, by simpa using hc⟩
  · rintro ⟨hk, hc⟩
    exact ⟨e, hentry, hk, by simpa using hc⟩

theorem execCloseCollection_closes (h : s.Ready .closeCollection) (hk : k < Config.sittings)
    (hphase : (s.sitting k).phase = .collecting) :
    exec (.closeCollection k) s = .next ((((s.handedIn k).foldl State.declareMissing
      (s.startTask (taskCode .closeCollection))).changeSitting k fun r => { r with phase := .closed }).finishTask
        .ok false (.closed (s.handedIn k).length)) := by
  have hphase' : ((s.startTask (taskCode .closeCollection)).sitting k).phase = .collecting := hphase
  refine (task_next h).trans ?_
  dsimp only
  rw [not_badSitting hk, hphase']
  rfl

theorem closeCollection_closes (h : s.Ready .closeCollection) (hs : s.RosterOrdered) (hk : k < Config.sittings)
    (hphase : (s.sitting k).phase = .collecting) :
    ∃ t, exec (.closeCollection k) s = .next t
      ∧ t.Answered .ok false (.closed (s.slotsOf k fun e => e.custody = .handedIn).length)
      ∧ (t.sitting k).phase = .closed
      ∧ (∀ n e, s.byNumber? n = some e → ∃ x, t.byNumber? n = some x ∧ identity x = identity e ∧
          x.custody = if e.sitting = k ∧ e.custody = .handedIn then .missing else e.custody)
      ∧ (∀ j, j ≠ k → (t.sitting j).phase = (s.sitting j).phase)
      ∧ OnlyChanges (mayChange (.closeCollection k)) s t := by
  have hexec := execCloseCollection_closes h hk hphase
  generalize hv : (s.handedIn k).foldl State.declareMissing (s.startTask (taskCode .closeCollection)) = v at hexec
  have hframe : OnlyChanges clockParts (s.startTask (taskCode .closeCollection)) v := by
    subst hv
    exact .foldl (.refl _ _) fun u p => State.declareMissing_only u p (by decide) (.refl _ _)
  have hstanding : v.roster.entries.map Entry.standing
      = (s.roster.entries.map Entry.standing).map (missingIn (s.handedIn k)) := by
    subst hv
    exact State.declareMissings_standing _ (s.startTask (taskCode .closeCollection))
  have hcourse (j : Nat) : (v.sitting j).course = (s.sitting j).course := by
    subst hv
    exact State.declareMissings_course _ (s.startTask (taskCode .closeCollection)) j
  refine ⟨_, hexec, State.finishTask_answered (State.changeSitting_only v k _ (by decide) hframe) (by decide) _ _ _,
    congrArg Sitting.phase (State.sitting_changeSitting_same v k _), fun n e he => ?_, fun j hj => ?_,
    execCloseCollection_only hexec⟩
  · obtain ⟨x, hx, hxe⟩ := State.byNumber?_missingIn hstanding he
    have hkept := State.byNumber?_congr (State.entries_changeSitting v k fun r => { r with phase := .closed }) n
    refine ⟨x, hkept.trans hx, ?_, ?_⟩
    · exact (congrArg Prod.fst hxe).trans (identity_missingIn _ _)
    · have hcustody : x.custody = (missingIn (s.handedIn k) e.standing).2.2.2 := congrArg (fun x => x.2.2.2) hxe
      rw [hcustody, custody_missingIn]
      exact if_congr (mem_handedIn hs he) rfl rfl
  · exact (congrArg Sitting.phase (State.sitting_changeSitting_other (s := v) _ hj)).trans (phase_of_course (hcourse j))

/-! ### RETIRE_SITTING (R10, R36, R72, R73) -/

theorem State.entries_deleteEntry (s : State) (p : Nat) :
    (s.deleteEntry p).roster.entries = s.roster.entries.filter fun x => x.slot != p := by
  unfold State.deleteEntry
  split
  · rfl
  · next hnone =>
    exact (List.filter_eq_self.2 fun x hx => by simpa using State.slot_ne_of_entry?_none hnone hx).symm

theorem State.entries_deleteEntries (l : List Nat) (s : State) :
    (l.foldl State.deleteEntry s).roster.entries = s.roster.entries.filter fun x => !l.contains x.slot := by
  induction l generalizing s with
  | nil => exact (List.filter_eq_self.2 (by simp)).symm
  | cons p l ih =>
    rw [List.foldl_cons, ih, State.entries_deleteEntry, List.filter_filter]
    refine List.filter_congr fun x _ => ?_
    by_cases hp : x.slot = p <;> simp [hp]

/-- The entries of a sitting are deleted, and no others (R10). -/
theorem State.identities_deleteSitting (hs : s.RosterOrdered) (k : Nat) :
    ((s.slotsOf k fun _ => true).foldl State.deleteEntry s).roster.entries.map identity
      = (s.roster.entries.map identity).filter fun x => x.2.2 != k := by
  rw [State.entries_deleteEntries, List.filter_map]
  refine congrArg (List.map identity) (List.filter_congr fun e he => ?_)
  have hmem : e.slot ∈ s.slotsOf k (fun _ => true) ↔ e.sitting = k := by
    have hentry := State.entry?_of_mem hs he
    rw [State.mem_slotsOf hs]
    constructor
    · rintro ⟨x, hx, hk, -⟩
      rw [hentry] at hx; cases hx; exact hk
    · exact fun hk => ⟨e, hentry, hk, rfl⟩
  rw [Bool.eq_iff_iff]
  simp [hmem, identity]

/-- The extents of a zone without those a sitting owns (R36). -/
def ZoneExtents.without (k : Nat) (x : ZoneExtents) : ZoneExtents :=
  { front := if ownedBy k x.front then none else x.front, back := if ownedBy k x.back then none else x.back }

theorem ZoneExtents.without_owned (k : Nat) (x : ZoneExtents) :
    ownedBy k (x.without k).front = false ∧ ownedBy k (x.without k).back = false := by
  have hkept (y : Option Extent) : ownedBy k (if ownedBy k y then none else y) = false := by
    by_cases hy : ownedBy k y = true
    · rw [if_pos hy]; rfl
    · rw [if_neg hy]; simpa using hy
  exact ⟨hkept x.front, hkept x.back⟩

theorem State.zoneExtents_without {l : List Nat} (hl : l.Nodup) (k : Nat) (s : State) (z : Nat) :
    (l.foldl (fun s z => s.setZoneExtents z ((s.zoneExtents z).without k)) s).zoneExtents z
      = if z ∈ l then (s.zoneExtents z).without k else s.zoneExtents z := by
  induction l generalizing s with
  | nil => simp
  | cons y l ih =>
    obtain ⟨hy, hl⟩ := List.nodup_cons.1 hl
    rw [List.foldl_cons, ih hl, State.zoneExtents_setZoneExtents]
    by_cases hz : z = y
    · subst hz; simp [hy]
    · simp [hz]

theorem State.zoneExtents_dropExtents (s : State) (k : Nat) {z : Nat} (hz : z < Config.zones) :
    (s.dropExtents k).zoneExtents z = (s.zoneExtents z).without k :=
  (State.zoneExtents_without List.nodup_range k s z).trans (if_pos (List.mem_range.2 hz))

theorem OnlyChanges.key {bs : List Part} (h : OnlyChanges bs s t) (hb : Part.keys ∉ bs) (j : Nat) :
    t.key j = s.key j := by
  have hkeys : t.scoring.keys = s.scoring.keys := h.rest .keys hb
  unfold State.key; rw [hkeys]

theorem OnlyChanges.zoneExtents {bs : List Part} (h : OnlyChanges bs s t) (hb : Part.extents ∉ bs) (z : Nat) :
    t.zoneExtents z = s.zoneExtents z := by
  have hextents : t.seatMap.extents = s.seatMap.extents := h.rest .extents hb
  unfold State.zoneExtents; rw [hextents]

/-- What the end of a sitting leaves: no entry, an empty key, no extent and an EMPTY record (R72, R73). -/
theorem State.clearSitting_clears (hs : s.RosterOrdered) (k : Nat) :
    (s.clearSitting k).roster.entries.map identity = (s.roster.entries.map identity).filter (fun x => x.2.2 != k)
      ∧ (s.clearSitting k).sitting k = {} ∧ (s.clearSitting k).key k = {}
      ∧ (∀ j, j ≠ k → (s.clearSitting k).key j = s.key j)
      ∧ ∀ z, z < Config.zones → ownedBy k ((s.clearSitting k).zoneExtents z).front = false
        ∧ ownedBy k ((s.clearSitting k).zoneExtents z).back = false := by
  have hdelete : OnlyChanges [.identities, .entries, .tags, .sittings] s
      ((s.slotsOf k fun _ => true).foldl State.deleteEntry s) :=
    .foldl (.refl _ _) fun u p => State.deleteEntry_only u p (List.Subset.refl _) (.refl _ _)
  have hentries := State.identities_deleteSitting hs k
  unfold State.clearSitting
  dsimp only
  generalize (s.slotsOf k fun _ => true).foldl State.deleteEntry s = v at hdelete hentries
  have hdrop : OnlyChanges [.extents] (v.setKey k {}) ((v.setKey k {}).dropExtents k) :=
    State.dropExtents_only _ k (List.Subset.refl _) (.refl _ _)
  have hlast : OnlyChanges [.sittings, .bells, .lines, .notices] ((v.setKey k {}).dropExtents k)
      (((v.setKey k {}).dropExtents k).changeSitting k fun _ => {}) :=
    State.changeSitting_only _ k _ (List.Subset.refl _) (.refl _ _)
  have hkey (j : Nat) : (((v.setKey k {}).dropExtents k).changeSitting k fun _ => {}).key j
      = if j = k then {} else s.key j := by
    rw [hlast.key (by decide), hdrop.key (by decide), State.key_setKey, hdelete.key (by decide)]
  refine ⟨?_, State.sitting_changeSitting_same _ k _, (hkey k).trans (if_pos rfl), fun j hj => (hkey j).trans (if_neg hj),
    fun z hz => ?_⟩
  · rw [hlast.rest .entries (by decide), hdrop.rest .entries (by decide)]
    exact hentries
  · rw [hlast.zoneExtents (by decide), State.zoneExtents_dropExtents _ k hz]
    exact ZoneExtents.without_owned k _

theorem retireSitting_released (h : s.Ready .retireSitting) (hk : k < Config.sittings)
    (hphase : (s.sitting k).phase = .released) (htray : s.trayNames k = false) (hwalk : s.walkBusy k = false) :
    exec (.retireSitting k) s = .next (((s.startTask (taskCode .retireSitting)).clearSitting k).finishTask .ok false
      (.retired (s.entriesOf k).length none)) := by
  have hphase' : ((s.startTask (taskCode .retireSitting)).sitting k).phase = .released := hphase
  have hfree : ((s.startTask (taskCode .retireSitting)).trayNames k
      || (s.startTask (taskCode .retireSitting)).walkBusy k) = false := by
    rw [show (s.startTask (taskCode .retireSitting)).trayNames k = false from htray,
      show (s.startTask (taskCode .retireSitting)).walkBusy k = false from hwalk]; rfl
  refine (task_next h).trans ?_
  rw [not_badSitting hk, hphase', hfree]
  rfl

theorem retireSitting_defined (h : s.Ready .retireSitting) (hk : k < Config.sittings)
    (hphase : (s.sitting k).phase = .defined) (halloc : (s.sitting k).alloc ≠ .running) :
    exec (.retireSitting k) s
      = .next ((((s.startTask (taskCode .retireSitting)).clearPlacement k).clearSitting k).finishTask .ok false
        (.retired (s.entriesOf k).length (some (s.sittingOffers k).length))) := by
  have hphase' : ((s.startTask (taskCode .retireSitting)).sitting k).phase = .defined := hphase
  have halloc' : ((s.startTask (taskCode .retireSitting)).sitting k).alloc ≠ .running := halloc
  refine (task_next h).trans ?_
  rw [not_badSitting hk, hphase', if_neg halloc']
  rfl

/-- What a retirement leaves, once the sitting's candidates are free of seats and offers. -/
theorem retireSitting_retires {v : State} {x : Report}
    (hexec : exec (.retireSitting k) s = .next ((v.clearSitting k).finishTask .ok false x))
    (hv : OnlyChanges (.mailbox :: placementParts) s v) (hs : s.RosterOrdered) :
    ∃ t, exec (.retireSitting k) s = .next t ∧ t.port.running = none ∧ t.port.result.code = .ok
      ∧ t.roster.entries.map identity = (s.roster.entries.map identity).filter (fun x => x.2.2 != k)
      ∧ t.sitting k = {} ∧ t.key k = {} ∧ (∀ j, j ≠ k → t.key j = s.key j)
      ∧ (∀ z, z < Config.zones → ownedBy k (t.zoneExtents z).front = false ∧ ownedBy k (t.zoneExtents z).back = false)
      ∧ OnlyChanges (mayChange (.retireSitting k)) s t := by
  obtain ⟨hentries, hsitting, hkey, hothers, hextents⟩ :=
    State.clearSitting_clears (hv.rosterOrdered (by decide) hs) k
  rw [hv.rest .identities (by decide)] at hentries
  exact ⟨_, hexec, rfl, rfl, hentries, hsitting, hkey, fun j hj => (hothers j hj).trans (hv.key (by decide) j), hextents,
    execRetireSitting_only hexec⟩

/-- Settles O37: the scripts are declared MISSING slot by slot; a retirement deletes the sitting's slots and then what
the sitting itself holds. -/
theorem sittingsClosedAndRetired : Obligations.SittingsClosedAndRetired := by
  unfold Obligations.SittingsClosedAndRetired
  refine ⟨fun s k h hs hk hphase => closeCollection_closes h hs hk hphase, fun s k h hs hk hcase => ?_⟩
  have hstart : OnlyChanges (.mailbox :: placementParts) s (s.startTask (taskCode .retireSitting)) :=
    State.startTask_only s _ (by decide) (.refl _ _)
  rcases hcase with ⟨hphase, htray, hwalk⟩ | ⟨hphase, halloc⟩
  · exact retireSitting_retires (retireSitting_released h hk hphase htray hwalk) hstart hs
  · exact retireSitting_retires (retireSitting_defined h hk hphase halloc)
      (State.clearPlacement_only _ k (by decide) hstart) hs

end Sys2Proof.Machine

namespace Sys2Proof.Machine

variable {s t u : State} {p k j d : Nat} {i : HallItem} {o : Offer}

/-! ### The lockout and the bells (R80, R200) -/

theorem lockoutEnd_ends (hon : s.power.power = .on) (howes : s.owes .lockout = true) (hlast : s.port.lockout = 1) :
    exec .lockoutEnd s = .next { s with
      hall := { s.hall with owed := s.hall.owed.filter (· != .lockout) }, port := { s.port with lockout := 0 } } := by
  have hexec : exec .lockoutEnd s = .next ((s.settled .lockout).take .lockout) :=
    reach_event (b := fun s => decide (s.port.lockout = 1)) hon howes (decide_eq_true hlast)
  rw [hexec]
  change Host.Outcome.next { s with
    hall := { s.hall with owed := s.hall.owed.filter (· != HallItem.lockout) }
    port := { s.port with lockout := s.port.lockout - 1 } } = _
  rw [hlast]

theorem bellPulseEnd_ends {o : Nat} (hon : s.power.power = .on) (howes : s.owes (.bell o) = true) (hlast : s.bell o = 1) :
    ∃ t, exec (.bellPulseEnd o) s = .next t ∧ t.bell o = 0 ∧ (∀ j, j ≠ o → t.bell j = s.bell j)
      ∧ t.owes (.bell o) = false ∧ OnlyChanges [.owed, .bells] s t := by
  have hexec : exec (.bellPulseEnd o) s = .next ((s.settled (.bell o)).take (.bell o)) :=
    reach_event (b := fun s => decide (s.bell o = 1)) hon howes (decide_eq_true hlast)
  have hbell (j : Nat) : ((s.settled (.bell o)).takeBell o).bell j = if j = o then s.bell o - 1 else s.bell j :=
    State.bell_setBell (s := s.settled (.bell o)) o _ j
  exact ⟨_, hexec, (hbell o).trans (by rw [if_pos rfl, hlast]), fun j hj => (hbell j).trans (if_neg hj),
    State.owes_settled_take s _,
    State.takeBell_only _ o (by decide) (State.settled_only s _ (by decide) (.refl _ _))⟩

/-! ### The seats whose offers are at their deadline -/

theorem mem_insertAscending {x y : Nat} {l : List Nat} : y ∈ insertAscending x l ↔ y = x ∨ y ∈ l := by
  induction l with
  | nil => simp [insertAscending]
  | cons z l ih =>
    unfold insertAscending
    split
    · simp
    · split
      · next heq => subst heq; simp
      · rw [List.mem_cons, ih, List.mem_cons]; tauto

theorem insertAscending_ascending {x : Nat} {l : List Nat} (h : l.Pairwise (· < ·)) :
    (insertAscending x l).Pairwise (· < ·) := by
  induction l with
  | nil => simp [insertAscending]
  | cons z l ih =>
    obtain ⟨hz, hl⟩ := List.pairwise_cons.1 h
    unfold insertAscending
    split
    · next hlt =>
      refine List.pairwise_cons.2 ⟨fun y hy => ?_, h⟩
      rcases List.mem_cons.1 hy with rfl | hy
      · exact hlt
      · exact hlt.trans (hz y hy)
    · split
      · exact h
      · next hle hne =>
        refine List.pairwise_cons.2 ⟨fun y hy => ?_, ih hl⟩
        rcases mem_insertAscending.1 hy with rfl | hy
        · omega
        · exact hz y hy

/-- Seats collected in ascending order, each once. -/
theorem insertSeats_spec (l : List Offer) (m : List Nat) (hm : m.Pairwise (· < ·)) :
    (l.foldl (fun m o => insertAscending o.seat m) m).Pairwise (· < ·)
      ∧ ∀ d, d ∈ l.foldl (fun m o => insertAscending o.seat m) m ↔ d ∈ m ∨ d ∈ l.map Offer.seat := by
  induction l generalizing m with
  | nil => exact ⟨hm, fun d => by simp⟩
  | cons o l ih =>
    obtain ⟨hasc, hmem⟩ := ih _ (insertAscending_ascending (x := o.seat) hm)
    refine ⟨hasc, fun d => (hmem d).trans ?_⟩
    rw [mem_insertAscending, List.map_cons, List.mem_cons]
    tauto

theorem State.overdue_ascending (s : State) : s.overdue.Pairwise (· < ·) := (insertSeats_spec _ [] .nil).1

theorem State.mem_overdue : d ∈ s.overdue ↔ ∃ o ∈ s.placement.offers, o.seat = d ∧ o.stage = .sent 0 := by
  unfold State.overdue
  rw [(insertSeats_spec _ [] .nil).2 d]
  simp only [List.not_mem_nil, false_or, List.mem_map, List.mem_filter, beq_iff_eq]
  exact exists_congr fun o => by tauto

/-- The lowest of the seats at their deadline comes first (R53). -/
theorem State.overdue_first (hd : ∃ o ∈ s.placement.offers, o.seat = d ∧ o.stage = .sent 0)
    (hlow : ∀ o ∈ s.placement.offers, o.stage = .sent 0 → d ≤ o.seat) : ∃ l, s.overdue = d :: l := by
  have hmem := State.mem_overdue.2 hd
  have hasc := s.overdue_ascending
  have hall (y : Nat) (hy : y ∈ s.overdue) : d ≤ y := by
    obtain ⟨o, ho, rfl, hsent⟩ := State.mem_overdue.1 hy
    exact hlow o ho hsent
  cases hover : s.overdue with
  | nil => rw [hover] at hmem; cases hmem
  | cons y l =>
    rw [hover] at hmem hasc hall
    rcases List.mem_cons.1 hmem with rfl | hin
    · exact ⟨l, rfl⟩
    · have hlt := (List.pairwise_cons.1 hasc).1 d hin
      have hle := hall y List.mem_cons_self
      omega

theorem State.overdue_none (h : ∀ o ∈ s.placement.offers, o.stage ≠ .sent 0) : s.overdue = [] := by
  cases hover : s.overdue with
  | nil => rfl
  | cons y l =>
    obtain ⟨o, ho, -, hsent⟩ := State.mem_overdue.1 (hover ▸ List.mem_cons_self (a := y) (l := l))
    exact absurd hsent (h o ho)

/-! ### An offer fails at its deadline (R50, R53) -/

/-- A failed offer, told or not: CANCEL, and what follows it. -/
theorem State.failOffer_only_after (s : State) (o : Offer) (tell : Bool) :
    OnlyChanges [.lines, .notices, .run, .reseats] ((s.dropOffer o.seat).requestCancel o.seat) (s.failOffer o tell) := by
  have hremoved : OnlyChanges [.lines, .notices, .run, .reseats] ((s.dropOffer o.seat).requestCancel o.seat)
      (((s.dropOffer o.seat).requestCancel o.seat).removeOffer o.seat) := State.removeOffer_only _ _ (by decide) (.refl _ _)
  unfold State.failOffer
  refine State.retryStranded_only _ _ (by decide) (State.returnCandidate_only _ o (by decide) (.ite ?_ hremoved))
  split
  · exact State.withdrawOffer_only _ _ _ (by decide) hremoved
  · exact hremoved

/-- The offer that fails leaves the offer table, and no other (R53). -/
theorem State.failOffer_offers (s : State) (o : Offer) (tell : Bool) :
    (s.failOffer o tell).placement.offers = s.placement.offers.filter fun x => x.seat != o.seat :=
  ((s.failOffer_only_after o tell).offers (by decide)).trans
    ((State.requestCancel_only (s.dropOffer o.seat) o.seat (List.Subset.refl _) (.refl _ _)).offers (by decide))

/-- The seat of an offer that fails is EMPTY again, and no other seat changes (R24, R53). -/
theorem State.failOffer_seat (s : State) (h : (s.seat o.seat).tenure = .offered p) (tell : Bool) (j : Nat) :
    (s.failOffer o tell).seat j = if j = o.seat then { s.seat o.seat with tenure := .empty } else s.seat j := by
  have hrest := s.failOffer_only_after o tell
  rw [State.requestCancel_eq (s := s.dropOffer o.seat) h] at hrest
  rw [hrest.seat (by decide), State.seat_rewired]
  rfl

theorem State.offerOn?_none_filter (h : s.offerOn? d = none) :
    s.placement.offers = s.placement.offers.filter fun x => x.seat != d :=
  (List.filter_eq_self.2 fun x hx => by
    have := List.find?_eq_none.1 h x hx
    simpa using this).symm

theorem State.failDeadline_offers (s : State) (d : Nat) :
    (s.failDeadline d).placement.offers = s.placement.offers.filter fun x => x.seat != d := by
  unfold State.failDeadline
  split
  · next o ho => rw [State.failOffer_offers, State.offerOn?_seat ho]
  · next ho => exact State.offerOn?_none_filter ho

/-- Offers that fail seat by seat (R53). -/
theorem State.failDeadlines_offers (l : List Nat) (s : State) :
    (l.foldl State.failDeadline s).placement.offers = s.placement.offers.filter fun x => !l.contains x.seat := by
  induction l generalizing s with
  | nil => exact (List.filter_eq_self.2 (by simp)).symm
  | cons d l ih =>
    rw [List.foldl_cons, ih, State.failDeadline_offers, List.filter_filter]
    refine List.filter_congr fun x _ => ?_
    by_cases hd : x.seat = d <;> simp [hd]

/-- The offers at their deadline fail, and no other (R53). -/
theorem State.failOverdue_offers (hn : (s.placement.offers.map Offer.seat).Nodup) :
    (s.overdue.foldl State.failDeadline s).placement.offers
      = s.placement.offers.filter fun o => o.stage != .sent 0 := by
  rw [State.failDeadlines_offers]
  refine List.filter_congr fun o ho => ?_
  have hmem : o.seat ∈ s.overdue ↔ o.stage = .sent 0 := by
    rw [State.mem_overdue]
    constructor
    · rintro ⟨x, hx, hseat, hsent⟩
      rw [← List.inj_on_of_nodup_map hn hx ho hseat]; exact hsent
    · exact fun hsent => ⟨o, ho, rfl, hsent⟩
  rw [Bool.eq_iff_iff]
  simp [hmem]

/-! ### OFFER_DEADLINE (R50, R53) -/

/-- The state in which OFFER_DEADLINE looks for an offer at its deadline: the second is taken with it, or before. -/
def State.deadlineTaken (s : State) : State := if s.owes .offers then (s.settled .offers).tickOffers else s

theorem State.deadlineTaken_seat (s : State) (j : Nat) : s.deadlineTaken.seat j = s.seat j := by
  unfold State.deadlineTaken; split <;> rfl

theorem offerDeadline_exec (hon : s.power.power = .on) : exec .offerDeadline s
    = .next (match s.deadlineTaken.overdue with
      | d :: _ => s.deadlineTaken.failDeadline d
      | [] => s) := by
  change Host.Outcome.next (s.whileOn _) = _
  rw [State.whileOn_on hon]; rfl

theorem offerDeadline_fails (hon : s.power.power = .on) {slot : Nat}
    (hd : ∃ o ∈ s.deadlineTaken.placement.offers, o.seat = d ∧ o.stage = .sent 0)
    (hlow : ∀ o ∈ s.deadlineTaken.placement.offers, o.stage = .sent 0 → d ≤ o.seat)
    (hten : (s.seat d).tenure = .offered slot) :
    ∃ t, exec .offerDeadline s = .next t
      ∧ t.placement.offers = s.deadlineTaken.placement.offers.filter (fun o => o.seat != d)
      ∧ t.hall.owed = s.deadlineTaken.hall.owed ∧ (t.seat d).tenure = .empty ∧ (∀ j, j ≠ d → t.seat j = s.seat j)
      ∧ OnlyChanges (mayChange .offerDeadline) s t := by
  obtain ⟨l, hover⟩ := State.overdue_first hd hlow
  have hexec := offerDeadline_exec hon
  rw [hover] at hexec
  obtain ⟨x, hx, hxd, -⟩ := hd
  obtain ⟨o, ho⟩ : ∃ o, s.deadlineTaken.offerOn? d = some o :=
    Option.isSome_iff_exists.1 (List.find?_isSome.2 ⟨x, hx, by simpa using hxd⟩)
  have hfail : s.deadlineTaken.failDeadline d = s.deadlineTaken.failOffer o true := by
    unfold State.failDeadline; rw [ho]
  have hod := State.offerOn?_seat ho
  subst hod
  have hseat := State.failOffer_seat s.deadlineTaken (o := o) (p := slot) (by rw [State.deadlineTaken_seat]; exact hten) true
  have howed : (s.deadlineTaken.failOffer o true).hall.owed = s.deadlineTaken.hall.owed :=
    (State.failOffer_only _ o true (List.Subset.refl _) (.refl _ _)).rest .owed (by decide)
  refine ⟨_, hexec, State.failDeadline_offers _ _, by dsimp only; rw [hfail, howed], ?_, fun j hj => ?_,
    execOfferDeadline_only hexec⟩
  · dsimp only; rw [hfail, hseat, if_pos rfl]
  · dsimp only; rw [hfail, hseat, if_neg hj, State.deadlineTaken_seat]

/-! ### HALL_SECOND with all but the offers deferred (R50, R53) -/

/-- The offers after the fall of their deadlines (R50). -/
def fallenOffers (l : List Offer) : List Offer := l.map tickOffer

theorem tickOffer_sent_zero (h : o.stage = .sent 0) : (tickOffer o).stage = .sent 0 := by
  unfold tickOffer; rw [h]

theorem tickOffer_seat (o : Offer) : (tickOffer o).seat = o.seat := congrArg Prod.fst (tickOffer_pair o)

/-- Offers that had reached their deadline before are among those that have reached it after. -/
theorem fallenOffers_filter (l : List Offer) :
    (fallenOffers (l.filter fun o => o.stage != .sent 0)).filter (fun o => o.stage != .sent 0)
      = (fallenOffers l).filter fun o => o.stage != .sent 0 := by
  unfold fallenOffers
  rw [List.filter_map, List.filter_map, List.filter_filter]
  refine congrArg _ (List.filter_congr fun o _ => ?_)
  by_cases ho : o.stage = .sent 0
  · simp [ho, tickOffer_sent_zero ho]
  · simp [ho]

theorem State.takeOffers_offers (hn : (s.placement.offers.map Offer.seat).Nodup) :
    s.takeOffers.placement.offers = (fallenOffers s.placement.offers).filter fun o => o.stage != .sent 0 := by
  refine State.failOverdue_offers (s := s.tickOffers) ?_
  have hseats : (s.placement.offers.map tickOffer).map Offer.seat = s.placement.offers.map Offer.seat := by
    rw [List.map_map]
    exact List.map_congr_left fun o _ => tickOffer_seat o
  change ((s.placement.offers.map tickOffer).map Offer.seat).Nodup
  rw [hseats]
  exact hn

/-- A second that defers all but the offers takes the offers alone. -/
theorem State.takeSecond_offers {later : List HallItem} (hnot : .offers ∉ later)
    (hall : ∀ i ∈ s.hallItems, i ≠ .offers → i ∈ later) :
    s.takeSecond later = (s.setOwed (s.hallItems.filter (· != .offers))).takeOffers := by
  have hdeferred (i : HallItem) (hi : i ∈ s.hallItems) : later.contains i = (i != .offers) := by
    by_cases ho : i = .offers
    · subst ho; simpa using hnot
    · simp [ho, hall i hi ho]
  have hlater : s.hallItems.filter later.contains = s.hallItems.filter (· != .offers) := List.filter_congr hdeferred
  have hnow : (s.hallItems.filter fun i => !later.contains i) = s.hallItems.filter (· == .offers) :=
    List.filter_congr fun i hi => by rw [hdeferred i hi, bne, Bool.not_not]
  have honly : s.hallItems.filter (· == .offers) = [.offers] := by
    have hrest : HallItem.offers ∉ s.roster.entries.map (fun e => HallItem.clock e.number) ++ (List.range 4).map .bell
        ++ (List.range Config.sittings).map .sitting := by simp
    unfold State.hallItems
    rw [List.append_assoc, List.append_assoc, List.filter_append, ← List.append_assoc,
      List.filter_eq_nil_iff.2 fun i hi hc => hrest ((beq_iff_eq.1 hc : i = HallItem.offers) ▸ hi)]
    rfl
  unfold State.takeSecond
  dsimp only
  rw [hlater, hnow, honly]
  rfl

theorem State.hallItems_congr (h : t.roster.entries.map identity = s.roster.entries.map identity) :
    t.hallItems = s.hallItems := by
  have hclocks (v : State) : v.roster.entries.map (fun e => HallItem.clock e.number)
      = (v.roster.entries.map identity).map fun x => HallItem.clock x.2.1 := by rw [List.map_map]; rfl
  unfold State.hallItems
  rw [hclocks, hclocks, h]

theorem hallSecond_offers (hon : s.power.power = .on) {later : List HallItem} (howed : s.hall.owed = [])
    (hnot : .offers ∉ later) (hall : ∀ i ∈ s.hallItems, i ≠ .offers → i ∈ later)
    (hn : (s.placement.offers.map Offer.seat).Nodup) :
    ∃ t, exec (.hallSecond later) s = .next t
      ∧ t.placement.offers = (fallenOffers s.placement.offers).filter (fun o => o.stage != .sent 0)
      ∧ t.hall.owed = s.hallItems.filter (· != .offers) ∧ OnlyChanges (mayChange (.hallSecond later)) s t := by
  have hexec := hallSecond_exec hon later
  have hcaught : s.catchUp.advanceTime.placement.offers = s.placement.offers.filter fun o => o.stage != .sent 0 := by
    change s.catchUp.placement.offers = _
    unfold State.catchUp
    rw [howed]
    exact State.failOverdue_offers (s := s.setOwed []) hn
  have hitems : s.catchUp.advanceTime.hallItems = s.hallItems :=
    State.hallItems_congr ((State.catchUp_only s (List.Subset.refl _) (.refl _ _)).rest .identities (by decide))
  have htake := State.takeSecond_offers (s := s.catchUp.advanceTime) hnot (hitems.symm ▸ hall)
  rw [hitems] at htake
  rw [htake] at hexec
  refine ⟨_, hexec, ?_, (State.takeOffers_only _ (List.Subset.refl _) (.refl _ _)).rest .owed (by decide),
    execHallSecond_only hexec⟩
  refine (State.takeOffers_offers ?_).trans ?_
  · change (s.catchUp.advanceTime.placement.offers.map Offer.seat).Nodup
    rw [hcaught]
    exact hn.sublist (List.Sublist.map _ List.filter_sublist)
  · change List.filter _ (fallenOffers s.catchUp.advanceTime.placement.offers) = _
    rw [hcaught, fallenOffers_filter]

/-- Settles O42: the lockout and the bell by their own second; an offer that fails leaves the table and frees its seat,
and those at their deadline are collected in ascending order. -/
theorem timersEnd : Obligations.TimersEnd := by
  unfold Obligations.TimersEnd
  refine ⟨fun s hon => ⟨lockoutEnd_ends hon, fun _ howes hlast => bellPulseEnd_ends hon howes hlast⟩, fun s hon => ?_⟩
  refine ⟨fun d slot howes hd hlow hten => ?_, fun d slot howes hd hlow hten => ?_, fun howes hnone => ?_,
    fun later howed hnot hall hn => hallSecond_offers hon howed hnot hall hn⟩
  · have htaken : s.deadlineTaken = s := by unfold State.deadlineTaken; rw [howes]; rfl
    have hfails := offerDeadline_fails hon (slot := slot) (htaken.symm ▸ hd) (htaken.symm ▸ hlow) hten
    rw [htaken] at hfails
    exact hfails
  · have htaken : s.deadlineTaken = (s.settled .offers).tickOffers := by unfold State.deadlineTaken; rw [howes]; rfl
    have hfails := offerDeadline_fails hon (slot := slot) (htaken.symm ▸ hd) (htaken.symm ▸ hlow) hten
    rw [htaken] at hfails
    exact hfails
  · have htaken : s.deadlineTaken = s := by unfold State.deadlineTaken; rw [howes]; rfl
    rw [offerDeadline_exec hon, htaken, State.overdue_none hnone]

end Sys2Proof.Machine
